-- ==== Sys2Proof/Word.lean ====
section
/-! DEFINITION. The word types of the Ofelta FQ62: bytes on its links and the 32-bit clock (00_scope.md, Units and ranges). -/
namespace Sys2Proof

/-- One byte of a port transfer or a link frame (11, R178, R182). -/
abbrev Byte := BitVec 8

/-- The station clock, seconds; it wraps to 0 after its maximum (01, R2). -/
abbrev Clock := BitVec 32

/-- A capture stamp, absent until its event (01, R2). -/
abbrev Stamp := Option Clock

/-- A timer: its length in milliseconds while it runs, nothing while it is stopped (log 2). -/
abbrev Timer := Option Nat

/-- The largest value of a 32-bit mass or money field (00_scope.md, Units and ranges). -/
def max32 : Nat := 4294967295

end Sys2Proof
end

