-- ==== Sys2Proof/Syntax.lean ====
section
/-! DEFINITION. The commands of the FQ62: one constructor per row of spec/opcode_table.json, with its operands. -/
namespace Sys2Proof

/-- B0 to B11. -/
abbrev BankId := Fin 12
/-- K0 and K1. -/
abbrev CompId := Fin 2
/-- L0 and L1. -/
abbrev LoopId := Fin 2
/-- P0 to P7. -/
abbrev PosId := Fin 8
/-- H0 to H31. -/
abbrev HoldId := Fin 32
/-- Tariff plans 0 to 3. -/
abbrev PlanId := Fin 4

/-- The 34 measured channels of the field link (01, R6). -/
inductive Channel where
  | bankP (b : BankId)
  | bankT (b : BankId)
  | hoseP (p : PosId)
  | suctionP
  | ambientT
  | loopT (l : LoopId)
deriving DecidableEq, Repr

/-- How a port transfer of a known class names its record: by that class and a record number, or by class WINDOW,
which ignores the number (09, R159, R167). -/
structure Addr where
  window : Bool
  num    : Byte
deriving DecidableEq, Repr

/-- What the host clocks besides the operation, class, record number and field: the count byte, the whole bytes after
the header, the bits of an incomplete last byte (09, R158), and whether the port served the transfer at all (it does
not when SUMSEL was active at its select; 09, R169). -/
structure Tail where
  count  : Byte
  data   : List Byte
  extra  : Fin 8
  served : Bool
deriving DecidableEq, Repr

/-- Any bits clocked on the port: whole bytes, then the bits of an incomplete last byte (09, R158). -/
structure Transfer where
  bytes  : List Byte
  extra  : Fin 8
  served : Bool
deriving DecidableEq, Repr

/-- The three polls of 09, R158: no bits, one byte of any value, or a whole header with operation NOOP. -/
inductive Poll where
  | silent (served : Bool)
  | oneByte (first : Byte) (served : Bool)
  | header (cls : BitVec 4) (num field : Byte) (tail : Tail)
deriving DecidableEq, Repr

/-- What the part samples at the release of master reset: MARKSEL, PORTSEL and the line levels (01, R14; 10, R174). -/
structure Straps where
  marksel : Fin 4
  portsel : Bool
  esd     : Bool
  fault   : Vector Bool 2
  coupled : Vector Bool 8
  seated  : Vector Bool 8
deriving DecidableEq, Repr

/-- Which mark a MARK_WRITE starts at: field 2 or field 3 of the bank record (11, R180). -/
inductive MarkField where
  | low
  | high
deriving DecidableEq, Repr

/-- The commands. Link and line arrivals and expiries name the record they concern; a port transfer carries what the
host clocks. -/
inductive Instr where
  | sampleFrame (bytes : List Byte)
  | silenceTimerExpiry (c : Channel)
  | routeFrameComplete
  | coupledArrival (p : PosId)
  | uncoupledArrival (p : PosId)
  | seatedArrival (p : PosId)
  | liftArrival (p : PosId)
  | meterPulse (p : PosId) (moment : Nat)
  | vehicleFrame (p : PosId) (bytes : List Byte)
  | faultActive (k : CompId)
  | faultInactive (k : CompId)
  | esdAsserted
  | esdReleased
  | masterReset (straps : Straps)
  | clockSecond
  | leakWindowExpiry (b : BankId)
  | yieldWaitExpiry (p : PosId)
  | startTimerExpiry (k : CompId)
  | unloadTimerExpiry (k : CompId)
  | precoolTick (l : LoopId)
  | rampTick (p : PosId)
  | connectTimeout (p : PosId)
  | coolingTimeout (p : PosId)
  | bankWaitTimeout (p : PosId)
  | pulseTimerExpiry (p : PosId)
  | checkWindowExpiry (p : PosId)
  | heldTimerExpiry (p : PosId)
  | ventTimerExpiry (p : PosId)
  | freshnessExpiry (p : PosId)
  | deferralExpiry (p : PosId)
  | stallTimerExpiry (p : PosId)
  | summaryTransfer (bytes : Nat) (extra : Fin 8) (served : Bool)
  | noop (poll : Poll)
  | look (cls : BitVec 4) (num field : Byte) (tail : Tail)
  | setFields (cls : BitVec 4) (num field : Byte) (tail : Tail)
  | clockWrite (a : Addr) (tail : Tail)
  | powerAllowanceWrite (a : Addr) (tail : Tail)
  | switchMarginWrite (a : Addr) (tail : Tail)
  | tierWrite (a : Addr) (tail : Tail)
  | ratedPressureWrite (a : Addr) (tail : Tail)
  | markWrite (a : Addr) (mark : MarkField) (tail : Tail)
  | refillPriorityWrite (a : Addr) (tail : Tail)
  | capacityWrite (a : Addr) (tail : Tail)
  | classWrite (a : Addr) (tail : Tail)
  | rateLimitWrite (a : Addr) (tail : Tail)
  | strayMassClear (a : Addr) (tail : Tail)
  | errorCountClear (a : Addr) (tail : Tail)
  | enablesWrite (a : Addr) (tail : Tail)
  | start (a : Addr) (tail : Tail)
  | setup (a : Addr) (tail : Tail)
  | resume (a : Addr) (tail : Tail)
  | clear (a : Addr) (tail : Tail)
  | isolate (a : Addr) (tail : Tail)
  | restore (a : Addr) (tail : Tail)
  | refill (a : Addr) (tail : Tail)
  | cancelRefill (a : Addr) (tail : Tail)
  | withhold (a : Addr) (tail : Tail)
  | release (a : Addr) (tail : Tail)
  | clearFault (a : Addr) (tail : Tail)
  | authorise (a : Addr) (tail : Tail)
  | stop (a : Addr) (tail : Tail)
  | pause (a : Addr) (tail : Tail)
  | continue_ (a : Addr) (tail : Tail)
  | ack (a : Addr) (tail : Tail)
  | open_ (a : Addr) (tail : Tail)
  | retire (a : Addr) (tail : Tail)
  | select (cls : BitVec 4) (num field : Byte) (tail : Tail)
  | failedTransfer (t : Transfer)
deriving DecidableEq, Repr

end Sys2Proof
end

