-- ==== Sys2Proof/Config.lean ====
section
/-! DEFINITION. Fixed numbers of the part and the free values its spec leaves open (logs 6, 7, 8). -/
namespace Sys2Proof

/-- Free value: what a 32-bit mass field holds after a sum that does not fit it; the spec states no result
(08, R139, R141, R147; log 6). Applied to the free-value counter of State. -/
opaque Config.freeMass : Nat → BitVec 32

/-- Free value: a byte the host reads on a port transfer the part does not serve, "no defined data"
(09, R169; log 7). Applied to the free-value counter of State. -/
opaque Config.freeByte : Nat → Byte

/-- Free value: a pressure read where the rules say it is always present and State holds none (log 8). -/
opaque Config.absentPressure : Nat

/-- Free value: a price, mass ceiling or table cell read where the rules say it is always present and State holds
none, such as a dash of the ramp table (06, R111; log 8). -/
opaque Config.absentNumber : Nat

namespace Config

/-- Silence timer of a channel, 2,000 ms (01, R8). -/
def silenceMs : Nat := 2000
/-- Yield wait timer, 10 s (03, R60). -/
def yieldWaitMs : Nat := 10000
/-- Connect timer, 180 s (05, R89). -/
def connectMs : Nat := 180000
/-- Cooling timer, 300 s (05, R89). -/
def coolingMs : Nat := 300000
/-- Bank wait timer, 60 s (05, R89). -/
def bankWaitMs : Nat := 60000
/-- Pulse timer, 1,000 ms (05, R89). -/
def pulseMs : Nat := 1000
/-- Check window, 5 s (05, R89). -/
def checkMs : Nat := 5000
/-- Held timer, 120 s (05, R89). -/
def heldMs : Nat := 120000
/-- Period of the precool and ramp ticks, 1 s (04, R73; 06, R107). -/
def tickMs : Nat := 1000
/-- Bank temperature at which a bank is isolated and tank temperature at which a fill ends, 85.0 °C
(02, R25; 07, R135). -/
def hotTemperature : Int := 850
/-- Marker of sample and route frames (11, R182). -/
def sampleMarker : Byte := 0x5A
/-- Marker of vehicle frames (11, R182). -/
def vehicleMarker : Byte := 0x7E

end Config
end Sys2Proof
end

