-- ==== Sys2Proof/Machine/State.lean ====
section
/-! DEFINITION. State of the FQ62: every record, timer, queue and line the spec names, as plain data, and State.reset. -/
namespace Sys2Proof.Machine

/-- Station phase (01, R1). -/
inductive Phase where
  | setup
  | service
deriving DecidableEq, Repr

/-- Halt state of the station (01, R1, R15). -/
inductive HaltState where
  | running
  | halted
deriving DecidableEq, Repr

/-- SPI mode captured from PORTSEL (01, R14). -/
inductive PortMode where
  | mode0
  | mode3
deriving DecidableEq, Repr

/-- Present levels of the lines the part samples (01, R1). -/
structure InputLevels where
  esd     : Bool
  fault   : Vector Bool 2
  coupled : Vector Bool 8
  seated  : Vector Bool 8
deriving DecidableEq, Repr

/-- The station record (01, R1) but for its read-outs. -/
structure Station where
  clock          : Clock
  phase          : Phase
  halt           : HaltState
  markProfile    : Fin 4
  portMode       : PortMode
  inputs         : InputLevels
  allowance      : Nat
  switchMargin   : Nat
  suctionMin     : Nat
  suction        : Option Nat
  ambient        : Option Int
  leakAllowance  : Nat
  leakWindow     : Nat
  taperMass      : Nat
  graceMass      : Nat
  stallWindow    : Nat
  deferralLimit  : Nat
deriving DecidableEq, Repr

/-- Quality of a field link channel (01, R7). -/
inductive Quality where
  | good
  | bad
deriving DecidableEq, Repr

/-- What the field link interface keeps of one channel (01, R6 to R8). -/
structure ChannelState where
  quality : Quality
  value   : Option Int
  silence : Timer
deriving DecidableEq, Repr

/-- Pressure class of a bank (02, R19). -/
inductive Tier where
  | unused
  | t1
  | t2
  | t3
deriving DecidableEq, Repr

/-- Bank states (02, R19). -/
inductive BankState where
  | unused
  | ready
  | serving
  | refilling
  | isolated
deriving DecidableEq, Repr

/-- Who holds a bank (02, R31). -/
inductive Claimant where
  | pos (p : PosId)
  | comp (k : CompId)
deriving DecidableEq, Repr

/-- Why a bank is isolated (02, R28). -/
inductive IsoReason where
  | host
  | sensor
  | overpressure
  | overtemp
  | leak
deriving DecidableEq, Repr

/-- A bank record with its leak window timer (02, R19, R27). -/
structure Bank where
  tier        : Tier
  rated       : Nat
  low         : Nat
  high        : Nat
  pressure    : Option Nat
  temperature : Option Int
  state       : BankState
  claimant    : Option Claimant
  belowLow    : Bool
  atHigh      : Bool
  priority    : Nat
  yields      : Nat
  isolation   : Option IsoReason
  leakRef     : Option Nat
  leakStamp   : Stamp
  leakTimer   : Timer
deriving DecidableEq, Repr

/-- An entry of the refill queue (03, R43). -/
structure QueueEntry where
  bank  : BankId
  stamp : Clock
deriving DecidableEq, Repr

/-- An entry of the bank wait list with its yield wait timer and mark (02, R34; 03, R60). -/
structure WaitEntry where
  pos    : PosId
  tiers  : List Tier
  need   : Nat
  stamp  : Clock
  yieldTimer : Timer
  waited : Bool
deriving DecidableEq, Repr

/-- Compressor states (03, R41). -/
inductive CompState where
  | stopped
  | starting
  | running
  | unloading
  | faulted
deriving DecidableEq, Repr

/-- A compressor record with its timers (03, R40, R41); its bank is also its discharge route. -/
structure Compressor where
  state      : CompState
  reach      : Tier
  draw       : Nat
  startTime  : Nat
  unloadTime : Nat
  bank       : Option BankId
  withheld   : Bool
  startStamp : Stamp
  refills    : BitVec 16
  startTimer : Timer
  unloadTimer : Timer
deriving DecidableEq, Repr

/-- The suction condition (03, R48). -/
inductive Suction where
  | sufficient
  | short
deriving DecidableEq, Repr

/-- Chiller states (04, R71). -/
inductive ChillerState where
  | off
  | waitingPower
  | running
deriving DecidableEq, Repr

/-- Temperature class of a loop (04, R75). -/
inductive Band where
  | cold
  | cool
  | lost
deriving DecidableEq, Repr

/-- A loop record with its tick timer (04, R67, R73). -/
structure Loop where
  draw        : Nat
  capacity    : Nat
  floor       : Nat
  recharge    : Nat
  consumption : Nat
  reserve     : Nat
  outlet      : Option Int
  chiller     : ChillerState
  band        : Band
  loss        : Nat
  grants      : List PosId
  queue       : List PosId
  tick        : Timer
deriving DecidableEq, Repr

/-- Position classes (05, R86). -/
inductive PosClass where
  | unused
  | bus35
  | car70
deriving DecidableEq, Repr

/-- Fallback reactions (05, R86; 07, R132). -/
inductive Reaction where
  | immediate
  | atStep
deriving DecidableEq, Repr

/-- Configuration fields of a position (05, R86; freshness time 07, R127). -/
structure PosConfig where
  cls           : PosClass
  precool       : Bool
  loop          : Option LoopId
  receiver      : Bool
  reaction      : Reaction
  gramsPerPulse : Nat
  ventTime      : Nat
  freshnessTime : Nat
deriving DecidableEq, Repr

/-- Session states (05, R88). -/
inductive SessionState where
  | idle
  | authorised
  | cooling
  | pulsing
  | checking
  | fuelling
  | held
  | venting
  | done
deriving DecidableEq, Repr

/-- Mode of a fill (07, R131). -/
inductive Mode where
  | comm
  | noncomm
deriving DecidableEq, Repr

/-- State of a valve. -/
inductive Valve where
  | closed
  | opened
deriving DecidableEq, Repr

/-- The set of held causes (05, R97). -/
structure Causes where
  noBank  : Bool
  precool : Bool
  vehicle : Bool
  host    : Bool
deriving DecidableEq, Repr

/-- The empty set of held causes. -/
def Causes.empty : Causes := ⟨false, false, false, false⟩

/-- End reasons, in the order of the table of R104 (05). -/
inductive EndReason where
  | fullPressure
  | fullSoc
  | limitMass
  | limitMoney
  | hostStop
  | tankHot
  | vehicleAbort
  | vehicleHalt
  | noSupply
  | precoolTimeout
  | precoolLost
  | stall
  | sensor
  | leak
  | lowStart
  | stationHalt
  | cleared
  | heldTimeout
  | uncoupled
deriving DecidableEq, Repr

/-- Commands of a vehicle (07, R126). -/
inductive VehCommand where
  | run
  | halt
  | abort
deriving DecidableEq, Repr

/-- Fallback states (07, R127). -/
inductive Fallback where
  | none
  | deferred
  | applied
deriving DecidableEq, Repr

/-- The vehicle group (07, R127); its data state is FRESH while the freshness timer runs. -/
structure VehicleGroup where
  volume      : Nat
  pressure    : Nat
  temperature : Int
  command     : VehCommand
  sequence    : Byte
  frames      : Nat
  invalids    : Nat
  stamp       : Clock
  fallback    : Fallback
deriving DecidableEq, Repr

/-- The session and route fields of a position (05, R88), its taper indication (06, R110) and the band its loop last
reported to it (06, R109). -/
structure Session where
  state       : SessionState
  boundHold   : Option HoldId
  lastHold    : Option HoldId
  mode        : Option Mode
  target      : Nat
  rateLimit   : Nat
  pendingRate : Option Nat
  effRate     : Nat
  ceiling     : Nat
  hose        : Option Nat
  current     : Option BankId
  staged      : Option BankId
  cursor      : Tier
  causes      : Causes
  steps       : Nat
  initial     : Nat
  coupledStamp : Stamp
  fuelStamp   : Stamp
  endStamp    : Stamp
  endReason   : Option EndReason
  vehicle     : Option VehicleGroup
  supply      : Option BankId
  control     : Valve
  vent        : Valve
  taper       : Bool
  band        : Band
deriving DecidableEq, Repr

/-- Timers of a position (05, R89; 06, R107; 07, R130, R132; 08, R144). -/
structure PosTimers where
  connect   : Timer
  cooling   : Timer
  bankWait  : Timer
  pulse     : Timer
  check     : Timer
  held      : Timer
  vent      : Timer
  ramp      : Timer
  freshness : Timer
  deferral  : Timer
  stall     : Timer
deriving DecidableEq, Repr

/-- Meter of a position (08, R139, R140). The moment of the previous pulse is in microseconds of the position's own
elapsed time (log 18). -/
structure Meter where
  metered   : Nat
  period    : Option Nat
  flow      : Nat
  stray     : Nat
  prevPulse : Option Nat
deriving DecidableEq, Repr

/-- A vehicle frame being assembled: the bytes after its marker, and whether its session entered IDLE or DONE
meanwhile, so that it is discarded when complete (07, R126). -/
structure PartFrame where
  bytes  : List Byte
  doomed : Bool
deriving DecidableEq, Repr

/-- A position record (05, R86, R88; 07, R127; 08, R139). -/
structure Position where
  cfg   : PosConfig
  ses   : Session
  tmr   : PosTimers
  meter : Meter
  rx    : Option PartFrame
deriving DecidableEq, Repr

/-- Hold states (08, R147). -/
inductive HoldState where
  | free
  | opened
  | bound
  | settled
deriving DecidableEq, Repr

/-- Class permits of a hold (08, R147). -/
inductive Permit where
  | bus35
  | car70
  | either
deriving DecidableEq, Repr

/-- Limit kinds of a hold (08, R147). -/
inductive LimitKind where
  | mass
  | money
deriving DecidableEq, Repr

/-- A hold record (08, R147). -/
structure Hold where
  state        : HoldState
  account      : Nat
  permit       : Permit
  kind         : LimitKind
  limit        : Nat
  plan         : PlanId
  price        : Option Nat
  massCeiling  : Option Nat
  position     : Option PosId
  mark         : Nat
  conditioning : Nat
  sold         : Nat
  overrun      : Nat
  amount       : Nat
  openStamp    : Stamp
  bindStamp    : Stamp
  settleStamp  : Stamp
  endReason    : Option EndReason
deriving DecidableEq, Repr

/-- A tariff plan (08, R146). -/
structure Plan where
  bus35 : Nat
  car70 : Nat
deriving DecidableEq, Repr

/-- Results of a port transfer (11, R178). -/
inductive Result where
  | ok
  | framing
  | length
  | noRecord
  | noField
  | noVerb
  | readOnly
  | range
  | state
  | busy
  | phase
  | halted
  | noWindow
deriving DecidableEq, Repr

/-- A record of the part, by class and number (09, R159). -/
inductive RecordRef where
  | station
  | bank (b : BankId)
  | comp (k : CompId)
  | loop (l : LoopId)
  | position (p : PosId)
  | hold (h : HoldId)
  | tariff (n : PlanId)
  | table (n : Fin 3)
  | notice
deriving DecidableEq, Repr

/-- The port's own fields of the station record (09, R166). -/
structure Port where
  lastResult : Result
  errorCount : Nat
  firstError : Option Result
  window     : Option RecordRef
deriving DecidableEq, Repr

/-- The notice unit's flags, N0 in the least significant bit (10, R170). -/
structure Notices where
  requests : BitVec 16
  enables  : BitVec 16
deriving DecidableEq, Repr

/-- The part of the route record that belongs to one position (01, R10). -/
structure PosRoute where
  supply  : Option BankId
  control : Valve
  vent    : Valve
deriving DecidableEq, Repr

/-- The whole route record, as a route frame carries it (01, R10). -/
structure RouteRecord where
  positions : Vector PosRoute 8
  discharge : Vector (Option BankId) 2
deriving DecidableEq, Repr

/-- The field link interface: channels, outgoing route frames, the sample frame being received (01, R6 to R10; 11,
R182). -/
structure FieldLink where
  bankP   : Vector ChannelState 12
  bankT   : Vector ChannelState 12
  hoseP   : Vector ChannelState 8
  suction : ChannelState
  ambient : ChannelState
  loopT   : Vector ChannelState 2
  sending : Option RouteRecord
  waiting : Option RouteRecord
  rx      : Option (List Byte)
deriving DecidableEq, Repr

/-- The machine. `pending` is the queue of commands, oldest first; `hostOut` the bytes clocked out on the latest host
transfer served (log 16); `freeIndex` feeds the free values (log 20). -/
structure State where
  station    : Station
  link       : FieldLink
  banks      : Vector Bank 12
  waitList   : List WaitEntry
  comps      : Vector Compressor 2
  refillQueue : List QueueEntry
  suction    : Suction
  powerQueue : List LoopId
  loops      : Vector Loop 2
  positions  : Vector Position 8
  holds      : Vector Hold 32
  plans      : Vector Plan 4
  rampTable  : Vector Nat 7
  targetTable : Vector Nat 10
  fullTable  : Vector Nat 8
  port       : Port
  notices    : Notices
  hostOut    : List Byte
  freeIndex  : Nat
  pending    : List Instr
deriving DecidableEq, Repr

/-- No command of the FQ62 ends the machine: a refused transfer is a port result, a faulted compressor and an isolated
bank are states (09, R165; 03, R57; 02, R28). So there is no fault; nothing raises one, which is safe. -/
inductive Fault where
deriving DecidableEq, Repr

/-- Refusals of the model. -/
inductive Refusal where
  /-- Raised by an arm of the dispatch whose command has no meaning yet; safe. No arm raises it. -/
  | notModelled (mnemonic : String)
deriving DecidableEq, Repr

/-- A bank after master reset (02, R19). -/
def Bank.reset : Bank :=
  { tier := .unused, rated := 0, low := 0, high := 0, pressure := none, temperature := none, state := .unused,
    claimant := none, belowLow := false, atHigh := false, priority := 1, yields := 0, isolation := none,
    leakRef := none, leakStamp := none, leakTimer := none }

/-- A compressor after master reset (03, R40). -/
def Compressor.reset (reach : Tier) (draw : Nat) : Compressor :=
  { state := .stopped, reach := reach, draw := draw, startTime := 20, unloadTime := 15, bank := none,
    withheld := false, startStamp := none, refills := 0, startTimer := none, unloadTimer := none }

/-- A loop after master reset (04, R67). -/
def Loop.reset : Loop :=
  { draw := 90, capacity := 36000, floor := 6000, recharge := 40, consumption := 60, reserve := 0, outlet := none,
    chiller := .off, band := .lost, loss := 0, grants := [], queue := [], tick := none }

/-- A position's configuration after master reset (05, R86; 07, R127). -/
def PosConfig.reset : PosConfig :=
  { cls := .unused, precool := false, loop := none, receiver := false, reaction := .immediate, gramsPerPulse := 2,
    ventTime := 3, freshnessTime := 1500 }

/-- A session after master reset (05, R88; the reported band is a DESIGN CHOICE, log 9). -/
def Session.reset : Session :=
  { state := .idle, boundHold := none, lastHold := none, mode := none, target := 0, rateLimit := 500,
    pendingRate := none, effRate := 0, ceiling := 0, hose := none, current := none, staged := none, cursor := .t1,
    causes := Causes.empty, steps := 0, initial := 0, coupledStamp := none, fuelStamp := none, endStamp := none,
    endReason := none, vehicle := none, supply := none, control := .closed, vent := .closed, taper := false,
    band := .lost }

/-- Every timer of a position stopped (05, R89). -/
def PosTimers.stopped : PosTimers :=
  { connect := none, cooling := none, bankWait := none, pulse := none, check := none, held := none, vent := none,
    ramp := none, freshness := none, deferral := none, stall := none }

/-- A meter after master reset (08, R139, R157). -/
def Meter.reset : Meter := { metered := 0, period := none, flow := 0, stray := 0, prevPulse := none }

/-- A position after master reset. -/
def Position.reset : Position :=
  { cfg := PosConfig.reset, ses := Session.reset, tmr := PosTimers.stopped, meter := Meter.reset, rx := none }

/-- A hold with its FREE values (08, R147). -/
def Hold.free : Hold :=
  { state := .free, account := 0, permit := .either, kind := .mass, limit := 0, plan := 0, price := none,
    massCeiling := none, position := none, mark := 0, conditioning := 0, sold := 0, overrun := 0, amount := 0,
    openStamp := none, bindStamp := none, settleStamp := none, endReason := none }

/-- A channel after master reset (01, R8). -/
def ChannelState.reset : ChannelState := { quality := .bad, value := none, silence := none }

/-- The closed route record (01, R10). -/
def RouteRecord.closed : RouteRecord :=
  { positions := Vector.replicate 8 { supply := none, control := .closed, vent := .closed },
    discharge := Vector.replicate 2 none }

/-- The field link after master reset, with the one route frame made at the release (01, R8, R10). -/
def FieldLink.reset : FieldLink :=
  { bankP := Vector.replicate 12 ChannelState.reset, bankT := Vector.replicate 12 ChannelState.reset,
    hoseP := Vector.replicate 8 ChannelState.reset, suction := ChannelState.reset, ambient := ChannelState.reset,
    loopT := Vector.replicate 2 ChannelState.reset, sending := some RouteRecord.closed, waiting := none, rx := none }

/-- The station record after master reset, by the straps and lines at the release (01, R1, R14). -/
def Station.reset (st : Straps) : Station :=
  { clock := 0, phase := .setup, halt := if st.esd then .halted else .running, markProfile := st.marksel,
    portMode := if st.portsel then .mode3 else .mode0,
    inputs := { esd := st.esd, fault := st.fault, coupled := st.coupled, seated := st.seated },
    allowance := 0, switchMargin := 200, suctionMin := 300, suction := none, ambient := none, leakAllowance := 50,
    leakWindow := 600, taperMass := 500, graceMass := 100, stallWindow := 20, deferralLimit := 5 }

/-- The straps and lines State.reset takes: all low (DESIGN CHOICE, log 4). -/
def Straps.low : Straps :=
  { marksel := 0, portsel := false, esd := false, fault := Vector.replicate 2 false,
    coupled := Vector.replicate 8 false, seated := Vector.replicate 8 false }

/-- The machine right after the release of master reset with every strap and line low (10, R174; log 4). -/
def State.reset : State :=
  { station := Station.reset Straps.low, link := FieldLink.reset, banks := Vector.replicate 12 Bank.reset,
    waitList := [], comps := #v[Compressor.reset .t2 160, Compressor.reset .t3 220], refillQueue := [],
    suction := .short, powerQueue := [], loops := Vector.replicate 2 Loop.reset,
    positions := Vector.replicate 8 Position.reset, holds := Vector.replicate 32 Hold.free,
    plans := Vector.replicate 4 { bus35 := 1, car70 := 1 }, rampTable := #v[47, 30, 0, 80, 60, 0, 40],
    targetTable := #v[8400, 8200, 7900, 7600, 7300, 4200, 4100, 3950, 3800, 3650],
    fullTable := #v[6660, 7050, 7430, 7800, 8170, 8530, 8750, 8750],
    port := { lastResult := .ok, errorCount := 0, firstError := none, window := none },
    notices := { requests := 0, enables := 0 }, hostOut := [], freeIndex := 0, pending := [] }

end Sys2Proof.Machine
end

