-- ==== Sys2Proof/Machine/Flags.lean ====
section
/-! DEFINITION. What one record says of itself: level flags, marks, bands, granted power, notice line, class of an end
reason, the records the port may name. No function here changes more than the record it is given. -/
namespace Sys2Proof.Machine

/-- T1, T2 and T3 in rising order (02, R19); a compressor reaches the tiers up to its own (03, R50). -/
def Tier.rank : Tier → Nat
  | .unused => 0
  | .t1 => 1
  | .t2 => 2
  | .t3 => 3

/-- Allowed tiers of a class, in order (05, R86). -/
def PosClass.tiers : PosClass → List Tier
  | .unused => []
  | .bus35 => [.t1, .t2]
  | .car70 => [.t2, .t3]

/-- First allowed tier of a class (05, R89). -/
def PosClass.firstTier : PosClass → Tier
  | .unused => .t1
  | .bus35 => .t1
  | .car70 => .t2

/-- Class maximum target (05, R86); class UNUSED has none and is never authorised (log 8). -/
def PosClass.maxTarget : PosClass → Nat
  | .unused => Config.absentNumber
  | .bus35 => 4375
  | .car70 => 8750

/-- Allowed tiers from a tier cursor onward (06, R115). -/
def PosClass.tiersFrom (c : PosClass) (cursor : Tier) : List Tier :=
  c.tiers.filter (fun t => cursor.rank ≤ t.rank)

/-- Rated pressure a tier write loads (02, R20). -/
def Tier.defaultRated : Tier → Nat
  | .unused => 0
  | .t1 => 2500
  | .t2 => 5000
  | .t3 => 9500

/-- Low mark of a profile, percent of rated pressure (02, R21). -/
def lowPercent : Fin 4 → Nat
  | 0 => 60
  | 1 => 50
  | 2 => 70
  | 3 => 40

/-- High mark of a profile, percent of rated pressure (02, R21). -/
def highPercent : Fin 4 → Nat
  | 0 => 95
  | 1 => 95
  | 2 => 98
  | 3 => 90

/-- Marks loaded from the profile, rounded down (02, R21). -/
def Bank.loadMarks (profile : Fin 4) (b : Bank) : Bank :=
  { b with low := b.rated * lowPercent profile / 100, high := b.rated * highPercent profile / 100 }

/-- Level flags from the latest pressure and the marks; kept while the pressure is absent (02, R23). -/
def Bank.withFlags (b : Bank) : Bank :=
  match b.pressure with
  | none => b
  | some v => { b with belowLow := decide (v < b.low), atHigh := decide (b.high ≤ v) }

/-- Entry to READY: claimant absent, flags recomputed, leak reference, stamp and timer started (02, R23, R27). -/
def Bank.enterReady (clock : Clock) (leakWindow : Nat) (b : Bank) : Bank :=
  { b.withFlags with
    state := .ready, claimant := none, leakRef := b.pressure, leakStamp := some clock,
    leakTimer := some (leakWindow * 1000) }

/-- Leaving READY: timer stopped, leak reference absent (02, R27). -/
def Bank.dropLeak (b : Bank) : Bank := { b with leakRef := none, leakStamp := none, leakTimer := none }

/-- The bank's latest pressure is at or above its high mark (03, R50, R52). -/
def Bank.pressureAtHigh (b : Bank) : Bool := b.pressure.any (fun v => decide (b.high ≤ v))

/-- The bank's latest pressure exceeds its rated pressure (02, R20, R24). -/
def Bank.overRated (b : Bank) : Bool := b.pressure.any (fun v => decide (b.rated < v))

/-- The bank's latest temperature is 85.0 °C or above (02, R25). -/
def Bank.isHot (b : Bank) : Bool := b.temperature.any (fun t => decide (Config.hotTemperature ≤ t))

/-- A bank that is in service: READY, SERVING or REFILLING (02, R28). -/
def Bank.inService (b : Bank) : Bool := b.state == .ready || b.state == .serving || b.state == .refilling

/-- A compressor that holds a bank and its draw: STARTING or RUNNING (03, R41). -/
def Compressor.active (k : Compressor) : Bool := k.state == .starting || k.state == .running

/-- Draw a compressor holds against the allowance (03, R41). -/
def Compressor.heldDraw (k : Compressor) : Nat := if k.active then k.draw else 0

/-- Draw a loop's chiller holds against the allowance (04, R71). -/
def Loop.heldDraw (l : Loop) : Nat := if l.chiller = .running then l.draw else 0

/-- RUN output of a compressor (01, R13). -/
def Compressor.runOutput (k : Compressor) : Bool := k.active

/-- Chiller RUN output of a loop (01, R13). -/
def Loop.runOutput (l : Loop) : Bool := l.chiller == .running

/-- The table of bands: outlet and reserve (04, R75). -/
def Loop.bandNow (l : Loop) : Band :=
  match l.outlet with
  | none => .lost
  | some t => if l.reserve = 0 then .lost else if t ≤ -330 then .cold else if t ≤ -175 then .cool else .lost

/-- Demand of a chiller at step 2 of a tick (04, R75). -/
def Loop.demand (l : Loop) : Bool :=
  decide (l.reserve ≤ l.capacity * 9 / 10) || !l.grants.isEmpty || !l.queue.isEmpty

/-- The cell of the non-comm target table for an ambient temperature, coolest band first; an absent ambient selects
the hottest band (07, R138). -/
def ambientBand : Option Int → Fin 5
  | none => 4
  | some t => if t ≤ 0 then 0 else if t ≤ 150 then 1 else if t ≤ 300 then 2 else if t ≤ 400 then 3 else 4

/-- The cell of the full-pressure table for a tank temperature (07, R136). -/
def tankBand (t : Int) : Fin 8 :=
  if t ≤ -200 then 0 else if t ≤ -50 then 1 else if t ≤ 100 then 2 else if t ≤ 250 then 3
  else if t ≤ 400 then 4 else if t ≤ 550 then 5 else if t ≤ 700 then 6 else 7

/-- Station-fault class of the end reasons (05, R104). -/
def EndReason.stationFault : EndReason → Bool
  | .noSupply | .precoolTimeout | .precoolLost | .stall | .sensor | .leak | .lowStart | .stationHalt | .cleared
  | .heldTimeout => true
  | .fullPressure | .fullSoc | .limitMass | .limitMoney | .hostStop | .tankHot | .vehicleAbort | .vehicleHalt
  | .uncoupled => false

/-- The states an end of a fill reaches: COOLING to HELD (05, R101). -/
def SessionState.live : SessionState → Bool
  | .cooling | .pulsing | .checking | .fuelling | .held => true
  | .idle | .authorised | .venting | .done => false

/-- AUTHORISED through HELD: a rate limit may be written and a new frame refreshes (06, R112; 07, R128). -/
def SessionState.open_ : SessionState → Bool
  | .authorised | .cooling | .pulsing | .checking | .fuelling | .held => true
  | .idle | .venting | .done => false

/-- The set of held causes is empty (05, R98). -/
def Causes.isEmpty (c : Causes) : Bool := !c.noBank && !c.precool && !c.vehicle && !c.host

/-- The end reason of a held timeout, by the first row whose cause is present (05, R99). -/
def Causes.endReason (c : Causes) : EndReason :=
  if c.precool then .precoolLost else if c.noBank then .noSupply else if c.vehicle then .vehicleHalt
  else .heldTimeout

/-- A permit covers a position's class (05, R91; 08, R149). -/
def Permit.covers : Permit → PosClass → Bool
  | .either, .bus35 => true
  | .either, .car70 => true
  | .bus35, .bus35 => true
  | .car70, .car70 => true
  | _, _ => false

/-- Price of a plan for a class (08, R149). -/
def Plan.priceFor (p : Plan) : PosClass → Nat
  | .bus35 => p.bus35
  | .car70 => p.car70
  | .unused => Config.absentNumber

/-- Largest sold mass a hold permits at a price (08, R150). -/
def massCeilingOf (kind : LimitKind) (limit price : Nat) : Nat :=
  match kind with
  | .mass => limit
  | .money => min (((limit + 1) * 1000 - 1) / price) max32

/-- The amount of a sale, rounded down and held to 32 bits (08, R142). -/
def amountOf (sold price : Nat) : Nat := min (sold * price / 1000) max32

/-- Raising a request sets its flag (10, R171). -/
def Notices.raise (i : Nat) (n : Notices) : Notices := { n with requests := n.requests ||| BitVec.twoPow 16 i }

/-- The sixteen sources. -/
def sources : List Nat := [0, 1, 2, 3, 4, 5, 6, 7, 8, 9, 10, 11, 12, 13, 14, 15]

/-- Lowest-numbered request both set and enabled (10, R172). -/
def Notices.top (n : Notices) : Option Nat := sources.find? (fun i => (n.requests &&& n.enables).getLsbD i)

/-- The notice line is active while some request is set and enabled (10, R172). -/
def Notices.line (n : Notices) : Bool := n.requests &&& n.enables != 0

/-- The order of the fourth check at deselect (09, R164). -/
def recordFaults : List Result := [.readOnly, .phase, .halted, .state, .busy, .range]

/-- The first failure of a transfer in the order of R164; OK when nothing failed (09, R164). -/
def firstFault (fails : List Result) : Result := (recordFaults.find? (fun r => fails.contains r)).getD .ok

/-- What the port records of a judged transfer's result, but for N1 (09, R165). -/
def Port.record (r : Result) (p : Port) : Port :=
  if r = .ok then { p with lastResult := r }
  else { p with
    lastResult := r, errorCount := min 255 (p.errorCount + 1),
    firstError := if p.errorCount = 0 then some r else p.firstError }

/-- The control valve closes and the meter's stall timer stops (06, R114; 08, R144). -/
def Position.closeControl (p : Position) : Position :=
  { p with ses.control := .closed, tmr.stall := none }

/-- The control valve opens in FUELLING: an opening starts the stall timer; a valve already open is no opening
(08, R144). -/
def Position.openControl (stallWindow : Nat) (p : Position) : Position :=
  if p.ses.control = .opened then p
  else { p with ses.control := .opened, tmr.stall := some (stallWindow * 1000) }

/-- Supply route none and control valve CLOSED. -/
def Position.closeRoute (p : Position) : Position :=
  { p with ses.supply := none, ses.control := .closed, tmr.stall := none }

/-- A frame being assembled when the session enters IDLE or DONE is discarded when it is complete (07, R126). -/
def Position.doomFrame (p : Position) : Position :=
  { p with rx := p.rx.map (fun f => { f with doomed := true }) }

/-- Entry to IDLE (05, R89; 06, R110; 07, R126, R130): no timer of the session runs. -/
def Position.enterIdle (p : Position) : Position :=
  { p.doomFrame with
    ses := { p.ses with
      state := .idle, boundHold := none, mode := none, pendingRate := none, effRate := 0, current := none,
      staged := none, causes := Causes.empty, vehicle := none, supply := none, control := .closed, vent := .closed,
      taper := false },
    tmr := PosTimers.stopped }

/-- The session fields at AUTHORISE (05, R89; 06, R110). -/
def Session.afresh (h : HoldId) (cursor : Tier) (x : Session) : Session :=
  { x with
    state := .authorised, boundHold := some h, lastHold := some h, rateLimit := 500, pendingRate := none, target := 0,
    ceiling := 0, effRate := 0, initial := 0, steps := 0, cursor := cursor, causes := Causes.empty, mode := none,
    endReason := none, coupledStamp := none, fuelStamp := none, endStamp := none, current := none, staged := none,
    vehicle := none, taper := false }

/-- The cause is in the set. -/
inductive Cause where
  | noBank
  | precool
  | vehicle
  | host
deriving DecidableEq, Repr

/-- Write one cause of the set (05, R97, R98). -/
def Causes.put (c : Cause) (v : Bool) (s : Causes) : Causes :=
  match c with
  | .noBank => { s with noBank := v }
  | .precool => { s with precool := v }
  | .vehicle => { s with vehicle := v }
  | .host => { s with host := v }

/-- Read one cause of the set. -/
def Causes.has (s : Causes) : Cause → Bool
  | .noBank => s.noBank
  | .precool => s.precool
  | .vehicle => s.vehicle
  | .host => s.host

/-- The mode is COMM. -/
def Session.isComm (x : Session) : Bool := x.mode == some .comm

/-- The part of the route record a position holds (01, R10). -/
def Session.route (x : Session) : PosRoute := { supply := x.supply, control := x.control, vent := x.vent }

/-- A timer of `s` seconds started now. -/
def seconds (s : Nat) : Timer := some (s * 1000)

end Sys2Proof.Machine
end

