-- ==== Sys2Proof/Machine/Ops.lean ====
section
/-! DEFINITION. The shared operations over the records: access, notices, the refill queue, the bank wait list, claims,
releases and offers (02), power (03), and the end of a rule (01 R10; 03 R49, R63). -/
namespace Sys2Proof.Machine

/-- A rule in progress: the state as it stands, and what the end of the rule owes. `serveDue`: a draw was released or
the allowance raised, so the waiting order is served (03, R63). `evalDue`: a trigger of a scheduling evaluation came
about (03, R49). `passedOver`: chillers shed by this rule, passed over when the order is served (03, R64). -/
structure Work extends State where
  serveDue   : Bool
  evalDue    : Bool
  passedOver : List LoopId

/-- The start of a rule. -/
def State.begin (s : State) : Work := { toState := s, serveDue := false, evalDue := false, passedOver := [] }

/-- All banks, lowest number first. -/
def allBanks : List BankId := [0, 1, 2, 3, 4, 5, 6, 7, 8, 9, 10, 11]
/-- All positions, lowest number first. -/
def allPositions : List PosId := [0, 1, 2, 3, 4, 5, 6, 7]
/-- All compressors, K0 first. -/
def allComps : List CompId := [0, 1]
/-- All loops, L0 first. -/
def allLoops : List LoopId := [0, 1]
/-- All holds, lowest number first. -/
def allHolds : List HoldId :=
  [0, 1, 2, 3, 4, 5, 6, 7, 8, 9, 10, 11, 12, 13, 14, 15, 16, 17, 18, 19, 20, 21, 22, 23, 24, 25, 26, 27, 28, 29, 30, 31]

/-- Bank record `b`. -/
def State.bank (s : State) (b : BankId) : Bank := s.banks.get b
/-- Compressor record `k`. -/
def State.comp (s : State) (k : CompId) : Compressor := s.comps.get k
/-- Loop record `l`. -/
def State.loop (s : State) (l : LoopId) : Loop := s.loops.get l
/-- Position record `p`. -/
def State.pos (s : State) (p : PosId) : Position := s.positions.get p
/-- Hold record `h`. -/
def State.hold (s : State) (h : HoldId) : Hold := s.holds.get h
/-- Tariff plan `n`. -/
def State.plan (s : State) (n : PlanId) : Plan := s.plans.get n

/-- Change bank `b` by `f`. -/
def Work.modBank (b : BankId) (f : Bank → Bank) (w : Work) : Work :=
  { w with banks := w.banks.set b (f (w.bank b)) }
/-- Change compressor `k` by `f`. -/
def Work.modComp (k : CompId) (f : Compressor → Compressor) (w : Work) : Work :=
  { w with comps := w.comps.set k (f (w.comp k)) }
/-- Change loop `l` by `f`. -/
def Work.modLoop (l : LoopId) (f : Loop → Loop) (w : Work) : Work :=
  { w with loops := w.loops.set l (f (w.loop l)) }
/-- Change position `p` by `f`. -/
def Work.modPos (p : PosId) (f : Position → Position) (w : Work) : Work :=
  { w with positions := w.positions.set p (f (w.pos p)) }
/-- Change hold `h` by `f`. -/
def Work.modHold (h : HoldId) (f : Hold → Hold) (w : Work) : Work :=
  { w with holds := w.holds.set h (f (w.hold h)) }
/-- Change the station record by `f`. -/
def Work.modStation (f : Station → Station) (w : Work) : Work := { w with station := f w.station }
/-- Raise notice N`i` (10, R171). -/
def Work.raise (i : Nat) (w : Work) : Work := { w with notices := w.notices.raise i }
/-- Raise the attention notice of a position, N2 for P0 to N9 for P7 (10, R170). -/
def Work.raisePos (p : PosId) (w : Work) : Work := w.raise (2 + p.val)
/-- A scheduling evaluation is owed at the end of the rule (03, R49). -/
def Work.oweEval (w : Work) : Work := { w with evalDue := true }
/-- A draw was released: the waiting order is owed a serving, and then an evaluation (03, R63). -/
def Work.releasedDraw (w : Work) : Work := { w with serveDue := true, evalDue := true }

/-- Do `f` to each in turn. -/
def Work.each {α : Type} (f : α → Work → Work) : List α → Work → Work
  | [], w => w
  | x :: xs, w => Work.each f xs (f x w)

/-- A sum of 32-bit masses; the spec states no result when it does not fit, so that value is free (log 6). -/
def Work.addMass (a b : Nat) (w : Work) : Nat × Work :=
  if a + b ≤ max32 then (a + b, w)
  else ((Config.freeMass w.freeIndex).toNat, { w with freeIndex := w.freeIndex + 1 })

/-! ### Read-outs -/

/-- Granted power: the draws held by K0, K1 and the chillers of L0 and L1 (01, R4; 03, R62). -/
def State.granted (s : State) : Nat :=
  (s.comp 0).heldDraw + (s.comp 1).heldDraw + (s.loop 0).heldDraw + (s.loop 1).heldDraw

/-- Free allowance (03, R50). -/
def State.freePower (s : State) : Nat := s.station.allowance - s.granted

/-- The route record (01, R10). -/
def State.routes (s : State) : RouteRecord :=
  { positions := #v[(s.pos 0).ses.route, (s.pos 1).ses.route, (s.pos 2).ses.route, (s.pos 3).ses.route,
      (s.pos 4).ses.route, (s.pos 5).ses.route, (s.pos 6).ses.route, (s.pos 7).ses.route],
    discharge := #v[(s.comp 0).bank, (s.comp 1).bank] }

/-- Hose pressure of a position; present wherever the rules read it (log 8). -/
def State.hoseOf (s : State) (p : PosId) : Nat := (s.pos p).ses.hose.getD Config.absentPressure

/-- Hose pressure plus the station's switch margin (02, R34; 05, R94). -/
def State.needOf (s : State) (p : PosId) : Nat := s.hoseOf p + s.station.switchMargin

/-- The positions attached to a loop (04, R69). -/
def State.attached (s : State) (l : LoopId) : List PosId :=
  allPositions.filter (fun p => (s.pos p).cfg.loop == some l)

/-! ### The refill queue (03, R43 to R47) -/

/-- The bank has an entry on the refill queue. -/
def State.queued (s : State) (b : BankId) : Bool := s.refillQueue.any (fun e => e.bank == b)

/-- Place an entry at the back of its priority class (03, R43). -/
def placeBack (prio : BankId → Nat) (e : QueueEntry) (q : List QueueEntry) : List QueueEntry :=
  q.takeWhile (fun x => decide (prio e.bank ≤ prio x.bank)) ++
    e :: q.dropWhile (fun x => decide (prio e.bank ≤ prio x.bank))

/-- Place an entry at the front of its priority class (03, R43). -/
def placeFront (prio : BankId → Nat) (e : QueueEntry) (q : List QueueEntry) : List QueueEntry :=
  q.takeWhile (fun x => decide (prio e.bank < prio x.bank)) ++
    e :: q.dropWhile (fun x => decide (prio e.bank < prio x.bank))

/-- The queue without a bank's entry (03, R47). -/
def withoutBank (b : BankId) (q : List QueueEntry) : List QueueEntry := q.filter (fun e => e.bank != b)

/-- An entry leaves the queue (03, R47). -/
def Work.leaveQueue (b : BankId) (w : Work) : Work := { w with refillQueue := withoutBank b w.refillQueue }

/-- A bank joins at the back of its class; a bank that has an entry keeps it (03, R44; log 10). -/
def Work.joinQueue (b : BankId) (w : Work) : Work :=
  if w.queued b then w
  else { w with
    refillQueue := placeBack (fun x => (w.bank x).priority) { bank := b, stamp := w.station.clock } w.refillQueue,
    evalDue := true }

/-- A bank is placed at the front of its class by a give-back (03, R45). -/
def Work.frontQueue (b : BankId) (w : Work) : Work :=
  { w with
    refillQueue := placeFront (fun x => (w.bank x).priority) { bank := b, stamp := w.station.clock }
      (withoutBank b w.refillQueue),
    evalDue := true }

/-- A write of the refill priority re-places the bank's entry at the back of the written class, with its stamp; it
calls for no evaluation (03, R47). -/
def Work.replaceEntry (b : BankId) (w : Work) : Work :=
  match w.refillQueue.find? (fun e => e.bank == b) with
  | none => w
  | some e => { w with
      refillQueue := placeBack (fun x => (w.bank x).priority) e (withoutBank b w.refillQueue) }

/-! ### The bank wait list (02, R34 to R36) -/

/-- The position has an entry on the bank wait list. -/
def State.waits (s : State) (p : PosId) : Bool := s.waitList.any (fun e => e.pos == p)

/-- The list without a position's entry (02, R36). -/
def Work.leaveWaitList (p : PosId) (w : Work) : Work :=
  { w with waitList := w.waitList.filter (fun e => e.pos != p) }

/-- A position joins the list; a position that has an entry keeps its place, stamp and timer and takes the new tiers
and need level. A new entry starts its yield wait timer and raises the position's notice (02, R34; 03, R60; 05, R94,
R98; 06, R117). -/
def Work.joinWaitList (p : PosId) (tiers : List Tier) (w : Work) : Work :=
  if w.waits p then
    { w with waitList := w.waitList.map (fun e =>
        if e.pos == p then { e with tiers := tiers, need := w.needOf p } else e) }
  else
    let e : WaitEntry :=
      { pos := p, tiers := tiers, need := w.needOf p, stamp := w.station.clock,
        yieldTimer := some Config.yieldWaitMs, waited := false }
    let w1 : Work := { w with waitList := w.waitList ++ [e] }
    w1.raisePos p

/-- The need level of a position's entry follows its hose and the switch margin (02, R35). -/
def Work.renewNeed (p : PosId) (w : Work) : Work :=
  { w with waitList := w.waitList.map (fun e => if e.pos == p then { e with need := w.needOf p } else e) }

/-! ### Claims, releases and offers (02, R31, R32, R37) -/

/-- The state a claim gives a bank. -/
def Claimant.bankState : Claimant → BankState
  | .pos _ => .serving
  | .comp _ => .refilling

/-- A claim: taken on a READY bank, refused otherwise (02, R31). -/
def Bank.claim (c : Claimant) (k : Bank) : Bank :=
  if k.state = .ready then { k.dropLeak with state := c.bankState, claimant := some c } else k

/-- A claim names a bank and a claimant (02, R31). -/
def Work.claimBank (c : Claimant) (b : BankId) (w : Work) : Work := w.modBank b (Bank.claim c)

/-- A bank held by `c` enters READY (02, R32). -/
def Work.makeReady (b : BankId) (w : Work) : Work :=
  w.modBank b (Bank.enterReady w.station.clock w.station.leakWindow)

/-- A release by the claimant up to the offer: READY, then the join if BELOW_LOW is set; a queued bank becoming READY
is a trigger (02, R32; 03, R49). -/
def Work.freeBank (b : BankId) (w : Work) : Work :=
  let w1 := w.makeReady b
  let w2 := if (w1.bank b).belowLow then w1.joinQueue b else w1
  if w2.queued b then w2.oweEval else w2

/-- The bank's release by this party counts: it is the claimant (02, R32). -/
def State.heldBy (s : State) (c : Claimant) (b : BankId) : Bool :=
  (s.bank b).claimant == some c && ((s.bank b).state == .serving || (s.bank b).state == .refilling)

/-- A wait-list entry is eligible for a bank (02, R37). -/
def State.eligible (s : State) (b : BankId) (e : WaitEntry) : Bool :=
  e.tiers.contains (s.bank b).tier && (s.bank b).pressure.any (fun v => decide (e.need ≤ v))

/-- The pulse begins: current bank, route, control valve and pulse timer (05, R94, R95). -/
def Position.startPulse (b : BankId) (p : Position) : Position :=
  { p with
    ses := { p.ses with current := some b, supply := some b, control := .opened },
    tmr := { p.tmr with bankWait := none, pulse := some Config.pulseMs } }

/-- A HELD session leaves HELD with a bank staged: held timer stopped, ceiling, staged bank, cursor, ramp tick
(05, R98; 06, R113, R116). -/
def Position.resumeWith (hose : Nat) (b : BankId) (tier : Tier) (p : Position) : Position :=
  { p with
    ses := { p.ses with
      state := .fuelling, causes := Causes.empty, ceiling := min hose p.ses.target, staged := some b, cursor := tier },
    tmr := { p.tmr with held := none, ramp := some Config.tickMs } }

/-- A position takes the bank an offer claimed for it: the pulse begins, or the session leaves HELD; `false` when the
session cannot use the bank and hands it back (05, R95, R98; 02, R37; log 23). -/
def Work.takeOffer (p : PosId) (b : BankId) (w : Work) : Bool × Work :=
  let x := w.pos p
  if x.ses.state = .pulsing ∧ x.ses.current = none then (true, w.modPos p (Position.startPulse b))
  else if x.ses.state = .held ∧ x.ses.causes = { Causes.empty with noBank := true } then
    (true, w.modPos p (Position.resumeWith (w.hoseOf p) b (w.bank b).tier))
  else if x.ses.state = .held then (false, w.modPos p (fun x => { x with ses.causes.noBank := false }))
  else (false, w)

/-- An offer of a READY bank to the wait list: the oldest eligible entry claims it and leaves the list. A bank handed
back at once is released and offered to the remaining entries; each round takes an entry off the list, so `fuel` of the
list's length suffices (02, R37; 05, R98). -/
def Work.offer : Nat → BankId → Work → Work
  | 0, _, w => w
  | fuel + 1, b, w =>
    match w.waitList.find? (w.eligible b) with
    | none => w
    | some e =>
      let r := ((w.leaveWaitList e.pos).claimBank (.pos e.pos) b).takeOffer e.pos b
      if r.1 then r.2 else Work.offer fuel b (r.2.freeBank b)

/-- Offer a bank to the whole list (02, R37). -/
def Work.offerBank (b : BankId) (w : Work) : Work :=
  if (w.bank b).state = .ready then Work.offer w.waitList.length b w else w

/-- A release: from the claimant, the bank is freed and offered; from anyone else, nothing (02, R32). -/
def Work.releaseBank (c : Claimant) (b : BankId) (w : Work) : Work :=
  if w.heldBy c b then (w.freeBank b).offerBank b else w

/-- A give-back: the release of a bank lost before its refill was complete, placed at the front of its class whether
or not BELOW_LOW is set, then offered (03, R45). -/
def Work.giveBack (k : CompId) (b : BankId) (w : Work) : Work :=
  if w.heldBy (.comp k) b then ((w.makeReady b).frontQueue b).offerBank b else w

/-! ### Selection (05, R94; 06, R115) -/

/-- The bank of least key among those that have one, the lowest number among equals. -/
def pickLowest (key : BankId → Option Nat) : List BankId → Option BankId
  | [] => none
  | b :: bs =>
    match key b, pickLowest key bs with
    | none, r => r
    | some _, none => some b
    | some v, some c => if (key c).any (fun u => decide (u < v)) then some c else some b

/-- The pressure of a READY bank of a tier that meets a need level. -/
def State.selectKey (s : State) (tier : Tier) (need : Nat) (b : BankId) : Option Nat :=
  let k := s.bank b
  if k.state = .ready ∧ k.tier = tier then k.pressure.filter (fun v => decide (need ≤ v)) else none

/-- Search the tiers in order; a later tier is searched when the earlier one has no such bank (05, R94; 06, R115). -/
def State.select (s : State) (need : Nat) : List Tier → Option BankId
  | [] => none
  | t :: ts =>
    match pickLowest (s.selectKey t need) allBanks with
    | some b => some b
    | none => s.select need ts

/-- Selection in PULSING: the pulse begins, or the position waits for a bank (05, R94). The bank found is READY in this
same rule, so its claim is taken. -/
def Work.pulsingSelect (p : PosId) (w : Work) : Work :=
  let tiers := (w.pos p).cfg.cls.tiers
  match w.select (w.needOf p) tiers with
  | some b => (w.claimBank (.pos p) b).modPos p (Position.startPulse b)
  | none => (w.joinWaitList p tiers).modPos p (fun x => { x with tmr.bankWait := some Config.bankWaitMs })

/-! ### Power and the compressors' side of a rule's end (03, R49 to R51, R62, R63) -/

/-- Eligible to take a bank (03, R50). -/
def State.compEligible (s : State) (tier : Tier) (k : CompId) : Bool :=
  let c := s.comp k
  c.state == .stopped && !c.withheld && decide (tier.rank ≤ c.reach.rank) && decide (c.draw ≤ s.freePower)

/-- The compressor that takes an entry: the lower reach, K0 when the reaches are equal (03, R50). -/
def State.chooseComp (s : State) (tier : Tier) : Option CompId :=
  match s.compEligible tier 0, s.compEligible tier 1 with
  | true, true => if (s.comp 1).reach.rank < (s.comp 0).reach.rank then some 1 else some 0
  | true, false => some 0
  | false, true => some 1
  | false, false => none

/-- An assignment (03, R51). -/
def Work.assign (k : CompId) (b : BankId) (w : Work) : Work :=
  ((w.leaveQueue b).claimBank (.comp k) b).modComp k (fun c =>
    { c with state := .starting, bank := some b, startStamp := some w.station.clock, startTimer := seconds c.startTime })

/-- One entry of the walk (03, R50). -/
def Work.visit (e : QueueEntry) (w : Work) : Work :=
  let k := w.bank e.bank
  if k.state = .ready then
    if k.pressureAtHigh then w.leaveQueue e.bank
    else match w.chooseComp k.tier with
      | some c => w.assign c e.bank
      | none => w
  else w

/-- A scheduling evaluation: nothing unless SERVICE, RUNNING and SUFFICIENT, else the walk of the queue (03, R49,
R50). -/
def Work.evaluate (w : Work) : Work :=
  if w.station.phase = .service ∧ w.station.halt = .running ∧ w.suction = .sufficient then
    Work.each Work.visit w.refillQueue w
  else w

/-- A chiller is granted its draw (03, R62; 04, R72). -/
def Work.grantChiller (l : LoopId) (w : Work) : Work :=
  let w1 : Work := { w with powerQueue := w.powerQueue.filter (fun x => x != l) }
  w1.modLoop l (fun x => { x with chiller := .running })

/-- The draw of a chiller fits the free allowance (03, R62). -/
def State.chillerFits (s : State) (l : LoopId) : Bool := decide (s.granted + (s.loop l).draw ≤ s.station.allowance)

/-- One chiller of the waiting order (03, R63); the chillers shed by this rule are passed over (03, R64). -/
def Work.serveOne (l : LoopId) (w : Work) : Work :=
  if w.passedOver.contains l then w else if w.chillerFits l then w.grantChiller l else w

/-- The waiting order is served from its front (03, R63). -/
def Work.serveWaiting (w : Work) : Work := Work.each Work.serveOne w.powerQueue w

/-- A new route frame: sent at once on an idle link, else it becomes the waiting frame (01, R10). -/
def FieldLink.pushRoutes (r : RouteRecord) (f : FieldLink) : FieldLink :=
  match f.sending with
  | none => { f with sending := some r }
  | some _ => { f with waiting := some r }

/-- The end of a rule: the waiting order once, then one evaluation, then one route frame if the rule changed the route
record from `s0`'s (03, R49, R63; 01, R10; log 19). -/
def Work.close (s0 : State) (w : Work) : State :=
  let w1 := if w.serveDue then w.serveWaiting else w
  let w2 := if w.evalDue then w1.evaluate else w1
  if w2.routes = s0.routes then w2.toState else { w2.toState with link := w2.link.pushRoutes w2.routes }

/-- One rule. -/
def State.rule (f : Work → Work) (s : State) : State := (f s.begin).close s

end Sys2Proof.Machine
end

