-- ==== Sys2Proof/Machine/Sequencer.lean ====
section
/-! DEFINITION. The fill sequencer: grants of a loop (04 R78 to R82), selection and the valve in FUELLING (06), HELD
(05 R97 to R99), the end of a fill (05 R101), fallback (07 R132, R133), and steps (06 R119, R121). -/
namespace Sys2Proof.Machine

/-! ### Grants and the wait queue of a loop -/

/-- A position is told of its grant: a COOLING session goes on to PULSING, with selection in the same rule (04, R80;
05, R93). The band reported with a grant is COLD (06, R109). -/
def Work.grantGiven (p : PosId) (w : Work) : Work :=
  let w1 := w.modPos p (fun x => { x with ses.band := .cold })
  if (w.pos p).ses.state = .cooling then
    (w1.modPos p (fun x => { x with ses.state := .pulsing, tmr.cooling := none })).pulsingSelect p
  else w1

/-- The conditions under which the head of a loop's wait queue is granted (04, R78). -/
def Loop.canGrant (l : Loop) : Bool :=
  decide (l.grants.length < 2) && l.band == .cold && decide (l.floor ≤ l.reserve)

/-- Serving the wait queue from its head; a serving gives at most two grants, the size of the grant set (04, R78). -/
def Work.serveQueueN : Nat → LoopId → Work → Work
  | 0, _, w => w
  | n + 1, l, w =>
    match (w.loop l).queue with
    | [] => w
    | p :: rest =>
      if (w.loop l).canGrant then
        Work.serveQueueN n l
          ((w.modLoop l (fun x => { x with grants := x.grants ++ [p], queue := rest })).grantGiven p)
      else w

/-- Serve the wait queue of a loop (04, R78). -/
def Work.serveQueue (l : LoopId) (w : Work) : Work := Work.serveQueueN 2 l w

/-- A grant request (04, R79). -/
def Work.requestGrant (p : PosId) (l : LoopId) (w : Work) : Work :=
  if (w.loop l).grants.contains p || (w.loop l).queue.contains p then w
  else (w.modLoop l (fun x => { x with queue := x.queue ++ [p] })).serveQueue l

/-- A holder leaves the grant set; an empty set takes the loss count to 0 (04, R76, R81). -/
def Loop.dropGrant (p : PosId) (l : Loop) : Loop :=
  let g := l.grants.filter (fun x => x != p)
  { l with grants := g, loss := if g.isEmpty then 0 else l.loss }

/-- A session that ends gives up its grant or its place in the wait queue, and the queue is served (04, R81, R82;
log 11). A position that has neither changes nothing. -/
def Work.leaveLoop (p : PosId) (w : Work) : Work :=
  match (w.pos p).cfg.loop with
  | none => w
  | some l =>
    if (w.loop l).grants.contains p then (w.modLoop l (Loop.dropGrant p)).serveQueue l
    else if (w.loop l).queue.contains p then
      (w.modLoop l (fun x => { x with queue := x.queue.filter (fun y => y != p) })).serveQueue l
    else w

/-! ### Banks a session names -/

/-- The current and the staged bank, where present, are released and become absent (05, R97, R101). -/
def Work.releaseNamed (p : PosId) (w : Work) : Work :=
  let x := (w.pos p).ses
  let w1 := w.modPos p (fun y => { y with ses := { y.ses with current := none, staged := none } })
  let w2 := match x.current with
    | some b => w1.releaseBank (.pos p) b
    | none => w1
  match x.staged with
  | some b => w2.releaseBank (.pos p) b
  | none => w2

/-! ### The end of a fill -/

/-- Step 1 and 2 of an end: reason, stamp, every running timer stopped (05, R101; 07, R130, R132). The fallback state
stays as it stands, DEFERRED too (DESIGN CHOICE, log 28). -/
def Position.markEnd (r : EndReason) (clock : Clock) (p : Position) : Position :=
  { p with ses := { p.ses with endReason := some r, endStamp := some clock }, tmr := PosTimers.stopped }

/-- Steps 6 and 7 of an end: VENTING, route closed, vent open, vent timer (05, R101). -/
def Position.startVent (p : Position) : Position :=
  { p.closeRoute with
    ses := { p.closeRoute.ses with state := .venting, vent := .opened },
    tmr := { PosTimers.stopped with vent := seconds p.cfg.ventTime } }

/-- The end of a fill in full (05, R101). -/
def Work.endCore (p : PosId) (r : EndReason) (w : Work) : Work :=
  let w1 := w.modPos p (Position.markEnd r w.station.clock)
  let w2 := ((w1.releaseNamed p).leaveWaitList p).leaveLoop p
  w2.modPos p Position.startVent

/-- An end reaches a session in COOLING to HELD; in any other state it changes nothing (05, R101). -/
def Work.endFill (p : PosId) (r : EndReason) (w : Work) : Work :=
  if (w.pos p).ses.state.live then w.endCore p r else w

/-! ### Selection and the valve in FUELLING -/

/-- Selection in FUELLING stages a bank and moves the cursor; `false` when it finds none (06, R115, R116). -/
def Work.fuellingSelect (p : PosId) (w : Work) : Bool × Work :=
  let x := w.pos p
  match w.select (w.needOf p) (x.cfg.cls.tiersFrom x.ses.cursor) with
  | some b =>
    (true, (w.claimBank (.pos p) b).modPos p (fun y =>
      { y with ses := { y.ses with staged := some b, cursor := (w.bank b).tier } }))
  | none => (false, w)

/-- The valve judgement of a FUELLING session (06, R114). -/
def Work.judgeValve (p : PosId) (w : Work) : Work :=
  let x := (w.pos p).ses
  if x.state = .fuelling then
    if x.current ≠ none ∧ w.hoseOf p < x.ceiling then w.modPos p (Position.openControl w.station.stallWindow)
    else w.modPos p Position.closeControl
  else w

/-! ### HELD -/

/-- A FUELLING session enters HELD with a cause (05, R97). -/
def Work.enterHeld (p : PosId) (c : Cause) (w : Work) : Work :=
  let w1 := (w.modPos p Position.closeRoute).releaseNamed p
  w1.modPos p (fun x =>
    { x with
      ses := { x.ses with state := .held, causes := x.ses.causes.put c true },
      tmr := { x.tmr with ramp := none, held := some Config.heldMs } })

/-- A cause is added: FUELLING enters HELD, HELD takes it into the set, any other state changes nothing (05, R97). -/
def Work.addCause (p : PosId) (c : Cause) (w : Work) : Work :=
  match (w.pos p).ses.state with
  | .fuelling => w.enterHeld p c
  | .held => w.modPos p (fun x => { x with ses.causes := x.ses.causes.put c true })
  | _ => w

/-- A selection made in FUELLING that finds no bank: the wait list, then HELD with NO_BANK (06, R117). -/
def Work.noBankHold (p : PosId) (w : Work) : Work :=
  let x := w.pos p
  (w.joinWaitList p (x.cfg.cls.tiersFrom x.ses.cursor)).enterHeld p .noBank

/-- Selection in FUELLING with its outcome (06, R115, R117). -/
def Work.selectOrHold (p : PosId) (w : Work) : Work :=
  let r := w.fuellingSelect p
  if r.1 then r.2 else r.2.noBankHold p

/-- Departure from HELD by the removal of the last cause other than by an offer (05, R98, steps 1, 2, 4, 5, 6). -/
def Work.leaveHeld (p : PosId) (w : Work) : Work :=
  let w1 := w.modPos p (fun x =>
    { x with ses.ceiling := min (w.hoseOf p) x.ses.target, tmr.held := none })
  let r := w1.fuellingSelect p
  if r.1 then
    r.2.modPos p (fun x => { x with ses.state := .fuelling, tmr.ramp := some Config.tickMs })
  else
    let x := r.2.pos p
    (r.2.joinWaitList p (x.cfg.cls.tiersFrom x.ses.cursor)).modPos p (fun y =>
      { y with ses.causes.noBank := true, tmr.held := some Config.heldMs })

/-- A cause is removed from a HELD session that has it; the last removal leaves HELD (05, R97, R98). -/
def Work.removeCause (p : PosId) (c : Cause) (w : Work) : Work :=
  let x := (w.pos p).ses
  if x.state = .held ∧ x.causes.has c = true then
    let w1 := w.modPos p (fun y => { y with ses.causes := y.ses.causes.put c false })
    if (x.causes.put c false).isEmpty then w1.leaveHeld p else w1
  else w

/-! ### Fallback -/

/-- The non-comm target of a position's class at the present ambient temperature (07, R138). -/
def State.noncommTarget (s : State) (p : PosId) : Nat :=
  let i := (ambientBand s.station.ambient).val
  match (s.pos p).cfg.cls with
  | .car70 => s.targetTable.toList.getD i Config.absentNumber
  | .bus35 => s.targetTable.toList.getD (5 + i) Config.absentNumber
  | .unused => Config.absentNumber

/-- The position's share of an applied fallback: APPLIED, NONCOMM, target lowered and the ceiling with it, whether the
fill then ends or goes on, deferral stopped (07, R132, R133; 06, R113). -/
def Position.fallBack (target : Nat) (p : Position) : Position :=
  { p with
    ses := { p.ses with
      mode := some .noncomm, target := min p.ses.target target,
      ceiling := min p.ses.ceiling (min p.ses.target target),
      vehicle := p.ses.vehicle.map (fun g => { g with fallback := .applied }) },
    tmr := { p.tmr with deferral := none } }

/-- Applying a fallback: the fill ends at or above the new target, else a FUELLING session's valve is judged against the
ceiling that has come down (07, R133; 06, R124). -/
def Work.applyFallback (p : PosId) (w : Work) : Work :=
  let w1 := w.modPos p (Position.fallBack (w.noncommTarget p))
  if (w1.pos p).ses.target ≤ w1.hoseOf p then w1.endFill p .fullPressure
  else w1.judgeValve p

/-- The fallback state of a session is DEFERRED (07, R127). -/
def Session.deferred (x : Session) : Bool :=
  match x.vehicle with
  | some g => g.fallback == .deferred
  | none => false

/-- A step from its count on: the count, a deferred fallback, and selection unless the fallback ended the fill
(06, R119 steps 2 to 4, R121 steps 2 to 4; 07, R132). -/
def Work.stepOn (p : PosId) (w : Work) : Work :=
  let w1 := w.modPos p (fun x => { x with ses.steps := min 255 (x.ses.steps + 1) })
  let w2 := if (w1.pos p).ses.deferred then w1.applyFallback p else w1
  if (w2.pos p).ses.state = .fuelling then w2.selectOrHold p else w2

/-- The conditions of a step (06, R119). -/
def State.stepDue (s : State) (p : PosId) : Bool :=
  let x := (s.pos p).ses
  x.control == .opened &&
    (match x.current with
     | some b => decide ((s.bank b).pressure.getD Config.absentPressure < s.needOf p)
     | none => false)

/-- A step: route closed, the current bank released, then the rest of the step (06, R119). -/
def Work.stepFill (p : PosId) (w : Work) : Work :=
  let cur := (w.pos p).ses.current
  let w1 := w.modPos p (fun x => { x.closeRoute with ses := { x.closeRoute.ses with current := none } })
  let w2 := match cur with
    | some b => w1.releaseBank (.pos p) b
    | none => w1
  w2.stepOn p

/-! ### The pulse's end and a bank's isolation -/

/-- The session enters CHECKING: initial pressure and check window (05, R95, step 3). -/
def Work.enterChecking (p : PosId) (w : Work) : Work :=
  w.modPos p (fun x =>
    { x with
      ses := { x.ses with state := .checking, initial := w.hoseOf p },
      tmr := { x.tmr with pulse := none, check := some Config.checkMs } })

/-- A position is told that the bank it names has been isolated: the pulse ends early, or a FUELLING session makes a
step without test (05, R95; 06, R121). No release follows. -/
def Work.bankLost (p : PosId) (b : BankId) (w : Work) : Work :=
  let x := (w.pos p).ses
  let drop := fun (y : Position) =>
    { y.closeRoute with ses := { y.closeRoute.ses with current := none, staged := none } }
  if x.state = .pulsing ∧ x.current = some b then (w.modPos p drop).enterChecking p
  else if x.state = .fuelling ∧ (x.current = some b ∨ x.staged = some b) then (w.modPos p drop).stepOn p
  else w

end Sys2Proof.Machine
end

