-- ==== Sys2Proof/Machine/Compression.lean ====
section
/-! DEFINITION. Compressors losing, completing and yielding a refill, shedding (03 R52 to R64), and the isolation of a
bank with what it does to the bank's claimant (02 R28). -/
namespace Sys2Proof.Machine

/-- A compressor in STARTING or RUNNING becomes UNLOADING: bank and route absent, start timer stopped, unload timer
started (03, R55 step 1). -/
def Compressor.unload (k : Compressor) : Compressor :=
  { k with state := .unloading, bank := none, startTimer := none, unloadTimer := seconds k.unloadTime }

/-- A compressor unloads and its draw is released (03, R55). -/
def Work.unloadComp (k : CompId) (w : Work) : Work := (w.modComp k Compressor.unload).releasedDraw

/-- A refill is lost before its completion: unload, give-back and offer, draw released (03, R55, R61, R64). -/
def Work.loseRefill (k : CompId) (w : Work) : Work :=
  let bank := (w.comp k).bank
  let w1 := w.unloadComp k
  match bank with
  | some b => w1.giveBack k b
  | none => w1

/-- A completed refill (03, R53). -/
def Work.completeRefill (k : CompId) (w : Work) : Work :=
  let bank := (w.comp k).bank
  let w1 := (w.unloadComp k).modComp k (fun c => { c with refills := c.refills + 1 })
  match bank with
  | some b => (w1.modBank b (fun x => { x with yields := 0 })).releaseBank (.comp k) b
  | none => w1

/-- A yield of the bank a compressor is refilling (03, R61). -/
def Work.yieldBank (k : CompId) (b : BankId) (w : Work) : Work :=
  (w.modBank b (fun x => { x with yields := x.yields + 1 })).loseRefill k

/-- A REFILLING bank can be yielded to the head entry (03, R60). -/
def State.canYield (s : State) (e : WaitEntry) (b : BankId) : Bool :=
  let k := s.bank b
  k.state == .refilling && e.tiers.contains k.tier && k.pressure.any (fun v => decide (e.need ≤ v)) &&
    decide (k.yields < 2)

/-- The yield judgement at a pressure of a REFILLING bank that does not complete a refill (03, R60). -/
def Work.yieldAtPressure (k : CompId) (b : BankId) (w : Work) : Work :=
  match w.waitList with
  | [] => w
  | e :: _ => if e.waited && w.canYield e b then w.yieldBank k b else w

/-- The key by which the expiry of the head's timer chooses a bank to yield: its pressure (03, R60). -/
def State.yieldKey (s : State) (e : WaitEntry) (b : BankId) : Option Nat :=
  if s.canYield e b then (s.bank b).pressure else none

/-- The yield judgement at the expiry of the head entry's timer (03, R60). -/
def Work.yieldAtExpiry (e : WaitEntry) (w : Work) : Work :=
  match pickLowest (w.yieldKey e) allBanks with
  | none => w
  | some b =>
    match (w.bank b).claimant with
    | some (.comp k) => w.yieldBank k b
    | _ => w

/-- A pressure passed to the compressor that claims the bank: completion first in RUNNING, else the yield judgement
(03, R53). -/
def Work.pressureToComp (k : CompId) (b : BankId) (w : Work) : Work :=
  let c := w.comp k
  if c.state = .running ∧ (w.bank b).pressureAtHigh = true then w.completeRefill k
  else if c.active then w.yieldAtPressure k b
  else w

/-! ### Isolation -/

/-- The bank record of an isolation (02, R28, steps 1 to 3, 5). -/
def Bank.isolateWith (r : IsoReason) (k : Bank) : Bank :=
  { k.dropLeak with state := .isolated, isolation := some r, claimant := none }

/-- Isolating a bank in service: its claimant is told, it leaves the refill queue, N11; a bank already ISOLATED or
UNUSED is unchanged (02, R28; 03, R56). -/
def Work.isolateBank (b : BankId) (r : IsoReason) (w : Work) : Work :=
  let k := w.bank b
  if k.inService then
    let w1 := w.modBank b (Bank.isolateWith r)
    let w2 := match k.claimant with
      | some (.pos p) => w1.bankLost p b
      | some (.comp c) => if (w1.comp c).active then w1.unloadComp c else w1
      | none => w1
    (w2.leaveQueue b).raise 11
  else w

/-! ### Shedding -/

/-- A loop has a grant holder in FUELLING (03, R64). -/
def State.hasFuellingHolder (s : State) (l : LoopId) : Bool :=
  (s.loop l).grants.any (fun p => (s.pos p).ses.state == .fuelling)

/-- Refill priority of the bank a compressor refills. -/
def State.shedPriority (s : State) (k : CompId) : Nat :=
  match (s.comp k).bank with
  | some b => (s.bank b).priority
  | none => 0

/-- Of two compressors in a state, the one to shed: lower refill priority first, K1 between equals (03, R64). -/
def State.shedComp (s : State) (st : CompState) : Option CompId :=
  if (s.comp 0).state = st then
    if (s.comp 1).state = st then
      if s.shedPriority 0 < s.shedPriority 1 then some 0 else some 1
    else some 0
  else if (s.comp 1).state = st then some 1 else none

/-- The chiller to shed: L1 before L0, among loops with or without a FUELLING holder (03, R64). -/
def State.shedChiller (s : State) (holder : Bool) : Option LoopId :=
  if (s.loop 1).chiller = .running ∧ s.hasFuellingHolder 1 = holder then some 1
  else if (s.loop 0).chiller = .running ∧ s.hasFuellingHolder 0 = holder then some 0
  else none

/-- A shed chiller waits at the back of the order; its loop keeps the rest (03, R64; 04, R72). -/
def Work.shedLoop (l : LoopId) (w : Work) : Work :=
  let w1 := w.modLoop l (fun x => { x with chiller := .waitingPower })
  ({ w1 with powerQueue := w1.powerQueue ++ [l], passedOver := l :: w1.passedOver } : Work).releasedDraw

/-- The next holder in the order of R64, as the station stands, is shed (03, R64; log 13). -/
def Work.shedNext (w : Work) : Work :=
  match w.shedComp .starting with
  | some k => w.loseRefill k
  | none =>
    match w.shedComp .running with
    | some k => w.loseRefill k
    | none =>
      match w.shedChiller false with
      | some l => w.shedLoop l
      | none =>
        match w.shedChiller true with
        | some l => w.shedLoop l
        | none => w

/-- Shedding one holder at a time until granted power fits; there are four holders (03, R64). -/
def Work.shed : Nat → Work → Work
  | 0, w => w
  | n + 1, w => if w.granted ≤ w.station.allowance then w else Work.shed n w.shedNext

end Sys2Proof.Machine
end

