-- ==== Sys2Proof/Machine/Operands.lean ====
section
/-! DEFINITION. Operand forms: byte order, offset temperatures, check bytes, the frames of the links (11 R179, R182),
plausible ranges (01 R7), and what a port transfer's header names (09 R159; 11 R178). -/
namespace Sys2Proof.Machine

/-- The number carried by bytes, least significant first (11, R179). -/
def leValue : List Byte → Nat
  | [] => 0
  | b :: bs => b.toNat + 256 * leValue bs

/-- A number in `width` bytes, least significant first (11, R179). -/
def leBytes : Nat → Nat → List Byte
  | 0, _ => []
  | width + 1, v => BitVec.ofNat 8 v :: leBytes width (v / 256)

/-- Temperature from its offset form (11, R179). -/
def ofOffset (raw : Nat) : Int := (raw : Int) - 32768

/-- Offset form of a temperature (11, R179). -/
def toOffset (t : Int) : Nat := (t + 32768).toNat

/-- The 8-bit sum of a frame's bytes after the marker, check byte included, is 0 (11, R182). -/
def checkOk (bytes : List Byte) : Bool := bytes.foldl (fun a b => a + b) 0 == 0

/-- The check byte of a frame's bytes after the marker (11, R182). -/
def checkByte (bytes : List Byte) : Byte := -(bytes.foldl (fun a b => a + b) 0)

/-- The channel a sample frame names, if there is one (01, R6; 11, R182). -/
def channelOf (kind index : Nat) : Option Channel :=
  match kind with
  | 0 => if h : index < 12 then some (.bankP ⟨index, h⟩) else none
  | 1 => if h : index < 12 then some (.bankT ⟨index, h⟩) else none
  | 2 => if h : index < 8 then some (.hoseP ⟨index, h⟩) else none
  | 3 => if index = 0 then some .suctionP else none
  | 4 => if index = 0 then some .ambientT else none
  | 5 => if h : index < 2 then some (.loopT ⟨index, h⟩) else none
  | _ => none

/-- The channel carries a temperature. -/
def channelIsTemperature : Channel → Bool
  | .bankT _ | .ambientT | .loopT _ => true
  | .bankP _ | .hoseP _ | .suctionP => false

/-- The value a sample carries: unsigned for a pressure, offset form for a temperature (11, R182). -/
def channelValue (c : Channel) (raw : Nat) : Int := if channelIsTemperature c then ofOffset raw else raw

/-- Plausible range of a channel's kind (01, R7). -/
def plausible (c : Channel) (v : Int) : Bool :=
  match c with
  | .bankP _ => decide (0 ≤ v ∧ v ≤ 11000)
  | .bankT _ => decide (-400 ≤ v ∧ v ≤ 1200)
  | .hoseP _ => decide (0 ≤ v ∧ v ≤ 10000)
  | .suctionP => decide (0 ≤ v ∧ v ≤ 5000)
  | .ambientT => decide (-500 ≤ v ∧ v ≤ 650)
  | .loopT _ => decide (-600 ≤ v ∧ v ≤ 600)

/-- A sample frame that R6 takes: channel, value, quality GOOD. -/
structure Sample where
  chan  : Channel
  value : Int
  good  : Bool
deriving DecidableEq, Repr

/-- The six bytes after the marker of a sample frame; nothing when the frame is discarded (01, R6; 11, R182). -/
def parseSample (body : List Byte) : Option Sample :=
  match body with
  | [kind, index, lo, hi, quality, _] =>
    if checkOk body = true ∧ quality.toNat ≤ 1 then
      (channelOf kind.toNat index.toNat).map (fun c =>
        { chan := c, value := channelValue c (leValue [lo, hi]), good := quality == 0 })
    else none
  | _ => none

/-- Kind and index codes of a channel (11, R182). -/
def channelCodes : Channel → Nat × Nat
  | .bankP b => (0, b.val)
  | .bankT b => (1, b.val)
  | .hoseP p => (2, p.val)
  | .suctionP => (3, 0)
  | .ambientT => (4, 0)
  | .loopT l => (5, l.val)

/-- A whole sample frame, marker included (11, R182). -/
def sampleBytes (c : Channel) (raw : Nat) (good : Bool) : List Byte :=
  let body : List Byte :=
    [BitVec.ofNat 8 (channelCodes c).1, BitVec.ofNat 8 (channelCodes c).2] ++ leBytes 2 raw ++ [if good then 0 else 1]
  Config.sampleMarker :: (body ++ [checkByte body])

/-- A valid vehicle frame's fields (07, R126). -/
structure VehicleData where
  sequence    : Byte
  volume      : Nat
  pressure    : Nat
  temperature : Int
  command     : VehCommand
deriving DecidableEq, Repr

/-- Command code of a vehicle frame (11, R179). -/
def vehCommandOf : Nat → Option VehCommand
  | 0 => some .run
  | 1 => some .halt
  | 2 => some .abort
  | _ => none

/-- The nine bytes after the marker of a vehicle frame; nothing when the frame is invalid (07, R126; 11, R182). -/
def parseVehicle (body : List Byte) : Option VehicleData :=
  match body with
  | [seq, v0, v1, p0, p1, t0, t1, cmd, _] =>
    let volume := leValue [v0, v1]
    let pressure := leValue [p0, p1]
    let temperature := ofOffset (leValue [t0, t1])
    if checkOk body = true ∧ 1 ≤ volume ∧ volume ≤ 1000 ∧ pressure ≤ 10000 ∧ -600 ≤ temperature ∧ temperature ≤ 1200
    then (vehCommandOf cmd.toNat).map (fun c =>
      { sequence := seq, volume := volume, pressure := pressure, temperature := temperature, command := c })
    else none
  | _ => none

/-- Code of a vehicle command (11, R179). -/
def VehCommand.code : VehCommand → Nat
  | .run => 0
  | .halt => 1
  | .abort => 2

/-- A whole vehicle frame, marker included (11, R182). -/
def vehicleBytes (d : VehicleData) : List Byte :=
  let body : List Byte :=
    [d.sequence] ++ leBytes 2 d.volume ++ leBytes 2 d.pressure ++ leBytes 2 (toOffset d.temperature) ++
      [BitVec.ofNat 8 d.command.code]
  Config.vehicleMarker :: (body ++ [checkByte body])

/-- The record a class code and a number name (09, R159; 11, R178). -/
def recordOf (cls num : Nat) : Option RecordRef :=
  match cls with
  | 0 => if num = 0 then some .station else none
  | 1 => if h : num < 12 then some (.bank ⟨num, h⟩) else none
  | 2 => if h : num < 2 then some (.comp ⟨num, h⟩) else none
  | 3 => if h : num < 2 then some (.loop ⟨num, h⟩) else none
  | 4 => if h : num < 8 then some (.position ⟨num, h⟩) else none
  | 5 => if h : num < 32 then some (.hold ⟨num, h⟩) else none
  | 6 => if h : num < 4 then some (.tariff ⟨num, h⟩) else none
  | 7 => if h : num < 3 then some (.table ⟨num, h⟩) else none
  | 8 => if num = 0 then some .notice else none
  | _ => none

/-- Class code and number of a record (11, R178). -/
def RecordRef.codes : RecordRef → Nat × Nat
  | .station => (0, 0)
  | .bank b => (1, b.val)
  | .comp k => (2, k.val)
  | .loop l => (3, l.val)
  | .position p => (4, p.val)
  | .hold h => (5, h.val)
  | .tariff n => (6, n.val)
  | .table n => (7, n.val)
  | .notice => (8, 0)

/-- A port transfer with a whole header (09, R158; 11, R178). -/
structure Request where
  op    : BitVec 4
  cls   : BitVec 4
  num   : Byte
  field : Byte
  tail  : Tail
deriving DecidableEq, Repr

/-- The record a transfer addresses, or why it addresses none (09, R159, R164, R167). -/
def Request.resolve (r : Request) (window : Option RecordRef) : Except Result RecordRef :=
  if r.cls = 9 then
    match window with
    | some x => .ok x
    | none => .error .noWindow
  else
    match recordOf r.cls.toNat r.num.toNat with
    | some x => .ok x
    | none => .error .noRecord

/-- A transfer that names class `cls` or the window, as an address says (09, R159). -/
def addrRequest (a : Addr) (op cls : BitVec 4) (field : Byte) (tail : Tail) : Request :=
  { op := op, cls := if a.window then 9 else cls, num := a.num, field := field, tail := tail }

/-- A verb of the port with the record it acts on (09, R163). -/
inductive Verb where
  | start
  | setup
  | resume
  | clear
  | isolate (b : BankId)
  | restore (b : BankId)
  | refill (b : BankId)
  | cancelRefill (b : BankId)
  | withhold (k : CompId)
  | release (k : CompId)
  | clearFault (k : CompId)
  | authorise (p : PosId)
  | stop (p : PosId)
  | pause (p : PosId)
  | continue_ (p : PosId)
  | ack
deriving DecidableEq, Repr

/-- The verb a code names on a record (11, R178). -/
def verbOf (ref : RecordRef) (code : Nat) : Option Verb :=
  match ref, code with
  | .station, 0 => some .start
  | .station, 1 => some .setup
  | .station, 2 => some .resume
  | .station, 3 => some .clear
  | .bank b, 0 => some (.isolate b)
  | .bank b, 1 => some (.restore b)
  | .bank b, 2 => some (.refill b)
  | .bank b, 3 => some (.cancelRefill b)
  | .comp k, 0 => some (.withhold k)
  | .comp k, 1 => some (.release k)
  | .comp k, 2 => some (.clearFault k)
  | .position p, 0 => some (.authorise p)
  | .position p, 1 => some (.stop p)
  | .position p, 2 => some (.pause p)
  | .position p, 3 => some (.continue_ p)
  | .notice, 0 => some .ack
  | _, _ => none

/-- Argument bytes of a verb (09, R163). -/
def Verb.argLength : Verb → Nat
  | .authorise _ => 1
  | .ack => 2
  | _ => 0

/-- Widths of the fields of a record, in field order (11, R180). -/
def RecordRef.widths : RecordRef → List Nat
  | .station => [4, 1, 1, 1, 1, 3, 2, 2, 2, 2, 2, 2, 2, 2, 2, 2, 1, 1, 61, 57, 1, 1, 1, 2]
  | .bank _ => [1, 2, 2, 2, 2, 2, 1, 1, 1, 1, 1, 1, 2, 4]
  | .comp _ => [1, 1, 2, 1, 1, 1, 1, 4, 2]
  | .loop _ => [1, 2, 2, 2, 2, 2, 2, 2, 1, 1, 1, 3, 9]
  | .position _ =>
    [1, 1, 1, 1, 1, 1, 1, 1, 1, 1, 1, 2, 2, 2, 2, 2, 2, 1, 1, 1, 1, 1, 2, 4, 4, 4, 1, 17, 1, 1, 1, 2, 4, 2, 2, 1, 4]
  | .hold _ => [1, 4, 1, 1, 4, 1, 4, 4, 1, 4, 4, 4, 4, 4, 4, 4, 4, 1]
  | .tariff _ => [4, 4]
  | .table n => List.replicate (match n with | 0 => 7 | 1 => 10 | 2 => 8) 2
  | .notice => [2, 2, 1]

/-- The whole fields that data bytes cover from a field on, with their values; nothing when the bytes do not end on a
field boundary within the record (09, R162). -/
def coverFields : List Nat → Nat → List Byte → Option (List (Nat × Nat))
  | _, _, [] => some []
  | [], _, _ :: _ => none
  | width :: ws, field, data =>
    if data.length < width then none
    else (coverFields ws (field + 1) (data.drop width)).map (fun rest => (field, leValue (data.take width)) :: rest)

end Sys2Proof.Machine
end

