-- ==== Sys2Proof/Machine/FieldLink.lean ====
section
/-! DEFINITION. The field link (01): sample frames, silence, route frames, and what each owner does with a delivered
sample or a BAD report (02 R24 to R26; 03 R48, R55; 04 R70; 05 R90; 06 R122, R123). -/
namespace Sys2Proof.Machine

/-- What the interface keeps of a channel (01, R6). -/
def FieldLink.chan (f : FieldLink) : Channel → ChannelState
  | .bankP b => f.bankP.get b
  | .bankT b => f.bankT.get b
  | .hoseP p => f.hoseP.get p
  | .suctionP => f.suction
  | .ambientT => f.ambient
  | .loopT l => f.loopT.get l

/-- Replace what the interface keeps of a channel. -/
def FieldLink.setChan (f : FieldLink) (c : Channel) (x : ChannelState) : FieldLink :=
  match c with
  | .bankP b => { f with bankP := f.bankP.set b x }
  | .bankT b => { f with bankT := f.bankT.set b x }
  | .hoseP p => { f with hoseP := f.hoseP.set p x }
  | .suctionP => { f with suction := x }
  | .ambientT => { f with ambient := x }
  | .loopT l => { f with loopT := f.loopT.set l x }

/-- Flags recomputed; a low-mark crossing of a READY or SERVING bank joins the refill queue (02, R23). -/
def Work.reflag (b : BankId) (w : Work) : Work :=
  let old := w.bank b
  let w1 := w.modBank b Bank.withFlags
  if old.belowLow = false ∧ (w1.bank b).belowLow = true ∧ (old.state = .ready ∨ old.state = .serving) then
    w1.joinQueue b
  else w1

/-- The leak comparison of a READY bank; a reference below the allowance leaves a difference of 0 (02, R27). -/
def State.leaks (s : State) (b : BankId) (v : Nat) : Bool :=
  (s.bank b).leakRef.any (fun r => decide (v < r - s.station.leakAllowance))

/-- A bank pressure passed to the position it serves: the step test for the current bank of a FUELLING session, nothing
else (05, R90; 06, R123). -/
def Work.pressureToPos (p : PosId) (b : BankId) (w : Work) : Work :=
  let x := (w.pos p).ses
  if x.state = .fuelling ∧ x.current = some b ∧ w.stepDue p = true then w.stepFill p else w

/-- A delivered bank pressure sample, steps 3 to 7 (02, R24). -/
def Work.judgePressure (b : BankId) (v : Nat) (w : Work) : Work :=
  let k := w.bank b
  if k.inService = true ∧ k.overRated = true then w.isolateBank b .overpressure
  else
    match k.state, k.claimant with
    | .ready, _ => if w.leaks b v then w.isolateBank b .leak else w.offerBank b
    | .serving, some (.pos p) => w.pressureToPos p b
    | .refilling, some (.comp c) => w.pressureToComp c b
    | _, _ => w

/-- A delivered bank pressure sample (02, R24). -/
def Work.bankPressure (b : BankId) (v : Nat) (w : Work) : Work :=
  let w1 := w.modBank b (fun k => { k with pressure := some v })
  if (w.bank b).state = .unused then w1 else (w1.reflag b).judgePressure b v

/-- A delivered bank temperature sample (02, R25). -/
def Work.bankTemperature (b : BankId) (t : Int) (w : Work) : Work :=
  let w1 := w.modBank b (fun k => { k with temperature := some t })
  if Config.hotTemperature ≤ t then w1.isolateBank b .overtemp else w1

/-- A delivered hose sample (05, R90; 06, R122). -/
def Work.hoseSample (p : PosId) (v : Nat) (w : Work) : Work :=
  let w1 := w.modPos p (fun x => { x with ses.hose := some v })
  match (w.pos p).ses.state with
  | .pulsing | .held => w1.renewNeed p
  | .fuelling =>
    if (w.pos p).ses.target ≤ v then w1.endFill p .fullPressure
    else if w1.stepDue p then w1.stepFill p
    else w1.judgeValve p
  | _ => w1

/-- A suction loss: every compressor in STARTING or RUNNING loses its refill, K0 first (03, R55). -/
def Work.suctionLoss (w : Work) : Work :=
  Work.each (fun k w => if (w.comp k).active then w.loseRefill k else w) allComps w

/-- A suction arrival judges the condition (03, R48). -/
def Work.judgeSuction (ok : Bool) (w : Work) : Work :=
  match ok, w.suction with
  | true, .short => ({ w with suction := .sufficient } : Work).oweEval
  | false, .sufficient => ({ w with suction := .short } : Work).suctionLoss
  | _, _ => w

/-- The owner takes a delivered sample (01, R9). -/
def Work.deliver (c : Channel) (v : Int) (w : Work) : Work :=
  match c with
  | .bankP b => w.bankPressure b v.toNat
  | .bankT b => w.bankTemperature b v
  | .hoseP p => w.hoseSample p v.toNat
  | .suctionP =>
    (w.modStation (fun s => { s with suction := some v.toNat })).judgeSuction
      (decide (w.station.suctionMin ≤ v.toNat))
  | .ambientT => w.modStation (fun s => { s with ambient := some v })
  | .loopT l => w.modLoop l (fun x => { x with outlet := some v })

/-- The owner receives a BAD report (01, R7; 02, R26; 03, R48; 04, R70; 05, R90). -/
def Work.badReport (c : Channel) (w : Work) : Work :=
  match c with
  | .bankP b => (w.modBank b (fun k => { k with pressure := none })).isolateBank b .sensor
  | .bankT b => (w.modBank b (fun k => { k with temperature := none })).isolateBank b .sensor
  | .hoseP p => (w.modPos p (fun x => { x with ses.hose := none })).endFill p .sensor
  | .suctionP => (w.modStation (fun s => { s with suction := none })).judgeSuction false
  | .ambientT => w.modStation (fun s => { s with ambient := none })
  | .loopT l => w.modLoop l (fun x => { x with outlet := none })

/-- A channel becomes or stays GOOD with a value, its silence timer started anew (01, R7, R8). -/
def ChannelState.good (v : Int) : ChannelState :=
  { quality := .good, value := some v, silence := some Config.silenceMs }

/-- A channel becomes BAD: its silence timer stops, its value is kept (01, R7). -/
def ChannelState.toBad (x : ChannelState) : ChannelState := { x with quality := .bad, silence := none }

/-- A channel goes BAD and its owner is told (01, R7, R8). -/
def Work.channelLost (c : Channel) (w : Work) : Work :=
  ({ w with link := w.link.setChan c (w.link.chan c).toBad } : Work).badReport c

/-- A taken frame is judged against its channel's present quality (01, R7). -/
def Work.takeSample (f : Sample) (w : Work) : Work :=
  if f.good = true ∧ plausible f.chan f.value = true then
    ({ w with link := w.link.setChan f.chan (ChannelState.good f.value) } : Work).deliver f.chan f.value
  else if (w.link.chan f.chan).quality = .good then w.channelLost f.chan
  else w

/-- One byte at the sample receiver: outside a frame only the marker counts; the sixth byte after it completes the
frame, which is judged whole (11, R182; 01, R6). -/
def State.sampleByte (s : State) (b : Byte) : State :=
  match s.link.rx with
  | none => if b = Config.sampleMarker then { s with link.rx := some [] } else s
  | some buf =>
    let body := buf ++ [b]
    if body.length < 6 then { s with link.rx := some body }
    else
      let s1 : State := { s with link.rx := none }
      match parseSample body with
      | none => s1
      | some f => s1.rule (Work.takeSample f)

/-- SAMPLE_FRAME: bytes on the field link, each taken by the receiver in turn (01, R6, R7; 11, R182; log 17). -/
def execSampleFrame (bytes : List Byte) (s : State) : Host.Outcome State Fault Refusal :=
  .next (bytes.foldl State.sampleByte s)

/-- SILENCE_TIMER_EXPIRY: a running silence timer expires; the channel becomes BAD and its owner is told (01, R8). -/
def execSilenceTimerExpiry (c : Channel) (s : State) : Host.Outcome State Fault Refusal :=
  .next (if (s.link.chan c).silence.isSome then s.rule (Work.channelLost c) else s)

/-- ROUTE_FRAME_COMPLETE: the waiting frame, if any, is sent (01, R10; log 21). -/
def execRouteFrameComplete (s : State) : Host.Outcome State Fault Refusal :=
  .next { s with link := { s.link with sending := s.link.waiting, waiting := none } }

end Sys2Proof.Machine
end

