-- ==== Sys2Proof/Machine/Formats.lean ====
section
/-! DEFINITION. What the part clocks out: codes, field images of every record, the summary record, the status byte and
the route frame (11 R178 to R182; 01 R5; 09 R166, R168). -/
namespace Sys2Proof.Machine

/-! ### Codes (11, R179) -/

/-- phase -/
def Phase.code : Phase → Nat | .setup => 0 | .service => 1
/-- halt state -/
def HaltState.code : HaltState → Nat | .running => 0 | .halted => 1
/-- port mode: 0 or 3 (01, R1) -/
def PortMode.code : PortMode → Nat | .mode0 => 0 | .mode3 => 3
/-- tier, reach, tier cursor -/
def Tier.code : Tier → Nat | .unused => 0 | .t1 => 1 | .t2 => 2 | .t3 => 3
/-- bank state -/
def BankState.code : BankState → Nat | .unused => 0 | .ready => 1 | .serving => 2 | .refilling => 3 | .isolated => 4
/-- claimant: positions 0 to 7, K0 16, K1 17 -/
def Claimant.code : Claimant → Nat | .pos p => p.val | .comp k => 16 + k.val
/-- isolation reason -/
def IsoReason.code : IsoReason → Nat | .host => 0 | .sensor => 1 | .overpressure => 2 | .overtemp => 3 | .leak => 4
/-- compressor state -/
def CompState.code : CompState → Nat
  | .stopped => 0 | .starting => 1 | .running => 2 | .unloading => 3 | .faulted => 4
/-- chiller state -/
def ChillerState.code : ChillerState → Nat | .off => 0 | .waitingPower => 1 | .running => 2
/-- band -/
def Band.code : Band → Nat | .cold => 0 | .cool => 1 | .lost => 2
/-- position class -/
def PosClass.code : PosClass → Nat | .unused => 0 | .bus35 => 1 | .car70 => 2
/-- session state -/
def SessionState.code : SessionState → Nat
  | .idle => 0 | .authorised => 1 | .cooling => 2 | .pulsing => 3 | .checking => 4 | .fuelling => 5 | .held => 6
  | .venting => 7 | .done => 8
/-- mode -/
def Mode.code : Mode → Nat | .comm => 0 | .noncomm => 1
/-- fallback reaction -/
def Reaction.code : Reaction → Nat | .immediate => 0 | .atStep => 1
/-- fallback state -/
def Fallback.code : Fallback → Nat | .none => 0 | .deferred => 1 | .applied => 2
/-- valve -/
def Valve.code : Valve → Nat | .closed => 0 | .opened => 1
/-- hold state -/
def HoldState.code : HoldState → Nat | .free => 0 | .opened => 1 | .bound => 2 | .settled => 3
/-- class permit -/
def Permit.code : Permit → Nat | .bus35 => 1 | .car70 => 2 | .either => 3
/-- limit kind -/
def LimitKind.code : LimitKind → Nat | .mass => 0 | .money => 1
/-- end reason, in the order of the table of R104 -/
def EndReason.code : EndReason → Nat
  | .fullPressure => 0 | .fullSoc => 1 | .limitMass => 2 | .limitMoney => 3 | .hostStop => 4 | .tankHot => 5
  | .vehicleAbort => 6 | .vehicleHalt => 7 | .noSupply => 8 | .precoolTimeout => 9 | .precoolLost => 10 | .stall => 11
  | .sensor => 12 | .leak => 13 | .lowStart => 14 | .stationHalt => 15 | .cleared => 16 | .heldTimeout => 17
  | .uncoupled => 18
/-- result (11, R178) -/
def Result.code : Result → Nat
  | .ok => 0 | .framing => 1 | .length => 2 | .noRecord => 3 | .noField => 4 | .noVerb => 5 | .readOnly => 6
  | .range => 7 | .state => 8 | .busy => 9 | .phase => 10 | .halted => 11 | .noWindow => 12
/-- a flag -/
def flag (b : Bool) : Nat := if b then 1 else 0
/-- flags, lowest bit first (11, R179) -/
def flags : List Bool → Nat
  | [] => 0
  | b :: bs => flag b + 2 * flags bs

/-- Bytes of an optional value; absent reads all ones (11, R179). -/
def optBytes (width : Nat) : Option Nat → List Byte
  | some v => leBytes width v
  | none => List.replicate width 0xFF

/-- Bytes of a stamp (11, R179). -/
def stampBytes (s : Stamp) : List Byte := optBytes 4 (s.map BitVec.toNat)

/-- Bytes of an optional temperature (11, R179). -/
def tempBytes (t : Option Int) : List Byte := optBytes 2 (t.map toOffset)

/-- Entries of a list field, in order, then unused ones (11, R180; 01, R5). -/
def listBytes {α : Type} (slots width : Nat) (enc : α → List Byte) (xs : List α) : List Byte :=
  leBytes 1 xs.length ++ (xs.flatMap enc) ++ List.replicate ((slots - xs.length) * width) 0xFF

/-! ### Images (11, R180) -/

/-- Input levels, three bytes (11, R179). -/
def InputLevels.bytes (x : InputLevels) : List Byte :=
  leBytes 1 (flags [x.esd, x.fault.get 0, x.fault.get 1]) ++ leBytes 1 (flags x.coupled.toList) ++
    leBytes 1 (flags x.seated.toList)

/-- The window field: class, then record number (09, R166). -/
def windowBytes : Option RecordRef → List Byte
  | some r => leBytes 1 r.codes.1 ++ leBytes 1 r.codes.2
  | none => [0xFF, 0xFF]

/-- STATION (11, R180). -/
def stationImage (s : State) : List (List Byte) :=
  let x := s.station
  [leBytes 4 x.clock.toNat, leBytes 1 x.phase.code, leBytes 1 x.halt.code, leBytes 1 x.markProfile.val,
   leBytes 1 x.portMode.code, x.inputs.bytes, leBytes 2 x.allowance, leBytes 2 s.granted, leBytes 2 x.switchMargin,
   leBytes 2 x.suctionMin, optBytes 2 x.suction, tempBytes x.ambient, leBytes 2 x.leakAllowance,
   leBytes 2 x.leakWindow, leBytes 2 x.taperMass, leBytes 2 x.graceMass, leBytes 1 x.stallWindow,
   leBytes 1 x.deferralLimit,
   listBytes 12 5 (fun (e : QueueEntry) => leBytes 1 e.bank.val ++ leBytes 4 e.stamp.toNat) s.refillQueue,
   listBytes 8 7 (fun (e : WaitEntry) => leBytes 1 e.pos.val ++ leBytes 2 e.need ++ leBytes 4 e.stamp.toNat)
     s.waitList,
   leBytes 1 s.port.lastResult.code, leBytes 1 s.port.errorCount, optBytes 1 (s.port.firstError.map Result.code),
   windowBytes s.port.window]

/-- BANK (11, R180). -/
def bankImage (k : Bank) : List (List Byte) :=
  [leBytes 1 k.tier.code, leBytes 2 k.rated, leBytes 2 k.low, leBytes 2 k.high, optBytes 2 k.pressure,
   tempBytes k.temperature, leBytes 1 k.state.code, optBytes 1 (k.claimant.map Claimant.code),
   leBytes 1 (flags [k.belowLow, k.atHigh]), leBytes 1 k.priority, leBytes 1 k.yields,
   optBytes 1 (k.isolation.map IsoReason.code), optBytes 2 k.leakRef, stampBytes k.leakStamp]

/-- COMPRESSOR (11, R180). -/
def compImage (c : Compressor) : List (List Byte) :=
  [leBytes 1 c.state.code, leBytes 1 c.reach.code, leBytes 2 c.draw, leBytes 1 c.startTime, leBytes 1 c.unloadTime,
   optBytes 1 (c.bank.map Fin.val), leBytes 1 (flag c.withheld), stampBytes c.startStamp, leBytes 2 c.refills.toNat]

/-- LOOP (11, R180). -/
def loopImage (l : LoopId) (s : State) : List (List Byte) :=
  let x := s.loop l
  [leBytes 1 (flags (allPositions.map (fun p => (s.pos p).cfg.loop == some l))), leBytes 2 x.draw,
   leBytes 2 x.capacity, leBytes 2 x.floor, leBytes 2 x.recharge, leBytes 2 x.consumption, leBytes 2 x.reserve,
   tempBytes x.outlet, leBytes 1 x.chiller.code, leBytes 1 x.band.code, leBytes 1 x.loss,
   listBytes 2 1 (fun (p : PosId) => leBytes 1 p.val) x.grants,
   listBytes 8 1 (fun (p : PosId) => leBytes 1 p.val) x.queue]

/-- The vehicle group's 17 bytes; the data state follows the freshness timer (11, R180; 07, R127). -/
def vehicleImage (p : Position) : List Byte :=
  match p.ses.vehicle with
  | none => List.replicate 17 0xFF
  | some g =>
    leBytes 2 g.volume ++ leBytes 2 g.pressure ++ leBytes 2 (toOffset g.temperature) ++ leBytes 1 g.command.code ++
      [g.sequence] ++ leBytes 2 g.frames ++ leBytes 1 g.invalids ++ leBytes 4 g.stamp.toNat ++
      leBytes 1 (flag p.tmr.freshness.isNone) ++ leBytes 1 g.fallback.code

/-- POSITION (11, R180). -/
def positionImage (p : Position) : List (List Byte) :=
  let c := p.cfg
  let x := p.ses
  [leBytes 1 c.cls.code, leBytes 1 (flag c.precool), optBytes 1 (c.loop.map Fin.val), leBytes 1 (flag c.receiver),
   leBytes 1 c.reaction.code, leBytes 1 c.gramsPerPulse, leBytes 1 c.ventTime, leBytes 1 x.state.code,
   optBytes 1 (x.boundHold.map Fin.val), optBytes 1 (x.lastHold.map Fin.val), optBytes 1 (x.mode.map Mode.code),
   leBytes 2 x.target, leBytes 2 x.rateLimit, optBytes 2 x.pendingRate, leBytes 2 x.effRate, leBytes 2 x.ceiling,
   optBytes 2 x.hose, optBytes 1 (x.current.map Fin.val), optBytes 1 (x.staged.map Fin.val), leBytes 1 x.cursor.code,
   leBytes 1 (flags [x.causes.noBank, x.causes.precool, x.causes.vehicle, x.causes.host]), leBytes 1 x.steps,
   leBytes 2 x.initial, stampBytes x.coupledStamp, stampBytes x.fuelStamp, stampBytes x.endStamp,
   optBytes 1 (x.endReason.map EndReason.code), vehicleImage p, optBytes 1 (x.supply.map Fin.val),
   leBytes 1 x.control.code, leBytes 1 x.vent.code, leBytes 2 c.freshnessTime, leBytes 4 p.meter.metered,
   optBytes 2 p.meter.period, leBytes 2 p.meter.flow, leBytes 1 (flag p.tmr.stall.isSome), leBytes 4 p.meter.stray]

/-- HOLD (11, R180). -/
def holdImage (k : Hold) : List (List Byte) :=
  [leBytes 1 k.state.code, leBytes 4 k.account, leBytes 1 k.permit.code, leBytes 1 k.kind.code, leBytes 4 k.limit,
   leBytes 1 k.plan.val, optBytes 4 k.price, optBytes 4 k.massCeiling, optBytes 1 (k.position.map Fin.val),
   leBytes 4 k.mark, leBytes 4 k.conditioning, leBytes 4 k.sold, leBytes 4 k.overrun, leBytes 4 k.amount,
   stampBytes k.openStamp, stampBytes k.bindStamp, stampBytes k.settleStamp,
   optBytes 1 (k.endReason.map EndReason.code)]

/-- TABLE (11, R180). -/
def tableImage (n : Fin 3) (s : State) : List (List Byte) :=
  match n with
  | 0 => s.rampTable.toList.map (leBytes 2)
  | 1 => s.targetTable.toList.map (leBytes 2)
  | 2 => s.fullTable.toList.map (leBytes 2)

/-- The fields of a record as bytes, in field order (09, R160; 11, R180). -/
def recordImage (ref : RecordRef) (s : State) : List (List Byte) :=
  match ref with
  | .station => stationImage s
  | .bank b => bankImage (s.bank b)
  | .comp k => compImage (s.comp k)
  | .loop l => loopImage l s
  | .position p => positionImage (s.pos p)
  | .hold h => holdImage (s.hold h)
  | .tariff n => [leBytes 4 (s.plan n).bus35, leBytes 4 (s.plan n).car70]
  | .table n => tableImage n s
  | .notice =>
    [leBytes 2 s.notices.requests.toNat, leBytes 2 s.notices.enables.toNat, optBytes 1 s.notices.top]

/-- The run of a record's bytes from a field's first byte on (09, R160). -/
def runFrom (ref : RecordRef) (field : Nat) (s : State) : List Byte := ((recordImage ref s).drop field).flatten

/-- The summary record (11, R181). -/
def summaryRecord (s : State) : List Byte :=
  leBytes 1 (flags [s.station.phase == .service, s.station.halt == .halted]) ++
    allPositions.flatMap (fun p => leBytes 1 (s.pos p).ses.state.code) ++
    allBanks.flatMap (fun b => leBytes 1 (s.bank b).state.code) ++
    allComps.flatMap (fun k => leBytes 1 (s.comp k).state.code) ++
    allLoops.flatMap (fun l => leBytes 1 (s.loop l).band.code) ++
    leBytes 1 (allHolds.filter (fun h => (s.hold h).state == .settled)).length ++ leBytes 2 s.granted

/-- The status byte (11, R178): last result, notice pending, halted, service phase, error held. -/
def statusByte (s : State) : Byte :=
  BitVec.ofNat 8 (s.port.lastResult.code + 16 * flags [s.notices.line, s.station.halt == .halted,
    s.station.phase == .service, decide (0 < s.port.errorCount)])

/-- The four bytes the part sends in bytes 0 to 3 (09, R158; 11, R178). -/
def headerBytes (s : State) : List Byte :=
  [statusByte s, BitVec.ofNat 8 (s.notices.top.getD 255), s.notices.requests.extractLsb' 0 8,
   s.notices.requests.extractLsb' 8 8]

/-- Bytes clocked: whole ones, then the high bits of an incomplete last one (09, R158). -/
def clocked (whole : Nat) (extra : Fin 8) (stream : Nat → Byte) : List Byte :=
  (List.range whole).map stream ++
    (if extra.val = 0 then [] else [stream whole &&& BitVec.ofNat 8 (256 - 2 ^ (8 - extra.val))])

/-- The bytes of one position in a route frame (11, R182). -/
def PosRoute.bytes (r : PosRoute) : List Byte :=
  optBytes 1 (r.supply.map Fin.val) ++ leBytes 1 r.control.code ++ leBytes 1 r.vent.code

/-- The 28 bytes of a route frame (11, R182). -/
def RouteRecord.frame (r : RouteRecord) : List Byte :=
  let body := r.positions.toList.flatMap PosRoute.bytes ++
    r.discharge.toList.flatMap (fun d => optBytes 1 (d.map Fin.val))
  Config.sampleMarker :: (body ++ [checkByte body])

/-- SUMMARY_TRANSFER: the bytes clocked, from one snapshot; no record changes (09, R168). A SUMSEL asserted during a port
transfer clocks out no summary (09, R169). -/
def execSummaryTransfer (bytes : Nat) (extra : Fin 8) (served : Bool) (s : State) :
    Host.Outcome State Fault Refusal :=
  .next (if served then
    { s with hostOut := clocked bytes extra (fun i => (summaryRecord s).getD i 0) }
  else s)

end Sys2Proof.Machine
end

