-- ==== Sys2Proof/Machine/Metering.lean ====
section
/-! DEFINITION. Metering and holds (08): pulses and where their grams go, the stall timer's expiry, bind, mark, unbind and
settlement. -/
namespace Sys2Proof.Machine

/-- The pulse period in whole milliseconds between two moments in microseconds, held to 1 to 60,000 (08, R140;
log 18). -/
def pulsePeriod (previous moment : Nat) : Nat := max 1 (min 60000 ((moment - previous) / 1000))

/-- The timing of a pulse: period, flow, previous moment (08, R140). -/
def Position.timePulse (moment : Nat) (p : Position) : Position :=
  match p.meter.prevPulse with
  | none => { p with meter := { p.meter with flow := 0, prevPulse := some moment } }
  | some m =>
    let period := pulsePeriod m moment
    { p with meter := { p.meter with
        period := some period, flow := p.cfg.gramsPerPulse * 1000 / period, prevPulse := some moment } }

/-- Grams with no fill to charge them to: the stray mass, which stays at its maximum, and N15 (08, R139, R141). -/
def Work.strayPulse (p : PosId) (grams : Nat) (w : Work) : Work :=
  (w.modPos p (fun x => { x with meter.stray := min max32 (x.meter.stray + grams) })).raise 15

/-- The metered mass rises by a pulse's grams (08, R139). -/
def Work.addMetered (p : PosId) (grams : Nat) (w : Work) : Work :=
  let r := w.addMass (w.pos p).meter.metered grams
  r.2.modPos p (fun x => { x with meter.metered := r.1 })

/-- Grams added to a hold's conditioning (08, R141). -/
def Work.addConditioning (h : HoldId) (grams : Nat) (w : Work) : Work :=
  let r := w.addMass (w.hold h).conditioning grams
  r.2.modHold h (fun k => { k with conditioning := r.1 })

/-- Grams added to a hold's overrun (08, R141). -/
def Work.addOverrun (h : HoldId) (grams : Nat) (w : Work) : Work :=
  let r := w.addMass (w.hold h).overrun grams
  r.2.modHold h (fun k => { k with overrun := r.1 })

/-- Mass ceiling of a hold; present while BOUND (08, R147; log 8). -/
def Hold.ceilingOf (k : Hold) : Nat := k.massCeiling.getD Config.absentNumber

/-- Price snapshot of a hold; present while BOUND (08, R147; log 8). -/
def Hold.priceOf (k : Hold) : Nat := k.price.getD Config.absentNumber

/-- Steps 2 and 3 of a sale pulse on the hold: sold up to the ceiling, and the amount (08, R142). -/
def Hold.sell (grams : Nat) (k : Hold) : Hold :=
  let sold := k.sold + min grams (k.ceilingOf - k.sold)
  { k with sold := sold, amount := amountOf sold k.priceOf }

/-- Grams of a sale pulse beyond the room left (08, R142 step 2). -/
def Hold.beyondRoom (grams : Nat) (k : Hold) : Nat := grams - (k.ceilingOf - k.sold)

/-- End reason of a hold that reaches its mass ceiling (08, R142 step 4). -/
def LimitKind.endReason : LimitKind → EndReason
  | .mass => .limitMass
  | .money => .limitMoney

/-- A taper told to a session in FUELLING or HELD sets its indication (06, R110). -/
def Work.tellTaper (p : PosId) (w : Work) : Work :=
  let st := (w.pos p).ses.state
  if st = .fuelling ∨ st = .held then w.modPos p (fun x => { x with ses.taper := true }) else w

/-- A sale pulse (08, R142). -/
def Work.salePulse (p : PosId) (h : HoldId) (grams : Nat) (w : Work) : Work :=
  let w1 := w.modPos p (fun x =>
    if x.tmr.stall.isSome then { x with tmr.stall := seconds w.station.stallWindow } else x)
  let beyond := (w1.hold h).beyondRoom grams
  let w2 := (w1.modHold h (Hold.sell grams)).addOverrun h beyond
  let k := w2.hold h
  if k.sold = k.ceilingOf then w2.endFill p k.kind.endReason
  else if k.ceilingOf - k.sold ≤ w2.station.taperMass then w2.tellTaper p
  else w2

/-- A meter pulse: timing, then the allocation by session state (08, R140, R141). -/
def Work.meterPulse (p : PosId) (moment : Nat) (w : Work) : Work :=
  let w1 := w.modPos p (Position.timePulse moment)
  let grams := (w1.pos p).cfg.gramsPerPulse
  match (w1.pos p).ses.boundHold, (w1.pos p).ses.state with
  | some h, .authorised => (((w1.addMetered p grams).addConditioning h grams).strayPulse p grams)
  | some h, .cooling => (((w1.addMetered p grams).addConditioning h grams).strayPulse p grams)
  | some h, .pulsing => (w1.addMetered p grams).addConditioning h grams
  | some h, .checking => (w1.addMetered p grams).addConditioning h grams
  | some h, .fuelling => (w1.addMetered p grams).salePulse p h grams
  | some h, .held => (w1.addMetered p grams).salePulse p h grams
  | some h, .venting => (w1.addMetered p grams).addOverrun h grams
  | _, _ => w1.strayPulse p grams

/-- Binding a hold to a position (08, R149, R150). -/
def Hold.bind (p : PosId) (price : Nat) (clock : Clock) (k : Hold) : Hold :=
  { k with
    state := .bound, position := some p, price := some price, massCeiling := some (massCeilingOf k.kind k.limit price),
    mark := 0, conditioning := 0, sold := 0, overrun := 0, amount := 0, bindStamp := some clock }

/-- Bind in the AUTHORISE rule (08, R149). -/
def Work.bindHold (p : PosId) (h : HoldId) (w : Work) : Work :=
  let price := (w.plan (w.hold h).plan).priceFor (w.pos p).cfg.cls
  (w.modHold h (Hold.bind p price w.station.clock)).modPos p (fun x => { x with meter.metered := 0 })

/-- The mark of the bound hold takes the metered mass (08, R151). -/
def Work.setMark (p : PosId) (w : Work) : Work :=
  match (w.pos p).ses.boundHold with
  | some h => w.modHold h (fun k => { k with mark := (w.pos p).meter.metered })
  | none => w

/-- Unbinding: OPEN again, with what the bind gave it taken away (08, R152). -/
def Hold.unbind (k : Hold) : Hold :=
  { k with
    state := .opened, price := none, massCeiling := none, position := none, bindStamp := none, mark := 0,
    conditioning := 0, sold := 0, overrun := 0, amount := 0 }

/-- An AUTHORISED session is undone: its hold unbound, the session IDLE, no end reason (05, R92, R103, R105). -/
def Work.undoAuthorise (p : PosId) (w : Work) : Work :=
  let w1 := match (w.pos p).ses.boundHold with
    | some h => w.modHold h Hold.unbind
    | none => w
  w1.modPos p Position.enterIdle

/-- Settlement with the rollback test (08, R153). -/
def Work.settle (h : HoldId) (reason : Option EndReason) (w : Work) : Work :=
  let k := w.hold h
  let w1 :=
    if reason.any EndReason.stationFault = true ∧ k.sold ≤ w.station.graceMass then
      (w.addConditioning h k.sold).modHold h (fun k => { k with sold := 0, amount := 0 })
    else w
  w1.modHold h (fun k =>
    { k with endReason := reason, settleStamp := some w.station.clock, state := .settled })

/-- METER_PULSE (08, R140 to R142). -/
def execMeterPulse (p : PosId) (moment : Nat) (s : State) : Host.Outcome State Fault Refusal :=
  .next (s.rule (Work.meterPulse p moment))

/-- STALL_TIMER_EXPIRY: the flow becomes 0 and the fill ends with STALL (08, R145). -/
def execStallTimerExpiry (p : PosId) (s : State) : Host.Outcome State Fault Refusal :=
  .next (if (s.pos p).tmr.stall.isSome ∧ (s.pos p).ses.state = .fuelling then
    s.rule (fun w => (w.modPos p (fun x => { x with meter.flow := 0 })).endFill p .stall)
  else s)

end Sys2Proof.Machine
end

