-- ==== Sys2Proof/Machine/VehicleData.lean ====
section
/-! DEFINITION. The vehicle data receiver (07): frames, freshness, the mode decision, fallback timers. -/
namespace Sys2Proof.Machine

/-- The receiver takes frames: CAR70 with a receiver, in AUTHORISED to HELD or VENTING (07, R126). -/
def Position.takesFrames (p : Position) : Bool :=
  p.cfg.cls == .car70 && p.cfg.receiver && p.ses.state != .idle && p.ses.state != .done

/-- A valid frame repeats the group's sequence (07, R129). -/
def Session.duplicate (x : Session) (d : VehicleData) : Bool := x.vehicle.any (fun g => g.sequence == d.sequence)

/-- Step 1: the readouts of a valid frame (07, R127, R128). -/
def readouts (d : VehicleData) (clock : Clock) (g : Option VehicleGroup) : VehicleGroup :=
  match g with
  | none =>
    { volume := d.volume, pressure := d.pressure, temperature := d.temperature, command := d.command,
      sequence := d.sequence, frames := 1, invalids := 0, stamp := clock, fallback := .none }
  | some g =>
    { g with
      volume := d.volume, pressure := d.pressure, temperature := d.temperature, command := d.command,
      sequence := d.sequence, frames := min 65535 (g.frames + 1), stamp := clock }

/-- Step 2: the freshness timer restarts, and a deferred fallback is cancelled (07, R128, R130, R133). -/
def Position.freshen (p : Position) : Position :=
  if p.ses.deferred then
    { p with
      ses.vehicle := p.ses.vehicle.map (fun g => { g with fallback := .none }),
      tmr := { p.tmr with freshness := some p.cfg.freshnessTime, deferral := none } }
  else { p with tmr.freshness := some p.cfg.freshnessTime }

/-- The full-pressure entry for a tank temperature (07, R136). -/
def State.fullPressureAt (s : State) (t : Int) : Nat := s.fullTable.get (tankBand t)

/-- Steps 5 and 6, in FUELLING or HELD with mode COMM (07, R134, R136). -/
def Work.commFrame (p : PosId) (d : VehicleData) (w : Work) : Work :=
  if w.fullPressureAt d.temperature ≤ d.pressure then w.endFill p .fullSoc
  else match d.command with
    | .halt => w.addCause p .vehicle
    | .run => w.removeCause p .vehicle
    | .abort => w

/-- A valid frame, steps 1 to 6 (07, R128). -/
def Work.validFrame (p : PosId) (d : VehicleData) (w : Work) : Work :=
  let x := (w.pos p).ses
  let w1 := w.modPos p (fun y => { y with ses.vehicle := some (readouts d w.station.clock y.ses.vehicle) })
  if x.state = .venting then w1
  else
    let w2 := if x.duplicate d = false ∧ x.state.open_ = true then w1.modPos p Position.freshen else w1
    if d.command = .abort then w2.endFill p .vehicleAbort
    else if Config.hotTemperature ≤ d.temperature then w2.endFill p .tankHot
    else if (x.state = .fuelling ∨ x.state = .held) ∧ x.isComm = true then w2.commFrame p d
    else w2

/-- An invalid frame raises the invalid count of a group that is present (07, R126). -/
def Work.invalidFrame (p : PosId) (w : Work) : Work :=
  w.modPos p (fun y =>
    { y with ses.vehicle := y.ses.vehicle.map (fun g => { g with invalids := min 255 (g.invalids + 1) }) })

/-- A complete frame of a position that takes frames (07, R126, R128). -/
def Work.takeVehicle (p : PosId) (body : List Byte) (w : Work) : Work :=
  match parseVehicle body with
  | some d => w.validFrame p d
  | none => w.invalidFrame p

/-- Replace a position's part-received frame. -/
def State.setRx (p : PosId) (r : Option PartFrame) (s : State) : State :=
  { s with positions := s.positions.set p { s.pos p with rx := r } }

/-- One byte at a vehicle receiver: outside a frame only the marker counts, and only where frames are taken; the ninth
byte after it completes the frame (07, R126; 11, R182). -/
def State.vehicleByte (p : PosId) (s : State) (b : Byte) : State :=
  match (s.pos p).rx with
  | none =>
    if (s.pos p).takesFrames = true ∧ b = Config.vehicleMarker then
      s.setRx p (some { bytes := [], doomed := false })
    else s
  | some f =>
    let body := f.bytes ++ [b]
    if body.length < 9 then s.setRx p (some { f with bytes := body })
    else
      let s1 := s.setRx p none
      if f.doomed = false ∧ (s.pos p).takesFrames = true then s1.rule (Work.takeVehicle p body) else s1

/-- VEHICLE_FRAME: bytes on a position's vehicle data input, each taken by the receiver in turn (07, R126, R128;
log 17). -/
def execVehicleFrame (p : PosId) (bytes : List Byte) (s : State) : Host.Outcome State Fault Refusal :=
  .next (bytes.foldl (State.vehicleByte p) s)

/-- COMM or NONCOMM at the end of the check (07, R131). -/
def Position.decideMode (p : Position) : Mode :=
  if p.cfg.receiver = true ∧ p.tmr.freshness.isSome = true ∧ p.ses.vehicle.any (fun g => g.command != .abort) = true
  then .comm else .noncomm

/-- A freshness expiry in FUELLING or HELD with mode COMM starts a fallback (07, R132). -/
def Work.startFallback (p : PosId) (w : Work) : Work :=
  match (w.pos p).cfg.reaction with
  | .immediate => w.applyFallback p
  | .atStep => w.modPos p (fun y =>
      { y with
        ses.vehicle := y.ses.vehicle.map (fun g => { g with fallback := .deferred }),
        tmr := { y.tmr with deferral := seconds w.station.deferralLimit } })

/-- The data goes STALE, and a COMM fill in FUELLING or HELD falls back (07, R130, R132). -/
def Work.freshnessExpiry (p : PosId) (w : Work) : Work :=
  let x := (w.pos p).ses
  let w1 := w.modPos p (fun y => { y with tmr.freshness := none })
  if (x.state = .fuelling ∨ x.state = .held) ∧ x.isComm = true then w1.startFallback p else w1

/-- FRESHNESS_EXPIRY (07, R130). -/
def execFreshnessExpiry (p : PosId) (s : State) : Host.Outcome State Fault Refusal :=
  .next (if (s.pos p).tmr.freshness.isSome then s.rule (Work.freshnessExpiry p) else s)

/-- DEFERRAL_EXPIRY: a deferred fallback is applied (07, R132). -/
def execDeferralExpiry (p : PosId) (s : State) : Host.Outcome State Fault Refusal :=
  .next (if (s.pos p).tmr.deferral.isSome then
    s.rule (fun w =>
      let w1 := w.modPos p (fun y => { y with tmr.deferral := none })
      if (w.pos p).ses.deferred then w1.applyFallback p else w1)
  else s)

end Sys2Proof.Machine
end

