-- ==== Sys2Proof/Machine/Sessions.lean ====
section
/-! DEFINITION. Nozzle lines, the coupling, the timers of a session and the ramp tick (05; 06 R108, R111). -/
namespace Sys2Proof.Machine

/-- The coupling of an AUTHORISED session (05, R92). -/
def Work.couple (p : PosId) (w : Work) : Work :=
  let x := w.pos p
  let w1 := w.modPos p (fun y =>
    { y with ses.coupledStamp := some w.station.clock, tmr := { y.tmr with connect := none } })
  if x.ses.hose = none then w1.endCore p .sensor
  else if x.cfg.precool then
    let w2 := w1.modPos p (fun y => { y with ses.state := .cooling, tmr.cooling := some Config.coolingMs })
    match x.cfg.loop with
    | some l => w2.requestGrant p l
    | none => w2
  else (w1.modPos p (fun y => { y with ses.state := .pulsing })).pulsingSelect p

/-- The level of a COUPLED line (01, R11). -/
def Station.setCoupled (p : PosId) (v : Bool) (s : Station) : Station :=
  { s with inputs.coupled := s.inputs.coupled.set p v }

/-- The level of a SEATED line (01, R11). -/
def Station.setSeated (p : PosId) (v : Bool) (s : Station) : Station :=
  { s with inputs.seated := s.inputs.seated.set p v }

/-- COUPLED_ARRIVAL (01, R11; 05, R92; log 5). -/
def execCoupledArrival (p : PosId) (s : State) : Host.Outcome State Fault Refusal :=
  .next (s.rule (fun w =>
    let w1 := w.modStation (Station.setCoupled p true)
    if (w.pos p).ses.state = .authorised then w1.couple p else w1))

/-- UNCOUPLED_ARRIVAL (01, R11; 05, R103). -/
def execUncoupledArrival (p : PosId) (s : State) : Host.Outcome State Fault Refusal :=
  .next (s.rule (fun w => (w.modStation (Station.setCoupled p false)).endFill p .uncoupled))

/-- SEATED_ARRIVAL: a DONE session becomes IDLE (01, R11; 05, R102). -/
def execSeatedArrival (p : PosId) (s : State) : Host.Outcome State Fault Refusal :=
  .next (s.rule (fun w =>
    let w1 := w.modStation (Station.setSeated p true)
    if (w.pos p).ses.state = .done then w1.modPos p Position.enterIdle else w1))

/-- LIFT_ARRIVAL: only the level (01, R11; 05, R102). -/
def execLiftArrival (p : PosId) (s : State) : Host.Outcome State Fault Refusal :=
  .next { s with station := s.station.setSeated p false }

/-- CONNECT_TIMEOUT: the hold is unbound, the session is IDLE, the position's notice is raised (05, R92). -/
def execConnectTimeout (p : PosId) (s : State) : Host.Outcome State Fault Refusal :=
  .next (if (s.pos p).tmr.connect.isSome ∧ (s.pos p).ses.state = .authorised then
    s.rule (fun w => (w.undoAuthorise p).raisePos p)
  else s)

/-- COOLING_TIMEOUT (05, R93). -/
def execCoolingTimeout (p : PosId) (s : State) : Host.Outcome State Fault Refusal :=
  .next (if (s.pos p).tmr.cooling.isSome ∧ (s.pos p).ses.state = .cooling then
    s.rule (Work.endFill p .precoolTimeout)
  else s)

/-- BANK_WAIT_TIMEOUT (05, R95). -/
def execBankWaitTimeout (p : PosId) (s : State) : Host.Outcome State Fault Refusal :=
  .next (if (s.pos p).tmr.bankWait.isSome ∧ (s.pos p).ses.state = .pulsing then
    s.rule (Work.endFill p .noSupply)
  else s)

/-- The pulse ends: route closed, the bank released, CHECKING (05, R95). -/
def Work.endPulse (p : PosId) (w : Work) : Work :=
  let cur := (w.pos p).ses.current
  let w1 := w.modPos p (fun x => { x.closeRoute with ses := { x.closeRoute.ses with current := none } })
  let w2 := match cur with
    | some b => w1.releaseBank (.pos p) b
    | none => w1
  w2.enterChecking p

/-- PULSE_TIMER_EXPIRY (05, R95). -/
def execPulseTimerExpiry (p : PosId) (s : State) : Host.Outcome State Fault Refusal :=
  .next (if (s.pos p).tmr.pulse.isSome ∧ (s.pos p).ses.state = .pulsing then s.rule (Work.endPulse p) else s)

/-- The target pressure fixed at step 4 of the check (05, R96). -/
def State.checkTarget (s : State) (p : PosId) (m : Mode) : Nat :=
  match m with
  | .comm => (s.pos p).cfg.cls.maxTarget
  | .noncomm => s.noncommTarget p

/-- The entry to FUELLING: mark, ceiling, stamp, ramp tick, selection, and the vehicle's HALT (05, R96 step 6; 06,
R118; 07, R131). -/
def Work.enterFuelling (p : PosId) (w : Work) : Work :=
  let w1 := (w.setMark p).modPos p (fun x =>
    { x with
      ses := { x.ses with
        state := .fuelling, ceiling := min x.ses.initial x.ses.target, fuelStamp := some w.station.clock },
      tmr := { x.tmr with ramp := some Config.tickMs } })
  let x := (w1.pos p).ses
  let w2 := w1.selectOrHold p
  if x.isComm = true ∧ x.vehicle.any (fun g => g.command == .halt) = true then w2.addCause p .vehicle else w2

/-- The expiry of the check window (05, R96). -/
def Work.checkExpiry (p : PosId) (w : Work) : Work :=
  let hose := w.hoseOf p
  let w0 := w.modPos p (fun x => { x with tmr.check := none })
  if hose + 50 < (w.pos p).ses.initial then w0.endFill p .leak
  else if hose < 50 then w0.endFill p .lowStart
  else
    let m := (w.pos p).decideMode
    let target := w.checkTarget p m
    let w1 := w0.modPos p (fun x => { x with ses := { x.ses with mode := some m, target := target } })
    if target ≤ hose then w1.endFill p .fullPressure else w1.enterFuelling p

/-- CHECK_WINDOW_EXPIRY (05, R96). -/
def execCheckWindowExpiry (p : PosId) (s : State) : Host.Outcome State Fault Refusal :=
  .next (if (s.pos p).tmr.check.isSome ∧ (s.pos p).ses.state = .checking then s.rule (Work.checkExpiry p) else s)

/-- HELD_TIMER_EXPIRY: the end reason comes from the causes present (05, R99). -/
def execHeldTimerExpiry (p : PosId) (s : State) : Host.Outcome State Fault Refusal :=
  .next (if (s.pos p).tmr.held.isSome ∧ (s.pos p).ses.state = .held then
    s.rule (Work.endFill p (s.pos p).ses.causes.endReason)
  else s)

/-- The expiry of the vent timer (05, R102). -/
def Work.ventExpiry (p : PosId) (w : Work) : Work :=
  let w1 := w.modPos p (fun x => { x with ses.vent := .closed, tmr.vent := none })
  let w2 := match (w.pos p).ses.boundHold with
    | some h => (w1.settle h (w.pos p).ses.endReason).raise 10
    | none => w1
  let w3 := (w2.modPos p (fun x =>
    { x.doomFrame with ses := { x.ses with boundHold := none, state := .done } })).raisePos p
  if w3.station.inputs.seated.get p then w3.modPos p Position.enterIdle else w3

/-- VENT_TIMER_EXPIRY (05, R102). -/
def execVentTimerExpiry (p : PosId) (s : State) : Host.Outcome State Fault Refusal :=
  .next (if (s.pos p).tmr.vent.isSome ∧ (s.pos p).ses.state = .venting then s.rule (Work.ventExpiry p) else s)

/-- Column of a band in the ramp table (06, R111). -/
def Band.column : Band → Nat
  | .cold => 0
  | .cool => 1
  | .lost => 2

/-- The band rate of a position; a dash of the table is never read (06, R109, R111; log 8). -/
def State.bandRate (s : State) (p : PosId) : Nat :=
  let x := s.pos p
  match x.cfg.cls, x.cfg.precool with
  | .car70, true => s.rampTable.toList.getD x.ses.band.column Config.absentNumber
  | .bus35, true => s.rampTable.toList.getD (3 + x.ses.band.column) Config.absentNumber
  | .bus35, false => s.rampTable.toList.getD 6 Config.absentNumber
  | _, _ => Config.absentNumber

/-- The effective rate from the band rate (06, R111). -/
def Session.rateFrom (band : Nat) (x : Session) : Nat :=
  let r1 := min band x.rateLimit
  let r2 := if x.mode = some .noncomm then r1 * 3 / 4 else r1
  if x.taper then (if r2 / 2 = 0 ∧ band ≠ 0 then 1 else r2 / 2) else r2

/-- Steps 1 to 4 of a ramp tick on the session (06, R108). -/
def Session.ramp (band : Nat) (x : Session) : Session :=
  let x1 := { x with rateLimit := x.pendingRate.getD x.rateLimit, pendingRate := none }
  let rate := x1.rateFrom band
  let x2 := { x1 with effRate := rate, ceiling := min (x.ceiling + rate) x.target }
  match x.staged with
  | some b => { x2 with current := some b, staged := none, supply := some b }
  | none => x2

/-- A ramp tick (06, R108). -/
def Work.rampTick (p : PosId) (w : Work) : Work :=
  (w.modPos p (fun x => { x with ses := x.ses.ramp (w.bandRate p) })).judgeValve p

/-- RAMP_TICK (06, R107, R108). -/
def execRampTick (p : PosId) (s : State) : Host.Outcome State Fault Refusal :=
  .next (if (s.pos p).tmr.ramp.isSome ∧ (s.pos p).ses.state = .fuelling then s.rule (Work.rampTick p) else s)

end Sys2Proof.Machine
end

