-- ==== Sys2Proof/Machine/Precool.lean ====
section
/-! DEFINITION. The precool tick of a loop (04, R73 to R77). -/
namespace Sys2Proof.Machine

/-- The grant holders of a loop whose session is FUELLING. -/
def State.fuellingHolders (s : State) (l : LoopId) : List PosId :=
  (s.loop l).grants.filter (fun p => (s.pos p).ses.state == .fuelling)

/-- The reserve after step 1, with `n` holders in FUELLING (04, R74). -/
def Loop.reserveAfter (n : Nat) (l : Loop) : Nat :=
  min (l.reserve + (if l.chiller = .running then l.recharge else 0) - l.consumption * n) l.capacity

/-- Step 1: the reserve, and N13 when it falls to 0 (04, R74). -/
def Work.tickReserve (l : LoopId) (w : Work) : Work :=
  let x := w.loop l
  let r := x.reserveAfter (w.fuellingHolders l).length
  let w1 := w.modLoop l (fun y => { y with reserve := r })
  if 0 < x.reserve ∧ r = 0 then w1.raise 13 else w1

/-- An OFF chiller claims its draw (03, R62; 04, R72). -/
def Work.claimChiller (l : LoopId) (w : Work) : Work :=
  if w.chillerFits l then w.modLoop l (fun x => { x with chiller := .running })
  else
    let w1 : Work := { w with powerQueue := w.powerQueue ++ [l] }
    w1.modLoop l (fun x => { x with chiller := .waitingPower })

/-- A chiller goes OFF: its draw is released, or it leaves the waiting order (04, R72). -/
def Work.stopChiller (l : LoopId) (w : Work) : Work :=
  let w1 := w.modLoop l (fun x => { x with chiller := .off })
  if (w.loop l).chiller = .running then w1.releasedDraw
  else { w1 with powerQueue := w1.powerQueue.filter (fun x => x != l) }

/-- Step 2: the chiller's demand (04, R75). -/
def Work.tickChiller (l : LoopId) (w : Work) : Work :=
  let x := w.loop l
  if x.chiller = .off then (if x.demand then w.claimChiller l else w)
  else if x.reserve = x.capacity ∧ x.grants = [] ∧ x.queue = [] then w.stopChiller l
  else w

/-- Step 3: the band, reported to each grant holder when it changes; a change from LOST removes PRECOOL (04, R75,
R76; 06, R109). -/
def Work.tickBand (l : LoopId) (w : Work) : Work :=
  let x := w.loop l
  let band := x.bandNow
  if band = x.band then w
  else
    let w1 := Work.each (fun p w => w.modPos p (fun y => { y with ses.band := band })) x.grants
      (w.modLoop l (fun y => { y with band := band }))
    if x.band = .lost then Work.each (fun p w => w.removeCause p .precool) x.grants w1 else w1

/-- Step 3 continued: the loss count, and at 10 the report to the holders then in FUELLING (04, R76; log 12). -/
def Work.tickLoss (l : LoopId) (w : Work) : Work :=
  let holders := w.fuellingHolders l
  let loss :=
    if (w.loop l).band ≠ .lost then 0
    else if holders = [] then (w.loop l).loss
    else min 10 ((w.loop l).loss + 1)
  let w1 := w.modLoop l (fun y => { y with loss := loss })
  if loss = 10 ∧ holders ≠ [] then (Work.each (fun p w => w.addCause p .precool) holders w1).raise 13 else w1

/-- The four steps of a tick in order (04, R73). -/
def Work.precoolTick (l : LoopId) (w : Work) : Work :=
  ((((w.tickReserve l).tickChiller l).tickBand l).tickLoss l).serveQueue l

/-- The band of each loop computed at once, with no report (04, R73). -/
def Work.computeBands (w : Work) : Work :=
  Work.each (fun l w => w.modLoop l (fun x => { x with band := x.bandNow })) allLoops w

/-- The tick timers of both loops started, and the bands computed (04, R73). -/
def Work.startTicks (w : Work) : Work :=
  (Work.each (fun l w => w.modLoop l (fun x => { x with tick := some Config.tickMs })) allLoops w).computeBands

/-- PRECOOL_TICK: a tick of a loop whose tick timer runs (04, R73). -/
def execPrecoolTick (l : LoopId) (s : State) : Host.Outcome State Fault Refusal :=
  .next (if (s.loop l).tick.isSome then s.rule (Work.precoolTick l) else s)

end Sys2Proof.Machine
end

