-- ==== Sys2Proof/Machine/Station.lean ====
section
/-! DEFINITION. Station control and the compressor and bank timers: ESD and the halt (01 R15), FAULT inputs (03 R57), CLEAR
in every block (01 R18), master reset (10 R174), the clock (01 R2). -/
namespace Sys2Proof.Machine

/-- A claimed bank: SERVING or REFILLING. -/
def Bank.claimed (b : Bank) : Bool := b.state == .serving || b.state == .refilling

/-- The halt at the bank table: claimed banks become READY and join if BELOW_LOW; the wait list is emptied (02, R39).
Several banks of one priority join lowest number first (DESIGN CHOICE, log 27: R15, R39, R44 and R66 name no order). -/
def Work.haltBanks (w : Work) : Work :=
  let w1 := Work.each (fun b w =>
    if (w.bank b).claimed then
      let w1 := w.makeReady b
      if (w1.bank b).belowLow then w1.joinQueue b else w1
    else w) allBanks w
  { w1 with waitList := [] }

/-- The halt at the compression scheduler (03, R66). -/
def Work.haltComps (w : Work) : Work :=
  Work.each (fun k w => if (w.comp k).active then w.unloadComp k else w) allComps w

/-- The halt at the precool allocator; the waiting order is emptied (04, R85; 03, R66). -/
def Work.haltLoops (w : Work) : Work :=
  let w1 := Work.each (fun l w => w.modLoop l (fun x =>
    { x with tick := none, chiller := .off, grants := [], queue := [], loss := 0 })) allLoops w
  { w1 with powerQueue := [] }

/-- The halt at one position (05, R105). -/
def Work.haltSession (p : PosId) (w : Work) : Work :=
  if (w.pos p).ses.state = .authorised then w.undoAuthorise p else w.endFill p .stationHalt

/-- The halt handed to every block (01, R15). -/
def Work.haltAll (w : Work) : Work :=
  Work.each Work.haltSession allPositions w.haltBanks.haltComps.haltLoops

/-- ESD_ASSERTED: halt, level, N0, and the halt handed on unless already HALTED (01, R15). -/
def execEsdAsserted (s : State) : Host.Outcome State Fault Refusal :=
  .next (s.rule (fun w =>
    let w1 := (w.modStation (fun x => { x with halt := .halted, inputs.esd := true })).raise 0
    if w.station.halt = .running then w1.haltAll else w1))

/-- ESD_RELEASED: only the level (01, R16). -/
def execEsdReleased (s : State) : Host.Outcome State Fault Refusal :=
  .next { s with station.inputs.esd := false }

/-- A compressor becomes FAULTED: route absent, timers stopped (03, R57). -/
def Compressor.fault (k : Compressor) : Compressor :=
  { k with state := .faulted, bank := none, startTimer := none, unloadTimer := none }

/-- A FAULT input going active (03, R57). -/
def Work.faultComp (k : CompId) (w : Work) : Work :=
  let c := w.comp k
  let w1 := (w.modComp k Compressor.fault).raise 12
  if c.active then
    match c.bank with
    | some b => (w1.releasedDraw).giveBack k b
    | none => w1.releasedDraw
  else w1

/-- The level of a FAULT input (01, R13). -/
def Station.setFault (k : CompId) (v : Bool) (s : Station) : Station :=
  { s with inputs.fault := s.inputs.fault.set k v }

/-- FAULT_ACTIVE (03, R57; log 5). -/
def execFaultActive (k : CompId) (s : State) : Host.Outcome State Fault Refusal :=
  .next (s.rule (fun w => (w.modStation (Station.setFault k true)).faultComp k))

/-- FAULT_INACTIVE: only the level (01, R13; 03, R57). -/
def execFaultInactive (k : CompId) (s : State) : Host.Outcome State Fault Refusal :=
  .next { s with station := s.station.setFault k false }

/-- CLOCK_SECOND: the clock counts one second and wraps (01, R2). -/
def execClockSecond (s : State) : Host.Outcome State Fault Refusal :=
  .next { s with station.clock := s.station.clock + 1 }

/-- The leak reference and its stamp are taken again and the timer starts again (02, R27). -/
def Bank.retakeLeak (clock : Clock) (leakWindow : Nat) (b : Bank) : Bank :=
  { b with leakRef := b.pressure, leakStamp := some clock, leakTimer := seconds leakWindow }

/-- LEAK_WINDOW_EXPIRY of a READY bank (02, R27). -/
def execLeakWindowExpiry (b : BankId) (s : State) : Host.Outcome State Fault Refusal :=
  .next (if (s.bank b).leakTimer.isSome ∧ (s.bank b).state = .ready then
    { s with banks := s.banks.set b ((s.bank b).retakeLeak s.station.clock s.station.leakWindow) }
  else s)

/-- The entry of a position is marked as having waited; the head's expiry judges a yield request (03, R60). -/
def Work.yieldWaitExpiry (p : PosId) (w : Work) : Work :=
  let w1 : Work := { w with waitList := w.waitList.map (fun e =>
    if e.pos == p then { e with yieldTimer := none, waited := true } else e) }
  match w1.waitList with
  | [] => w1
  | e :: _ => if e.pos = p then w1.yieldAtExpiry e else w1

/-- YIELD_WAIT_EXPIRY: the running yield wait timer of a position's entry expires (03, R60). -/
def execYieldWaitExpiry (p : PosId) (s : State) : Host.Outcome State Fault Refusal :=
  .next (if s.waitList.any (fun e => e.pos == p && e.yieldTimer.isSome) then s.rule (Work.yieldWaitExpiry p) else s)

/-- The start timer's expiry: RUNNING, and a bank at its high mark completes at once (03, R52). -/
def Work.startExpiry (k : CompId) (w : Work) : Work :=
  let w1 := w.modComp k (fun c => { c with state := .running, startTimer := none })
  match (w.comp k).bank with
  | some b => if (w.bank b).pressureAtHigh then w1.completeRefill k else w1
  | none => w1

/-- START_TIMER_EXPIRY (03, R52). -/
def execStartTimerExpiry (k : CompId) (s : State) : Host.Outcome State Fault Refusal :=
  .next (if (s.comp k).startTimer.isSome ∧ (s.comp k).state = .starting then s.rule (Work.startExpiry k) else s)

/-- UNLOAD_TIMER_EXPIRY: STOPPED, and an evaluation (03, R54). -/
def execUnloadTimerExpiry (k : CompId) (s : State) : Host.Outcome State Fault Refusal :=
  .next (if (s.comp k).unloadTimer.isSome ∧ (s.comp k).state = .unloading then
    s.rule (fun w => (w.modComp k (fun c => { c with state := .stopped, unloadTimer := none })).oweEval)
  else s)

/-! ### CLEAR (01, R18) -/

/-- CLEAR at the bank table: claimed banks become READY, no join, no offer; both lists emptied (02, R38; 03, R65). -/
def Work.clearBanks (w : Work) : Work :=
  let w1 := Work.each (fun b w => if (w.bank b).claimed then w.makeReady b else w) allBanks w
  { w1 with waitList := [], refillQueue := [] }

/-- CLEAR at one compressor (03, R65). -/
def Work.clearComp (k : CompId) (w : Work) : Work :=
  let c := w.comp k
  if c.state = .stopped ∨ c.state = .faulted then w
  else
    let w1 := w.modComp k (fun x =>
      { x with state := .stopped, bank := none, startTimer := none, unloadTimer := none })
    if c.active then w1.releasedDraw else w1

/-- CLEAR at one loop (04, R84). -/
def Work.clearLoop (l : LoopId) (w : Work) : Work :=
  w.modLoop l (fun x => { x with grants := [], queue := [], loss := 0 })

/-- A session that CLEAR settles: not IDLE, with a bound hold (05, R106). -/
def State.clearSettles (s : State) (p : PosId) : Bool :=
  (s.pos p).ses.state != .idle && (s.pos p).ses.boundHold.isSome

/-- CLEAR at one position (05, R106; 08, R155). -/
def Work.clearSession (p : PosId) (w : Work) : Work :=
  if (w.pos p).ses.state = .idle then w
  else
    let w1 := match (w.pos p).ses.boundHold with
      | some h => w.settle h (some .cleared)
      | none => w
    w1.modPos p (fun x =>
      ({ x with ses := { x.ses with endReason := some .cleared, endStamp := some w.station.clock } }).enterIdle)

/-- CLEAR in every block, then the notices: every request cleared, N10 if any hold was settled (01, R18; 10, R171). -/
def Work.clearAll (w : Work) : Work :=
  let settled := allPositions.any w.clearSettles
  let w1 := Work.each Work.clearSession allPositions
    (Work.each Work.clearLoop allLoops (Work.each Work.clearComp allComps w.clearBanks))
  let w2 : Work := { w1 with notices.requests := 0 }
  if settled then w2.raise 10 else w2

/-! ### Master reset (10, R174) -/

/-- A compressor's FAULT found active at the release (03, R57; 10, R174). -/
def State.resetFault (k : CompId) (s : State) : State :=
  if s.station.inputs.fault.get k then
    { s with comps := s.comps.set k (s.comp k).fault, notices := s.notices.raise 12 }
  else s

/-- The release of master reset with these straps and levels (01, R14; 10, R174). -/
def State.releaseReset (st : Straps) : State :=
  let s0 : State := { State.reset with station := Station.reset st }
  let s1 := if st.esd then { s0 with notices := s0.notices.raise 0 } else s0
  (s1.resetFault 0).resetFault 1

/-- MASTER_RESET. The queue and the free-value counter are the model's own and stay (log 22). -/
def execMasterReset (st : Straps) (s : State) : Host.Outcome State Fault Refusal :=
  .next { State.releaseReset st with pending := s.pending, freeIndex := s.freeIndex }

end Sys2Proof.Machine
end

