-- ==== Sys2Proof/Machine/HostVerbs.lean ====
section
/-! DEFINITION. The verbs of the record port, and OPEN and RETIRE: their checks and their effects (01 R17, R18; 02 R29,
R30; 03 R46, R58, R59; 05 R91, R100, R103; 08 R148, R156; 10 R173, R176, R177). -/
namespace Sys2Proof.Machine

/-- A check that fails with a result unless it holds. -/
def orFail (ok : Bool) (r : Result) : List Result := if ok then [] else [r]

/-- A position START can put into service: a loop where one is required, and a bank of each allowed tier (10, R176). -/
def State.configured (s : State) (p : PosId) : Bool :=
  let c := (s.pos p).cfg
  c.cls == .unused ||
    (!(c.precool && c.loop.isNone) && c.cls.tiers.all (fun t => allBanks.any (fun b => (s.bank b).tier == t)))

/-- Checks of START (10, R176). -/
def startFails (s : State) : List Result :=
  orFail (s.station.phase == .setup) .phase ++ orFail (s.station.halt == .running) .halted ++
    orFail (allPositions.all s.configured) .state

/-- START (10, R176). -/
def Work.startVerb (w : Work) : Work := (w.modStation (fun x => { x with phase := .service })).startTicks.oweEval

/-- Some compressor is STARTING, RUNNING or UNLOADING. -/
def Compressor.busy (k : Compressor) : Bool := k.active || k.state == .unloading

/-- Checks of SETUP (10, R177). -/
def setupFails (s : State) : List Result :=
  orFail (s.station.phase == .service) .phase ++
    orFail (allPositions.all (fun p => (s.pos p).ses.state == .idle) && allComps.all (fun k => !(s.comp k).busy)
      && allHolds.all (fun h => (s.hold h).state != .bound)) .state

/-- SETUP: ticks stop, chillers go OFF, loss counts 0, the waiting order is left (10, R177; 04, R83). -/
def Work.setupVerb (w : Work) : Work :=
  let w1 := Work.each (fun l w => w.modLoop l (fun x => { x with tick := none, chiller := .off, loss := 0 })) allLoops
    (w.modStation (fun x => { x with phase := .setup }))
  { w1 with powerQueue := [] }

/-- Checks of RESUME (01, R17). -/
def resumeFails (s : State) : List Result :=
  orFail (s.station.halt == .halted && !s.station.inputs.esd) .state

/-- RESUME (01, R17). -/
def Work.resumeVerb (w : Work) : Work :=
  let w1 := (w.modStation (fun x => { x with halt := .running })).oweEval
  if w.station.phase = .service then w1.startTicks else w1

/-- Checks of ISOLATE (02, R29). -/
def isolateFails (b : BankId) (s : State) : List Result := orFail (s.bank b).inService .state

/-- Checks of RESTORE: ISOLATED, both channels GOOD so that both fields are present, pressure and temperature in
bounds (02, R30). -/
def restoreFails (b : BankId) (s : State) : List Result :=
  let k := s.bank b
  orFail (k.state == .isolated && k.pressure.isSome && k.temperature.isSome && !k.overRated && !k.isHot) .state

/-- RESTORE: READY, join if BELOW_LOW, offer (02, R30). -/
def Work.restoreVerb (b : BankId) (w : Work) : Work :=
  ((w.modBank b (fun k => { k with isolation := none })).freeBank b).offerBank b

/-- Checks of REFILL (03, R46). -/
def refillFails (b : BankId) (s : State) : List Result :=
  let k := s.bank b
  orFail ((k.state == .ready || k.state == .serving) && !k.atHigh) .state

/-- Checks of CANCEL_REFILL (03, R46). -/
def cancelRefillFails (b : BankId) (s : State) : List Result := orFail (s.queued b) .state

/-- Checks of WITHHOLD (03, R59). -/
def withholdFails (k : CompId) (s : State) : List Result := orFail (!(s.comp k).withheld) .state

/-- WITHHOLD (03, R59). -/
def Work.withholdVerb (k : CompId) (w : Work) : Work := w.modComp k (fun c => { c with withheld := true })

/-- Checks of RELEASE (03, R59). -/
def releaseFails (k : CompId) (s : State) : List Result := orFail (s.comp k).withheld .state

/-- RELEASE (03, R59). -/
def Work.releaseVerb (k : CompId) (w : Work) : Work := (w.modComp k (fun c => { c with withheld := false })).oweEval

/-- Checks of CLEAR_FAULT (03, R58). -/
def clearFaultFails (k : CompId) (s : State) : List Result :=
  orFail ((s.comp k).state == .faulted && !s.station.inputs.fault.get k) .state

/-- CLEAR_FAULT (03, R58). -/
def Work.clearFaultVerb (k : CompId) (w : Work) : Work := (w.modComp k (fun c => { c with state := .stopped })).oweEval

/-- The hold an argument byte names, if there is one. -/
def holdOf (n : Nat) : Option HoldId := if h : n < 32 then some ⟨n, h⟩ else none

/-- Checks of AUTHORISE (05, R91). -/
def authoriseFails (p : PosId) (n : Nat) (s : State) : List Result :=
  let x := s.pos p
  orFail (s.station.phase == .service) .phase ++ orFail (s.station.halt == .running) .halted ++
    orFail (x.cfg.cls != .unused && x.ses.state == .idle) .state ++
    (match holdOf n with
     | none => [.range]
     | some h =>
       match (s.hold h).state with
       | .free => [.state]
       | .settled => [.state]
       | .bound => [.busy]
       | .opened => orFail ((s.hold h).permit.covers x.cfg.cls) .range)

/-- AUTHORISE: bind, fresh session, and the coupling at once when COUPLED is true (05, R91). -/
def Work.authoriseVerb (p : PosId) (n : Nat) (w : Work) : Work :=
  match holdOf n with
  | none => w
  | some h =>
    let w1 := (w.bindHold p h).modPos p (fun x => { x with ses := x.ses.afresh h x.cfg.cls.firstTier })
    if w.station.inputs.coupled.get p then w1.couple p
    else w1.modPos p (fun x => { x with tmr.connect := some Config.connectMs })

/-- Checks of STOP (05, R103). -/
def stopFails (p : PosId) (s : State) : List Result :=
  orFail ((s.pos p).ses.state == .authorised || (s.pos p).ses.state.live) .state

/-- STOP (05, R103). -/
def Work.stopVerb (p : PosId) (w : Work) : Work :=
  if (w.pos p).ses.state = .authorised then w.undoAuthorise p else w.endFill p .hostStop

/-- Checks of PAUSE (05, R100). -/
def pauseFails (p : PosId) (s : State) : List Result := orFail ((s.pos p).ses.state == .fuelling) .state

/-- Checks of CONTINUE (05, R100). -/
def continueFails (p : PosId) (s : State) : List Result :=
  orFail ((s.pos p).ses.state == .held && (s.pos p).ses.causes.host) .state

/-- ACK clears the requests its mask names (10, R173). -/
def Work.ackVerb (mask : Nat) (w : Work) : Work :=
  { w with notices.requests := w.notices.requests &&& ~~~(BitVec.ofNat 16 mask) }

/-- Fourth-step checks of a verb with its argument bytes (09, R164). -/
def verbFails (v : Verb) (args : List Byte) (s : State) : List Result :=
  match v with
  | .start => startFails s
  | .setup => setupFails s
  | .resume => resumeFails s
  | .clear => []
  | .isolate b => isolateFails b s
  | .restore b => restoreFails b s
  | .refill b => refillFails b s
  | .cancelRefill b => cancelRefillFails b s
  | .withhold k => withholdFails k s
  | .release k => releaseFails k s
  | .clearFault k => clearFaultFails k s
  | .authorise p => authoriseFails p (leValue args) s
  | .stop p => stopFails p s
  | .pause p => pauseFails p s
  | .continue_ p => continueFails p s
  | .ack => []

/-- Effect of a verb that passed (09, R163). -/
def Work.verbApply (v : Verb) (args : List Byte) (w : Work) : Work :=
  match v with
  | .start => w.startVerb
  | .setup => w.setupVerb
  | .resume => w.resumeVerb
  | .clear => w.clearAll
  | .isolate b => w.isolateBank b .host
  | .restore b => w.restoreVerb b
  | .refill b => w.joinQueue b
  | .cancelRefill b => w.leaveQueue b
  | .withhold k => w.withholdVerb k
  | .release k => w.releaseVerb k
  | .clearFault k => w.clearFaultVerb k
  | .authorise p => w.authoriseVerb p (leValue args)
  | .stop p => w.stopVerb p
  | .pause p => w.addCause p .host
  | .continue_ p => w.removeCause p .host
  | .ack => w.ackVerb (leValue args)

/-! ### OPEN and RETIRE -/

/-- Permit of a code (11, R179). -/
def permitOf : Nat → Option Permit
  | 1 => some .bus35
  | 2 => some .car70
  | 3 => some .either
  | _ => none

/-- Limit kind of a code (11, R179). -/
def limitKindOf : Nat → Option LimitKind
  | 0 => some .mass
  | 1 => some .money
  | _ => none

/-- Value checks of a writable hold field, by its number (08, R148; 11, R180). -/
def holdRange (field v : Nat) : List Result :=
  match field with
  | 2 => orFail (permitOf v).isSome .range
  | 3 => orFail (limitKindOf v).isSome .range
  | 4 => orFail (decide (1 ≤ v)) .range
  | 5 => orFail (decide (v ≤ 3)) .range
  | _ => []

/-- A taken write of a hold field, by its number (08, R148). -/
def Hold.write (field v : Nat) (k : Hold) : Hold :=
  match field with
  | 1 => { k with account := v }
  | 2 => { k with permit := (permitOf v).getD k.permit }
  | 3 => { k with kind := (limitKindOf v).getD k.kind }
  | 4 => { k with limit := v }
  | 5 => if h : v < 4 then { k with plan := ⟨v, h⟩ } else k
  | _ => k

/-- The five values OPEN carries: fields 1 to 5 in order (08, R148; 11, R180). -/
def openValues (args : List Byte) : List (Nat × Nat) := (coverFields [4, 1, 1, 4, 1] 1 args).getD []

/-- Checks of OPEN (08, R148). -/
def openFails (h : HoldId) (args : List Byte) (s : State) : List Result :=
  orFail ((s.hold h).state == .free) .state ++ (openValues args).flatMap (fun x => holdRange x.1 x.2)

/-- OPEN: the five values, the state and the open stamp (08, R148). -/
def Work.openHold (h : HoldId) (args : List Byte) (w : Work) : Work :=
  w.modHold h (fun k =>
    { (openValues args).foldl (fun k x => k.write x.1 x.2) k with
      state := .opened, openStamp := some w.station.clock })

/-- Checks of RETIRE (08, R156). -/
def retireFails (h : HoldId) (s : State) : List Result := orFail ((s.hold h).state != .bound) .busy

/-- RETIRE: the FREE values; the window empties if it names the hold (08, R156; 09, R167). -/
def Work.retireHold (h : HoldId) (w : Work) : Work :=
  let w1 := w.modHold h (fun _ => Hold.free)
  if w.port.window = some (.hold h) then { w1 with port.window := none } else w1

end Sys2Proof.Machine
end

