-- ==== Sys2Proof/Machine/HostWrites.lean ====
section
/-! DEFINITION. SET field by field: the checks of each owner (access, phase, record state, value) and what a taken write
does (01 R3; 02 R20 to R22, R33; 03 R42, R64; 04 R68; 05 R87; 06 R112; 07 R137; 08; 09 R166; 10 R170). -/
namespace Sys2Proof.Machine

/-- A value within bounds, or RANGE. -/
def inRange (lo hi v : Nat) : List Result := orFail (decide (lo ≤ v) && decide (v ≤ hi)) .range

/-- A SETUP-only field in SERVICE fails with PHASE (10, R175). -/
def setupOnly (s : State) : List Result := orFail (s.station.phase == .setup) .phase

/-- A value another field of the transfer carries, if it covers that field. -/
def carried (vals : List (Nat × Nat)) (field : Nat) : Option Nat := (vals.find? (fun x => x.1 == field)).map (·.2)

/-- Tier of a code (11, R179). -/
def tierOf : Nat → Option Tier
  | 0 => some .unused
  | 1 => some .t1
  | 2 => some .t2
  | 3 => some .t3
  | _ => none

/-- Class of a code (11, R179). -/
def classOf : Nat → Option PosClass
  | 0 => some .unused
  | 1 => some .bus35
  | 2 => some .car70
  | _ => none

/-! ### Checks -/

/-- STATION fields (01, R1, R3; 09, R166). -/
def stationFails (field v : Nat) : List Result :=
  match field with
  | 0 => []
  | 6 => inRange 0 2000 v
  | 8 => inRange 50 1000 v
  | 9 => inRange 50 2000 v
  | 12 => inRange 10 500 v
  | 13 => inRange 60 3600 v
  | 14 => inRange 0 5000 v
  | 15 => inRange 0 1000 v
  | 16 => inRange 5 120 v
  | 17 => inRange 1 30 v
  | 21 => inRange 0 0 v
  | _ => [.readOnly]

/-- BANK fields; a mark is judged against the other mark of the transfer, or the present one (02, R19 to R22, R33). -/
def bankFails (b : BankId) (vals : List (Nat × Nat)) (field v : Nat) (s : State) : List Result :=
  let k := s.bank b
  match field with
  | 0 => setupOnly s ++ orFail (tierOf v).isSome .range
  | 1 => setupOnly s ++ orFail (k.tier != .unused) .state ++ inRange 1000 11000 v
  | 2 =>
    let high := (carried vals 3).getD k.high
    orFail (k.tier != .unused) .state ++ orFail (decide (v < high) && decide (high ≤ k.rated)) .range
  | 3 =>
    let low := (carried vals 2).getD k.low
    orFail (k.tier != .unused) .state ++ orFail (decide (low < v) && decide (v ≤ k.rated)) .range
  | 9 => inRange 0 3 v
  | _ => [.readOnly]

/-- COMPRESSOR fields (03, R40, R42). -/
def compFails (field v : Nat) (s : State) : List Result :=
  match field with
  | 1 => setupOnly s ++ inRange 1 3 v
  | 2 => setupOnly s ++ inRange 1 2000 v
  | 3 => inRange 5 120 v
  | 4 => inRange 5 120 v
  | _ => [.readOnly]

/-- LOOP fields; capacity and floor are judged as the pair the transfer would leave (04, R67, R68). -/
def loopFails (l : LoopId) (vals : List (Nat × Nat)) (field v : Nat) (s : State) : List Result :=
  let x := s.loop l
  match field with
  | 1 => setupOnly s ++ inRange 1 2000 v
  | 2 => setupOnly s ++ inRange 1 60000 v ++ orFail (decide ((carried vals 3).getD x.floor ≤ v)) .range
  | 3 => inRange 0 60000 v ++ orFail (decide (v ≤ (carried vals 2).getD x.capacity)) .range
  | 4 => setupOnly s ++ inRange 1 1000 v
  | 5 => setupOnly s ++ inRange 1 1000 v
  | _ => [.readOnly]

/-- POSITION fields (05, R86, R87; 06, R112; 07, R127; 08, R139). -/
def positionFails (p : PosId) (field v : Nat) (s : State) : List Result :=
  let c := (s.pos p).cfg
  match field with
  | 0 => setupOnly s ++ orFail (classOf v).isSome .range
  | 1 => setupOnly s ++ orFail (c.cls != .unused) .state ++ inRange 0 1 v ++
      orFail (!(c.cls == .car70 && v == 0)) .range
  | 2 => setupOnly s ++ orFail c.precool .state ++ inRange 0 1 v
  | 3 => setupOnly s ++ orFail (c.cls == .car70) .state ++ inRange 0 1 v
  | 4 => setupOnly s ++ inRange 0 1 v
  | 5 => setupOnly s ++ inRange 1 20 v
  | 6 => inRange 1 30 v
  | 12 => orFail (s.pos p).ses.state.open_ .state ++ inRange 1 1000 v
  | 31 => setupOnly s ++ inRange 500 5000 v
  | 36 => inRange 0 0 v
  | _ => [.readOnly]

/-- HOLD fields 1 to 5, writable while OPEN (08, R147, R148). -/
def holdFails (h : HoldId) (field v : Nat) (s : State) : List Result :=
  if 1 ≤ field ∧ field ≤ 5 then orFail ((s.hold h).state == .opened) .state ++ holdRange field v else [.readOnly]

/-- Largest value of a TABLE entry (07, R137). -/
def tableMax (n : Fin 3) (field : Nat) : Nat :=
  match n with
  | 0 => 1000
  | 1 => if field < 5 then 8750 else 4375
  | 2 => 8750

/-- Least value of a TABLE entry (07, R137). -/
def tableMin (n : Fin 3) : Nat := if n = 0 then 0 else 100

/-- Every failing check of one covered field, judged in a state where the earlier fields of the transfer are written
(09, R162, R164; 02, R19; 05, R86). -/
def fieldFails (ref : RecordRef) (vals : List (Nat × Nat)) (field v : Nat) (s : State) : List Result :=
  match ref with
  | .station => stationFails field v
  | .bank b => bankFails b vals field v s
  | .comp _ => compFails field v s
  | .loop l => loopFails l vals field v s
  | .position p => positionFails p field v s
  | .hold h => holdFails h field v s
  | .tariff _ => inRange 1 1000000 v
  | .table n => setupOnly s ++ inRange (tableMin n) (tableMax n field) v
  | .notice => if field = 1 then [] else [.readOnly]

/-! ### Taken writes -/

/-- A write of the power allowance (03, R63, R64). -/
def Work.allowanceWrite (v : Nat) (w : Work) : Work :=
  let w1 := w.modStation (fun x => { x with allowance := v })
  if w.station.allowance < v then w1.releasedDraw
  else if v < w.granted then (Work.shed 4 w1).raise 14
  else w1

/-- A write of the switch margin recomputes every entry's need level (02, R35). -/
def Work.marginWrite (v : Nat) (w : Work) : Work :=
  let w1 := w.modStation (fun x => { x with switchMargin := v })
  { w1 with waitList := w1.waitList.map (fun e => { e with need := w1.needOf e.pos }) }

/-- A write of the clock (01, R2). -/
def Station.clockWrite (v : Nat) (x : Station) : Station := { x with clock := BitVec.ofNat 32 v }

/-- The error count and the first error code are cleared (09, R166). -/
def Port.clearErrors (p : Port) : Port := { p with errorCount := 0, firstError := none }

/-- A taken write of a STATION field (01, R3; 09, R166). -/
def Work.stationWrite (field v : Nat) (w : Work) : Work :=
  match field with
  | 0 => w.modStation (Station.clockWrite v)
  | 6 => w.allowanceWrite v
  | 8 => w.marginWrite v
  | 9 => w.modStation (fun x => { x with suctionMin := v })
  | 12 => w.modStation (fun x => { x with leakAllowance := v })
  | 13 => w.modStation (fun x => { x with leakWindow := v })
  | 14 => w.modStation (fun x => { x with taperMass := v })
  | 15 => w.modStation (fun x => { x with graceMass := v })
  | 16 => w.modStation (fun x => { x with stallWindow := v })
  | 17 => w.modStation (fun x => { x with deferralLimit := v })
  | 21 => { w with port := w.port.clearErrors }
  | _ => w

/-- A bank made UNUSED by a tier write; pressure and temperature go on (02, R20). -/
def Bank.toUnused (k : Bank) : Bank :=
  { k.dropLeak with
    tier := .unused, state := .unused, claimant := none, rated := 0, low := 0, high := 0, belowLow := false,
    atHigh := false, yields := 0, isolation := none }

/-- A READY bank above its rated pressure after a reload is isolated (02, R20, R21). -/
def Work.checkRated (b : BankId) (w : Work) : Work :=
  if (w.bank b).state = .ready ∧ (w.bank b).overRated = true then w.isolateBank b .overpressure else w

/-- An UNUSED bank given a tier: READY, then SENSOR, OVERPRESSURE or OVERTEMP as its channels say. A field is absent
exactly while its channel is BAD (02, R19, R20). -/
def Work.newTier (b : BankId) (w : Work) : Work :=
  let w1 := w.makeReady b
  let k := w1.bank b
  let w2 := if k.belowLow then w1.joinQueue b else w1
  if k.pressure = none ∨ k.temperature = none then w2.isolateBank b .sensor
  else if k.overRated then w2.isolateBank b .overpressure
  else if k.isHot then w2.isolateBank b .overtemp
  else w2

/-- A taken write of a tier (02, R20). -/
def Work.tierWrite (b : BankId) (t : Tier) (w : Work) : Work :=
  let k := w.bank b
  if t = .unused then
    (if k.state = .unused then w else (w.modBank b Bank.toUnused).leaveQueue b)
  else
    let w1 := w.modBank b (fun x => ({ x with tier := t, rated := t.defaultRated }).loadMarks w.station.markProfile)
    if k.state = .unused then w1.newTier b else (w1.reflag b).checkRated b

/-- A taken write of a rated pressure (02, R21). -/
def Work.ratedWrite (b : BankId) (v : Nat) (w : Work) : Work :=
  ((w.modBank b (fun x => ({ x with rated := v }).loadMarks w.station.markProfile)).reflag b).checkRated b

/-- A taken write of a refill priority (02, R33; 03, R47). -/
def Work.priorityWrite (b : BankId) (v : Nat) (w : Work) : Work :=
  (w.modBank b (fun x => { x with priority := v })).replaceEntry b

/-- A taken write of a BANK field (02). -/
def Work.bankWrite (b : BankId) (field v : Nat) (w : Work) : Work :=
  match field with
  | 0 => w.tierWrite b ((tierOf v).getD .unused)
  | 1 => w.ratedWrite b v
  | 2 => (w.modBank b (fun x => { x with low := v })).reflag b
  | 3 => (w.modBank b (fun x => { x with high := v })).reflag b
  | 9 => w.priorityWrite b v
  | _ => w

/-- A taken write of a COMPRESSOR field (03, R42). -/
def Compressor.write (field v : Nat) (k : Compressor) : Compressor :=
  match field with
  | 1 => { k with reach := (tierOf v).getD k.reach }
  | 2 => { k with draw := v }
  | 3 => { k with startTime := v }
  | 4 => { k with unloadTime := v }
  | _ => k

/-- A taken write of a LOOP field; a capacity below the reserve lowers the reserve (04, R68). -/
def Loop.write (field v : Nat) (x : Loop) : Loop :=
  match field with
  | 1 => { x with draw := v }
  | 2 => { x with capacity := v, reserve := min x.reserve v }
  | 3 => { x with floor := v }
  | 4 => { x with recharge := v }
  | 5 => { x with consumption := v }
  | _ => x

/-- A class write sets the dependent fields to the defaults of the class (05, R87). -/
def PosConfig.setClass (c : PosClass) (x : PosConfig) : PosConfig :=
  { x with cls := c, precool := c == .car70, loop := none, receiver := false }

/-- Loop of a code (11, R179). -/
def loopOf (v : Nat) : Option LoopId := if h : v < 2 then some ⟨v, h⟩ else none

/-- A taken write of a POSITION configuration field (05, R86, R87; 07, R127). -/
def PosConfig.write (field v : Nat) (x : PosConfig) : PosConfig :=
  match field with
  | 0 => x.setClass ((classOf v).getD x.cls)
  | 1 => { x with precool := v == 1, loop := if v = 1 then x.loop else none }
  | 2 => { x with loop := loopOf v }
  | 3 => { x with receiver := v == 1 }
  | 4 => { x with reaction := if v = 1 then .atStep else .immediate }
  | 5 => { x with gramsPerPulse := v }
  | 6 => { x with ventTime := v }
  | 31 => { x with freshnessTime := v }
  | _ => x

/-- A taken write of a POSITION field: the rate limit lands in the pending rate limit (06, R112), the stray mass is
cleared (08, R139), the rest is configuration. -/
def Position.write (field v : Nat) (x : Position) : Position :=
  match field with
  | 12 => { x with ses.pendingRate := some v }
  | 36 => { x with meter.stray := v }
  | _ => { x with cfg := x.cfg.write field v }

/-- A taken write of a TARIFF field (08, R146). -/
def Plan.write (field v : Nat) (x : Plan) : Plan := if field = 0 then { x with bus35 := v } else { x with car70 := v }

/-- A taken write of a TABLE entry (07, R137). -/
def Work.tableWrite (n : Fin 3) (field v : Nat) (w : Work) : Work :=
  match n with
  | 0 => { w with rampTable := w.rampTable.setIfInBounds field v }
  | 1 => { w with targetTable := w.targetTable.setIfInBounds field v }
  | 2 => { w with fullTable := w.fullTable.setIfInBounds field v }

/-- A taken write of one field with its owner's rule (09, R162); log 29 says when the rule runs in a SET of several. -/
def Work.writeField (ref : RecordRef) (field v : Nat) (w : Work) : Work :=
  match ref with
  | .station => w.stationWrite field v
  | .bank b => w.bankWrite b field v
  | .comp k => w.modComp k (Compressor.write field v)
  | .loop l => w.modLoop l (Loop.write field v)
  | .position p => w.modPos p (Position.write field v)
  | .hold h => w.modHold h (Hold.write field v)
  | .tariff n => { w with plans := w.plans.set n ((w.plan n).write field v) }
  | .table n => w.tableWrite n field v
  | .notice => if field = 1 then { w with notices.enables := BitVec.ofNat 16 v } else w

/-- The covered fields in field order: each is judged as if the earlier ones were written, and written if it passes
(02, R19; 05, R86; 09, R162; log 14). A field is written with its owner's whole effect before the next field is judged
and written (DESIGN CHOICE, log 29: R162 has the owner's rule "then follow", after its own field or after the last).
Answers every failing check, and the work if there is none. -/
def Work.setAll (ref : RecordRef) (vals : List (Nat × Nat)) : List (Nat × Nat) → Work → List Result × Work
  | [], w => ([], w)
  | x :: xs, w =>
    let fails := fieldFails ref vals x.1 x.2 w.toState
    let rest := Work.setAll ref vals xs (if fails.isEmpty then w.writeField ref x.1 x.2 else w)
    (fails ++ rest.1, rest.2)

end Sys2Proof.Machine
end

