-- ==== Sys2Proof/Machine/Port.lean ====
section
/-! DEFINITION. The record port (09): sorting and judging a transfer, what it clocks out, and the port's command rows. -/
namespace Sys2Proof.Machine

/-- Number of fields of a record. -/
def RecordRef.fieldCount (r : RecordRef) : Nat := r.widths.length

/-- Bytes clocked after the header: for LOOK, after the gap byte (09, R164). -/
def Request.lengthOk (r : Request) (window : Option RecordRef) : Bool :=
  let n := r.tail.data.length
  let count := r.tail.count.toNat
  match r.op.toNat with
  | 1 => decide (n = count + 1)
  | 2 =>
    decide (n = count) && count != 0 &&
      (match r.resolve window with
       | .ok ref => decide (ref.fieldCount ≤ r.field.toNat) ||
           (coverFields (ref.widths.drop r.field.toNat) r.field.toNat r.tail.data).isSome
       | .error _ => true)
  | 3 =>
    decide (n = count) &&
      (match r.resolve window with
       | .ok ref => (match verbOf ref r.field.toNat with
         | some v => count == v.argLength
         | none => true)
       | .error _ => true)
  | 4 => decide (n = count) && count == 11
  | 5 => decide (n = count) && count == 0
  | 6 => decide (n = count) && count == 0
  | _ => decide (n = count)

/-- A taken transfer is one rule; a refused one writes nothing (09, R164). -/
def settleTransfer (fails : List Result) (f : Work → Work) (s : State) : Result × State :=
  if fails.isEmpty then (.ok, s.rule f) else (firstFault fails, s)

/-- A LOOK of an existing record (09, R161, R164). -/
def judgeLook (r : Request) (ref : RecordRef) : Result :=
  if ref.fieldCount ≤ r.field.toNat then .noField
  else if ((ref.widths.drop r.field.toNat).foldl (fun a b => a + b) 0) < r.tail.count.toNat then .length
  else .ok

/-- A SET of an existing record (09, R162, R164). -/
def judgeSet (r : Request) (ref : RecordRef) (s : State) : Result × State :=
  if ref.fieldCount ≤ r.field.toNat then (.noField, s)
  else
    let vals := (coverFields (ref.widths.drop r.field.toNat) r.field.toNat r.tail.data).getD []
    let out := Work.setAll ref vals vals s.begin
    if out.1.isEmpty then (.ok, out.2.close s) else (firstFault out.1, s)

/-- An ACT on an existing record (09, R163, R164). -/
def judgeAct (r : Request) (ref : RecordRef) (s : State) : Result × State :=
  match verbOf ref r.field.toNat with
  | none => (.noVerb, s)
  | some v => settleTransfer (verbFails v r.tail.data s) (Work.verbApply v r.tail.data) s

/-- An OPEN (08, R148; 09, R159). -/
def judgeOpen (r : Request) (ref : RecordRef) (s : State) : Result × State :=
  match ref with
  | .hold h => settleTransfer (openFails h r.tail.data s) (Work.openHold h r.tail.data) s
  | _ => (.noVerb, s)

/-- A RETIRE (08, R156; 09, R159). -/
def judgeRetire (ref : RecordRef) (s : State) : Result × State :=
  match ref with
  | .hold h => settleTransfer (retireFails h s) (Work.retireHold h) s
  | _ => (.noVerb, s)

/-- A SELECT; it is not taken on class WINDOW (09, R167). -/
def judgeSelect (r : Request) (ref : RecordRef) (s : State) : Result × State :=
  if r.cls = 9 then (.noVerb, s) else (.ok, { s with port.window := some ref })

/-- The check at deselect and its effect, in the order of R164 (09). -/
def judge (r : Request) (s : State) : Result × State :=
  if r.tail.extra ≠ 0 then (.framing, s)
  else if r.lengthOk s.port.window = false then (.length, s)
  else
    match r.resolve s.port.window with
    | .error e => (e, s)
    | .ok ref =>
      match r.op.toNat with
      | 1 => (judgeLook r ref, s)
      | 2 => judgeSet r ref s
      | 3 => judgeAct r ref s
      | 4 => judgeOpen r ref s
      | 5 => judgeRetire ref s
      | 6 => judgeSelect r ref s
      | _ => (.noVerb, s)

/-- The port records a judged transfer's result; any other than OK raises N1 (09, R165). -/
def State.recordResult (r : Result) (s : State) : State :=
  { s with
    port := s.port.record r,
    notices := if r = .ok then s.notices else s.notices.raise 1 }

/-- Byte `i` the part sends on a transfer with a whole header (09, R158, R161). -/
def requestStream (r : Request) (s : State) (i : Nat) : Byte :=
  if i < 4 then (headerBytes s).getD i 0
  else if r.op.toNat = 1 ∧ 5 ≤ i ∧ i - 5 < r.tail.count.toNat then
    match r.resolve s.port.window with
    | .ok ref => (runFrom ref r.field.toNat s).getD (i - 5) 0
    | .error _ => 0
  else 0

/-- What the host reads on a transfer the part does not serve is not defined: free bytes (09, R169; log 7). -/
def State.unserved (bytes : Nat) (s : State) : State :=
  { s with
    hostOut := (List.range bytes).map (fun i => Config.freeByte (s.freeIndex + i)),
    freeIndex := s.freeIndex + bytes }

/-- A transfer with a whole header: a poll when the operation is NOOP and the bytes are whole, else judged (09, R158,
R164, R165). A transfer the port does not serve has no result and applies nothing (09, R169). -/
def portRequest (r : Request) (s : State) : State :=
  if r.tail.served = false then s.unserved (4 + r.tail.data.length)
  else
    let s1 : State := { s with hostOut := clocked (4 + r.tail.data.length) r.tail.extra (requestStream r s) }
    if r.op = 0 ∧ r.tail.extra = 0 then s1
    else
      let out := judge r s1
      out.2.recordResult out.1

/-- Fewer than four whole bytes: a poll on no bits or one byte, else FRAMING or LENGTH (09, R158). -/
def portShort (bytes : Nat) (extra : Fin 8) (served : Bool) (s : State) : State :=
  if served = false then s.unserved bytes
  else
    let s1 : State := { s with hostOut := clocked bytes extra (fun i => (headerBytes s).getD i 0) }
    if extra ≠ 0 then s1.recordResult .framing
    else if bytes ≤ 1 then s1
    else s1.recordResult .length

/-- Any bits on the port (09, R158; 11, R178). -/
def portBits (t : Transfer) (s : State) : State :=
  match t.bytes with
  | b0 :: b1 :: b2 :: b3 :: data =>
    portRequest { op := b0.extractLsb' 4 4, cls := b0.extractLsb' 0 4, num := b1, field := b2,
                  tail := { count := b3, data := data, extra := t.extra, served := t.served } } s
  | short => portShort short.length t.extra t.served s

/-! ### The rows of the port -/

/-- NOOP: a poll (09, R158). -/
def execNoop (poll : Poll) (s : State) : Host.Outcome State Fault Refusal :=
  .next (match poll with
    | .silent served => portShort 0 0 served s
    | .oneByte _ served => portShort 1 0 served s
    | .header cls num field tail => portRequest { op := 0, cls := cls, num := num, field := field, tail := tail } s)

/-- LOOK (09, R161). -/
def execLook (cls : BitVec 4) (num field : Byte) (tail : Tail) (s : State) : Host.Outcome State Fault Refusal :=
  .next (portRequest { op := 1, cls := cls, num := num, field := field, tail := tail } s)

/-- SET of fields in general (09, R162). -/
def execSetFields (cls : BitVec 4) (num field : Byte) (tail : Tail) (s : State) : Host.Outcome State Fault Refusal :=
  .next (portRequest { op := 2, cls := cls, num := num, field := field, tail := tail } s)

/-- SET from the clock field on (01, R2). -/
def execClockWrite (a : Addr) (tail : Tail) (s : State) : Host.Outcome State Fault Refusal :=
  .next (portRequest (addrRequest a 2 0 0 tail) s)

/-- SET of the power allowance (03, R64). -/
def execPowerAllowanceWrite (a : Addr) (tail : Tail) (s : State) : Host.Outcome State Fault Refusal :=
  .next (portRequest (addrRequest a 2 0 6 tail) s)

/-- SET from the switch margin on (02, R35). -/
def execSwitchMarginWrite (a : Addr) (tail : Tail) (s : State) : Host.Outcome State Fault Refusal :=
  .next (portRequest (addrRequest a 2 0 8 tail) s)

/-- SET from a bank's tier on (02, R20). -/
def execTierWrite (a : Addr) (tail : Tail) (s : State) : Host.Outcome State Fault Refusal :=
  .next (portRequest (addrRequest a 2 1 0 tail) s)

/-- SET from a bank's rated pressure on (02, R21). -/
def execRatedPressureWrite (a : Addr) (tail : Tail) (s : State) : Host.Outcome State Fault Refusal :=
  .next (portRequest (addrRequest a 2 1 1 tail) s)

/-- SET from a bank's low or high mark on (02, R22). -/
def execMarkWrite (a : Addr) (mark : MarkField) (tail : Tail) (s : State) : Host.Outcome State Fault Refusal :=
  .next (portRequest (addrRequest a 2 1 (match mark with | .low => 2 | .high => 3) tail) s)

/-- SET of a bank's refill priority (03, R47). -/
def execRefillPriorityWrite (a : Addr) (tail : Tail) (s : State) : Host.Outcome State Fault Refusal :=
  .next (portRequest (addrRequest a 2 1 9 tail) s)

/-- SET from a loop's capacity on (04, R68). -/
def execCapacityWrite (a : Addr) (tail : Tail) (s : State) : Host.Outcome State Fault Refusal :=
  .next (portRequest (addrRequest a 2 3 2 tail) s)

/-- SET from a position's class on (05, R87). -/
def execClassWrite (a : Addr) (tail : Tail) (s : State) : Host.Outcome State Fault Refusal :=
  .next (portRequest (addrRequest a 2 4 0 tail) s)

/-- SET of a position's rate limit (06, R112). -/
def execRateLimitWrite (a : Addr) (tail : Tail) (s : State) : Host.Outcome State Fault Refusal :=
  .next (portRequest (addrRequest a 2 4 12 tail) s)

/-- SET of a position's stray mass (08, R139). -/
def execStrayMassClear (a : Addr) (tail : Tail) (s : State) : Host.Outcome State Fault Refusal :=
  .next (portRequest (addrRequest a 2 4 36 tail) s)

/-- SET of the error count (09, R166). -/
def execErrorCountClear (a : Addr) (tail : Tail) (s : State) : Host.Outcome State Fault Refusal :=
  .next (portRequest (addrRequest a 2 0 21 tail) s)

/-- SET of the notice enables (10, R172). -/
def execEnablesWrite (a : Addr) (tail : Tail) (s : State) : Host.Outcome State Fault Refusal :=
  .next (portRequest (addrRequest a 2 8 1 tail) s)

/-- START (10, R176). -/
def execStart (a : Addr) (tail : Tail) (s : State) : Host.Outcome State Fault Refusal :=
  .next (portRequest (addrRequest a 3 0 0 tail) s)

/-- SETUP (10, R177). -/
def execSetup (a : Addr) (tail : Tail) (s : State) : Host.Outcome State Fault Refusal :=
  .next (portRequest (addrRequest a 3 0 1 tail) s)

/-- RESUME (01, R17). -/
def execResume (a : Addr) (tail : Tail) (s : State) : Host.Outcome State Fault Refusal :=
  .next (portRequest (addrRequest a 3 0 2 tail) s)

/-- CLEAR (01, R18). -/
def execClear (a : Addr) (tail : Tail) (s : State) : Host.Outcome State Fault Refusal :=
  .next (portRequest (addrRequest a 3 0 3 tail) s)

/-- ISOLATE (02, R29). -/
def execIsolate (a : Addr) (tail : Tail) (s : State) : Host.Outcome State Fault Refusal :=
  .next (portRequest (addrRequest a 3 1 0 tail) s)

/-- RESTORE (02, R30). -/
def execRestore (a : Addr) (tail : Tail) (s : State) : Host.Outcome State Fault Refusal :=
  .next (portRequest (addrRequest a 3 1 1 tail) s)

/-- REFILL (03, R46). -/
def execRefill (a : Addr) (tail : Tail) (s : State) : Host.Outcome State Fault Refusal :=
  .next (portRequest (addrRequest a 3 1 2 tail) s)

/-- CANCEL_REFILL (03, R46). -/
def execCancelRefill (a : Addr) (tail : Tail) (s : State) : Host.Outcome State Fault Refusal :=
  .next (portRequest (addrRequest a 3 1 3 tail) s)

/-- WITHHOLD (03, R59). -/
def execWithhold (a : Addr) (tail : Tail) (s : State) : Host.Outcome State Fault Refusal :=
  .next (portRequest (addrRequest a 3 2 0 tail) s)

/-- RELEASE (03, R59). -/
def execRelease (a : Addr) (tail : Tail) (s : State) : Host.Outcome State Fault Refusal :=
  .next (portRequest (addrRequest a 3 2 1 tail) s)

/-- CLEAR_FAULT (03, R58). -/
def execClearFault (a : Addr) (tail : Tail) (s : State) : Host.Outcome State Fault Refusal :=
  .next (portRequest (addrRequest a 3 2 2 tail) s)

/-- AUTHORISE (05, R91). -/
def execAuthorise (a : Addr) (tail : Tail) (s : State) : Host.Outcome State Fault Refusal :=
  .next (portRequest (addrRequest a 3 4 0 tail) s)

/-- STOP (05, R103). -/
def execStop (a : Addr) (tail : Tail) (s : State) : Host.Outcome State Fault Refusal :=
  .next (portRequest (addrRequest a 3 4 1 tail) s)

/-- PAUSE (05, R100). -/
def execPause (a : Addr) (tail : Tail) (s : State) : Host.Outcome State Fault Refusal :=
  .next (portRequest (addrRequest a 3 4 2 tail) s)

/-- CONTINUE (05, R100). -/
def execContinue (a : Addr) (tail : Tail) (s : State) : Host.Outcome State Fault Refusal :=
  .next (portRequest (addrRequest a 3 4 3 tail) s)

/-- ACK (10, R173). -/
def execAck (a : Addr) (tail : Tail) (s : State) : Host.Outcome State Fault Refusal :=
  .next (portRequest (addrRequest a 3 8 0 tail) s)

/-- OPEN; the field byte is ignored (08, R148). -/
def execOpen (a : Addr) (tail : Tail) (s : State) : Host.Outcome State Fault Refusal :=
  .next (portRequest (addrRequest a 4 5 0 tail) s)

/-- RETIRE; the field byte is ignored (08, R156). -/
def execRetire (a : Addr) (tail : Tail) (s : State) : Host.Outcome State Fault Refusal :=
  .next (portRequest (addrRequest a 5 5 0 tail) s)

/-- SELECT (09, R167). -/
def execSelect (cls : BitVec 4) (num field : Byte) (tail : Tail) (s : State) : Host.Outcome State Fault Refusal :=
  .next (portRequest { op := 6, cls := cls, num := num, field := field, tail := tail } s)

/-- FAILED_TRANSFER: bits that name no operation the part takes (09, R158, R164). -/
def execFailedTransfer (t : Transfer) (s : State) : Host.Outcome State Fault Refusal :=
  .next (portBits t s)

end Sys2Proof.Machine
end

