-- ==== Sys2Proof/Machine/Dispatch.lean ====
section
/-! DEFINITION. exec: one arm per command, each one call of its meaning. -/
namespace Sys2Proof.Machine

/-- The effect of a command on everything but the queue. -/
def exec (i : Instr) (s : State) : Host.Outcome State Fault Refusal :=
  match i with
  | .sampleFrame bytes => Sys2Proof.Machine.execSampleFrame bytes s
  | .silenceTimerExpiry c => Sys2Proof.Machine.execSilenceTimerExpiry c s
  | .routeFrameComplete => Sys2Proof.Machine.execRouteFrameComplete s
  | .coupledArrival p => Sys2Proof.Machine.execCoupledArrival p s
  | .uncoupledArrival p => Sys2Proof.Machine.execUncoupledArrival p s
  | .seatedArrival p => Sys2Proof.Machine.execSeatedArrival p s
  | .liftArrival p => Sys2Proof.Machine.execLiftArrival p s
  | .meterPulse p moment => Sys2Proof.Machine.execMeterPulse p moment s
  | .vehicleFrame p bytes => Sys2Proof.Machine.execVehicleFrame p bytes s
  | .faultActive k => Sys2Proof.Machine.execFaultActive k s
  | .faultInactive k => Sys2Proof.Machine.execFaultInactive k s
  | .esdAsserted => Sys2Proof.Machine.execEsdAsserted s
  | .esdReleased => Sys2Proof.Machine.execEsdReleased s
  | .masterReset straps => Sys2Proof.Machine.execMasterReset straps s
  | .clockSecond => Sys2Proof.Machine.execClockSecond s
  | .leakWindowExpiry b => Sys2Proof.Machine.execLeakWindowExpiry b s
  | .yieldWaitExpiry p => Sys2Proof.Machine.execYieldWaitExpiry p s
  | .startTimerExpiry k => Sys2Proof.Machine.execStartTimerExpiry k s
  | .unloadTimerExpiry k => Sys2Proof.Machine.execUnloadTimerExpiry k s
  | .precoolTick l => Sys2Proof.Machine.execPrecoolTick l s
  | .rampTick p => Sys2Proof.Machine.execRampTick p s
  | .connectTimeout p => Sys2Proof.Machine.execConnectTimeout p s
  | .coolingTimeout p => Sys2Proof.Machine.execCoolingTimeout p s
  | .bankWaitTimeout p => Sys2Proof.Machine.execBankWaitTimeout p s
  | .pulseTimerExpiry p => Sys2Proof.Machine.execPulseTimerExpiry p s
  | .checkWindowExpiry p => Sys2Proof.Machine.execCheckWindowExpiry p s
  | .heldTimerExpiry p => Sys2Proof.Machine.execHeldTimerExpiry p s
  | .ventTimerExpiry p => Sys2Proof.Machine.execVentTimerExpiry p s
  | .freshnessExpiry p => Sys2Proof.Machine.execFreshnessExpiry p s
  | .deferralExpiry p => Sys2Proof.Machine.execDeferralExpiry p s
  | .stallTimerExpiry p => Sys2Proof.Machine.execStallTimerExpiry p s
  | .summaryTransfer bytes extra served => Sys2Proof.Machine.execSummaryTransfer bytes extra served s
  | .noop poll => Sys2Proof.Machine.execNoop poll s
  | .look cls num field tail => Sys2Proof.Machine.execLook cls num field tail s
  | .setFields cls num field tail => Sys2Proof.Machine.execSetFields cls num field tail s
  | .clockWrite a tail => Sys2Proof.Machine.execClockWrite a tail s
  | .powerAllowanceWrite a tail => Sys2Proof.Machine.execPowerAllowanceWrite a tail s
  | .switchMarginWrite a tail => Sys2Proof.Machine.execSwitchMarginWrite a tail s
  | .tierWrite a tail => Sys2Proof.Machine.execTierWrite a tail s
  | .ratedPressureWrite a tail => Sys2Proof.Machine.execRatedPressureWrite a tail s
  | .markWrite a mark tail => Sys2Proof.Machine.execMarkWrite a mark tail s
  | .refillPriorityWrite a tail => Sys2Proof.Machine.execRefillPriorityWrite a tail s
  | .capacityWrite a tail => Sys2Proof.Machine.execCapacityWrite a tail s
  | .classWrite a tail => Sys2Proof.Machine.execClassWrite a tail s
  | .rateLimitWrite a tail => Sys2Proof.Machine.execRateLimitWrite a tail s
  | .strayMassClear a tail => Sys2Proof.Machine.execStrayMassClear a tail s
  | .errorCountClear a tail => Sys2Proof.Machine.execErrorCountClear a tail s
  | .enablesWrite a tail => Sys2Proof.Machine.execEnablesWrite a tail s
  | .start a tail => Sys2Proof.Machine.execStart a tail s
  | .setup a tail => Sys2Proof.Machine.execSetup a tail s
  | .resume a tail => Sys2Proof.Machine.execResume a tail s
  | .clear a tail => Sys2Proof.Machine.execClear a tail s
  | .isolate a tail => Sys2Proof.Machine.execIsolate a tail s
  | .restore a tail => Sys2Proof.Machine.execRestore a tail s
  | .refill a tail => Sys2Proof.Machine.execRefill a tail s
  | .cancelRefill a tail => Sys2Proof.Machine.execCancelRefill a tail s
  | .withhold a tail => Sys2Proof.Machine.execWithhold a tail s
  | .release a tail => Sys2Proof.Machine.execRelease a tail s
  | .clearFault a tail => Sys2Proof.Machine.execClearFault a tail s
  | .authorise a tail => Sys2Proof.Machine.execAuthorise a tail s
  | .stop a tail => Sys2Proof.Machine.execStop a tail s
  | .pause a tail => Sys2Proof.Machine.execPause a tail s
  | .continue_ a tail => Sys2Proof.Machine.execContinue a tail s
  | .ack a tail => Sys2Proof.Machine.execAck a tail s
  | .open_ a tail => Sys2Proof.Machine.execOpen a tail s
  | .retire a tail => Sys2Proof.Machine.execRetire a tail s
  | .select cls num field tail => Sys2Proof.Machine.execSelect cls num field tail s
  | .failedTransfer t => Sys2Proof.Machine.execFailedTransfer t s

end Sys2Proof.Machine
end

