-- ==== Sys2Proof/Safety.lean ====
section
/-! DEFINITION. Laws of the device that claims speak of, each a property of one state, and the words the claims are stated
in: a transfer that names a record, what a taken or refused transfer leaves, the end of a fill. -/
namespace Sys2Proof

/-- A transfer the port serves, of whole bytes, whose count and data bytes number `n`. -/
def Tail.Whole (t : Tail) (n : Nat) : Prop :=
  t.served = true ∧ t.extra = 0 ∧ t.count.toNat = n ∧ t.data.length = n

/-- The record a row's transfer names: the window's record, or the record of the row's class with this number. -/
def Addr.Names (a : Addr) (ref : Machine.RecordRef) (window : Option Machine.RecordRef) : Prop :=
  if a.window = true then window = some ref else a.num.toNat = ref.codes.2

end Sys2Proof

namespace Sys2Proof.Machine

/-! ### Laws of one state -/

/-- A compressor holds a bank exactly while STARTING or RUNNING, its start timer runs exactly while STARTING and its
unload timer exactly while UNLOADING (03, R41). -/
def Compressor.RowHolds (k : Compressor) : Prop :=
  (k.bank.isSome = k.active) ∧ (k.startTimer.isSome = (k.state == .starting)) ∧
    (k.unloadTimer.isSome = (k.state == .unloading))

/-- Every compressor stands in one row of the table of R41 (03). -/
def State.CompRows (s : State) : Prop := ∀ k : CompId, (s.comp k).RowHolds

/-- A chiller is in the waiting order exactly while it is WAITING_POWER, and at most once (04, R71). -/
def State.WaitingOrder (s : State) : Prop :=
  s.powerQueue.Nodup ∧ ∀ l : LoopId, l ∈ s.powerQueue ↔ (s.loop l).chiller = .waitingPower

/-- A bank's claimant is present exactly while SERVING (a position) or REFILLING (a compressor), its isolation reason
exactly while ISOLATED, its leak reference at most while READY, and its leak timer exactly while READY (02, R19, R27). -/
def Bank.RowHolds (b : Bank) : Prop :=
  ((∃ p, b.claimant = some (.pos p)) ↔ b.state = .serving) ∧
  ((∃ k, b.claimant = some (.comp k)) ↔ b.state = .refilling) ∧
  (b.isolation.isSome = true ↔ b.state = .isolated) ∧
  (b.leakRef.isSome = true → b.state = .ready) ∧
  (b.leakTimer.isSome = true ↔ b.state = .ready)

/-- Every bank stands in its row. -/
def State.BankRows (s : State) : Prop := ∀ b : BankId, (s.bank b).RowHolds

/-- The refill queue holds each bank at most once and only banks that are READY or SERVING, highest priority first
(03, R43). -/
def State.QueueLaw (s : State) : Prop :=
  (s.refillQueue.map QueueEntry.bank).Nodup ∧
  (∀ e ∈ s.refillQueue, (s.bank e.bank).state = .ready ∨ (s.bank e.bank).state = .serving) ∧
  s.refillQueue.Pairwise (fun x y => (s.bank y.bank).priority ≤ (s.bank x.bank).priority)

/-- A channel's silence timer runs exactly while the channel is GOOD (01, R8). -/
def State.SilenceRuns (s : State) : Prop :=
  ∀ c : Channel, (s.link.chan c).silence.isSome = true ↔ (s.link.chan c).quality = .good

/-- The first error code is present exactly while the error count is above 0, and the count stays within a byte
(09, R165, R166). -/
def State.ErrorsAgree (s : State) : Prop :=
  (s.port.firstError.isSome = true ↔ 0 < s.port.errorCount) ∧ s.port.errorCount ≤ 255

/-- A waiting route frame is there only while another is being sent (01, R10). -/
def State.FramesInOrder (s : State) : Prop := s.link.waiting.isSome = true → s.link.sending.isSome = true

/-- Granted power does not exceed the power allowance (03, R62). -/
def State.PowerFits (s : State) : Prop := s.granted ≤ s.station.allowance

/-- In SETUP no compressor runs, no chiller runs or waits for power, and no precool tick comes (10, R175). -/
def State.SetupQuiet (s : State) : Prop :=
  s.station.phase = .setup →
    (∀ k : CompId, (s.comp k).active = false) ∧ (∀ l : LoopId, (s.loop l).chiller = .off ∧ (s.loop l).tick = none) ∧
      s.powerQueue = []

/-- A loop's reserve lies within its capacity, its loss count within 10, it grants at most two positions, and no position
is both in its grant set and in its wait queue, or twice in either (04, R67, R78). -/
def State.LoopsInRange (s : State) : Prop :=
  ∀ l : LoopId, (s.loop l).reserve ≤ (s.loop l).capacity ∧ (s.loop l).loss ≤ 10 ∧ (s.loop l).grants.length ≤ 2 ∧
    ((s.loop l).grants ++ (s.loop l).queue).Nodup

/-- A grant holder is live and attached to the loop, a position in a wait queue COOLING and attached, and in SETUP every
session is IDLE (04, R69, R78, R81; 10, R175). A position names one loop, so none is in the grants or queues of both. -/
def State.HoldersAttached (s : State) : Prop :=
  (∀ l : LoopId, ∀ p ∈ (s.loop l).grants, (s.pos p).cfg.loop = some l ∧ (s.pos p).ses.state.live = true) ∧
  (∀ l : LoopId, ∀ p ∈ (s.loop l).queue, (s.pos p).cfg.loop = some l ∧ (s.pos p).ses.state = .cooling) ∧
  (s.station.phase = .setup → ∀ p : PosId, (s.pos p).ses.state = .idle)

/-- The states of a session with a bound hold, AUTHORISED through VENTING (05, R88). -/
def SessionState.charged : SessionState → Bool
  | .authorised | .cooling | .pulsing | .checking | .fuelling | .held | .venting => true
  | .idle | .done => false

/-- A position names a bound hold exactly in AUTHORISED through VENTING; a hold is BOUND exactly when a position names it,
and no two positions name one hold (08, R149). -/
def State.HoldsAgree (s : State) : Prop :=
  (∀ p : PosId, (s.pos p).ses.boundHold.isSome = (s.pos p).ses.state.charged) ∧
  (∀ (p q : PosId) (h : HoldId), (s.pos p).ses.boundHold = some h → (s.pos q).ses.boundHold = some h → p = q) ∧
  (∀ h : HoldId, (s.hold h).state = .bound ↔ ∃ p : PosId, (s.pos p).ses.boundHold = some h)

/-- A BOUND or SETTLED hold has a mass ceiling, and its sold mass does not exceed it (08, R142). -/
def State.SoldWithinCeiling (s : State) : Prop :=
  ∀ h : HoldId, (s.hold h).state = .bound ∨ (s.hold h).state = .settled →
    ∃ c, (s.hold h).massCeiling = some c ∧ (s.hold h).sold ≤ c

/-- The session of a position names the bank as current or staged. -/
def Session.names (x : Session) (b : BankId) : Prop := x.current = some b ∨ x.staged = some b

/-- A session names at most one bank, and only in PULSING or FUELLING, a staged one only in FUELLING; the pulse timer runs
only with a bank in PULSING; a position on the bank wait list is in PULSING with no bank, or in HELD with cause NO_BANK
(05, R88, R89; 02, R34). -/
def Position.NamesOne (p : Position) (waits : Bool) : Prop :=
  (p.ses.current.isSome = true → p.ses.state = .pulsing ∨ p.ses.state = .fuelling) ∧
  (p.ses.staged.isSome = true → p.ses.state = .fuelling ∧ p.ses.current = none) ∧
  (p.tmr.pulse.isSome = true → p.ses.state = .pulsing ∧ p.ses.current.isSome = true) ∧
  (waits = true → (p.ses.state = .pulsing ∧ p.ses.current = none) ∨ (p.ses.state = .held ∧ p.ses.causes.noBank = true))

/-- Every position names at most one bank, where it may name one. -/
def State.BankNaming (s : State) : Prop := ∀ p : PosId, (s.pos p).NamesOne (s.waits p)

/-- Claims agree on both sides: the claimant of a bank is the one party that names it (02, R31; 05, R88), and in SETUP
every session is IDLE (10, R175). -/
def State.ClaimsAgree (s : State) : Prop :=
  (∀ (b : BankId) (p : PosId), (s.bank b).claimant = some (.pos p) ↔ (s.pos p).ses.names b) ∧
  (∀ (b : BankId) (k : CompId), (s.bank b).claimant = some (.comp k) ↔ (s.comp k).bank = some b) ∧
  (∀ (p : PosId) (b : BankId), (s.pos p).ses.supply = some b → (s.pos p).ses.current = some b) ∧
  (s.station.phase = .setup → ∀ p : PosId, (s.pos p).ses.state = .idle)

/-! ### Words of the claims -/

/-- What the host reads on a served transfer with a whole header. -/
def State.reads (s : State) (r : Request) : List Byte :=
  clocked (4 + r.tail.data.length) r.tail.extra (requestStream r s)

/-- `s` with the answer of a transfer on the port's lines and OK as last result. -/
def State.answered (s : State) (r : Request) : State :=
  { s with hostOut := s.reads r, port.lastResult := .ok }

/-- `s` after a transfer refused with `x`: nothing is written but the port's own fields and N1 (09, R164, R165). -/
def State.refusedWith (s : State) (r : Request) (x : Result) : State :=
  { s with
    hostOut := s.reads r,
    port := { s.port with
      lastResult := x, errorCount := min 255 (s.port.errorCount + 1),
      firstError := if s.port.errorCount = 0 then some x else s.port.firstError },
    notices := s.notices.raise 1 }

/-- A transfer was taken: its result is OK and the rest of the port's own fields stands. -/
def State.Taken (s t : State) (r : Request) : Prop :=
  t.port = { s.port with lastResult := .ok } ∧ t.hostOut = s.reads r

/-- Request `i` is set. -/
def State.requested (s : State) (i : Nat) : Prop := s.notices.requests.getLsbD i = true

/-- Configuration that no event changes: holds aside, what the host writes and what the straps give. -/
def State.SameSettings (s t : State) : Prop :=
  t.plans = s.plans ∧ t.rampTable = s.rampTable ∧ t.targetTable = s.targetTable ∧ t.fullTable = s.fullTable ∧
  t.notices.enables = s.notices.enables ∧ (∀ p, (t.pos p).cfg = (s.pos p).cfg) ∧
  (∀ b, (t.bank b).tier = (s.bank b).tier ∧ (t.bank b).rated = (s.bank b).rated ∧ (t.bank b).low = (s.bank b).low ∧
    (t.bank b).high = (s.bank b).high ∧ (t.bank b).priority = (s.bank b).priority) ∧
  (∀ k, (t.comp k).reach = (s.comp k).reach ∧ (t.comp k).draw = (s.comp k).draw ∧
    (t.comp k).startTime = (s.comp k).startTime ∧ (t.comp k).unloadTime = (s.comp k).unloadTime ∧
    (t.comp k).withheld = (s.comp k).withheld) ∧
  (∀ l, (t.loop l).draw = (s.loop l).draw ∧ (t.loop l).capacity = (s.loop l).capacity ∧
    (t.loop l).floor = (s.loop l).floor ∧ (t.loop l).recharge = (s.loop l).recharge ∧
    (t.loop l).consumption = (s.loop l).consumption)

/-- The fill of position `p` has ended in `t` with reason `r`, from `s` (05, R101). -/
def State.FillEnded (s t : State) (p : PosId) (r : EndReason) : Prop :=
  (t.pos p).ses.state = .venting ∧ (t.pos p).ses.endReason = some r ∧ (t.pos p).ses.endStamp = some s.station.clock ∧
  (t.pos p).ses.current = none ∧ (t.pos p).ses.staged = none ∧ (t.pos p).ses.supply = none ∧
  (t.pos p).ses.control = .closed ∧ (t.pos p).ses.vent = .opened ∧
  (t.pos p).tmr = { PosTimers.stopped with vent := some ((s.pos p).cfg.ventTime * 1000) } ∧
  (t.pos p).ses.boundHold = (s.pos p).ses.boundHold ∧ t.waits p = false

/-- The owner's field of a channel's quantity, absent while the channel is BAD (01, R9). -/
def State.reading (s : State) : Channel → Option Int
  | .bankP b => (s.bank b).pressure.map Int.ofNat
  | .bankT b => (s.bank b).temperature
  | .hoseP p => (s.pos p).ses.hose.map Int.ofNat
  | .suctionP => s.station.suction.map Int.ofNat
  | .ambientT => s.station.ambient
  | .loopT l => (s.loop l).outlet

/-- Plausible bounds of a channel's kind (01, R7). -/
def channelBounds : Channel → Int × Int
  | .bankP _ => (0, 11000)
  | .bankT _ => (-400, 1200)
  | .hoseP _ => (0, 10000)
  | .suctionP => (0, 5000)
  | .ambientT => (-500, 650)
  | .loopT _ => (-600, 600)

end Sys2Proof.Machine
end

