-- ==== Sys2Proof/WellFormed.lean ====
section
/-! DEFINITION. Which commands are well formed: the checks the operand types do not make (the numbers of records are
Fin, bytes are BitVec 8). A command outside them is still executed; it is a second spelling of another row. -/
namespace Sys2Proof

/-- The starting fields whose SET has a row of its own, by class code and field number (11, R180). -/
def ownSetRow : List (Nat × Nat) :=
  [(0, 0), (0, 6), (0, 8), (0, 21), (1, 0), (1, 1), (1, 2), (1, 3), (1, 9), (3, 2), (4, 0), (4, 12), (4, 36), (8, 1)]

/-- The class and verb codes of the ACT transfers that have a row of their own (11, R178). -/
def ownActRow : List (Nat × Nat) :=
  [(0, 0), (0, 1), (0, 2), (0, 3), (1, 0), (1, 1), (1, 2), (1, 3), (2, 0), (2, 1), (2, 2), (4, 0), (4, 1), (4, 2),
   (4, 3), (8, 0)]

/-- Bits that no other row spells: a partial first byte, a header cut short, an operation code of 7 to 15 (09, R158,
R164; 11, R178), or a whole header whose ACT names a verb, or whose OPEN or RETIRE a class, that no row has. -/
def Transfer.isFailed (t : Transfer) : Bool :=
  match t.bytes with
  | [] => t.extra.val != 0
  | [_] => t.extra.val != 0
  | [_, _] => true
  | [_, _, _] => true
  | b0 :: _ :: b2 :: _ :: _ =>
    let op := b0.toNat / 16
    let cls := b0.toNat % 16
    7 ≤ op || (op == 3 && cls != 9 && !ownActRow.contains (cls, b2.toNat))
      || ((op == 4 || op == 5) && cls != 5 && cls != 9)

/-- A SET_FIELDS transfer does not start at a field whose SET has a row of its own. -/
def setRowFree (cls : BitVec 4) (field : Byte) : Bool :=
  !ownSetRow.contains (cls.toNat, field.toNat)

/-- The summary stream is clocked from its assertion on: a transfer the part did not serve has no summary bytes of its
own (09, R169), so its byte count is 0. -/
def summaryServed (bytes : Nat) (served : Bool) : Bool := served || bytes == 0

/-- The well-formedness check, constructor by constructor. -/
def Instr.wellFormed (i : Instr) : Bool :=
  match i with
  | .setFields cls _ field _ => setRowFree cls field
  | .failedTransfer t => t.isFailed
  | .summaryTransfer n _ served => summaryServed n served
  | .sampleFrame _ | .silenceTimerExpiry _ | .routeFrameComplete | .coupledArrival _ | .uncoupledArrival _
  | .seatedArrival _ | .liftArrival _ | .meterPulse _ _ | .vehicleFrame _ _ | .faultActive _ | .faultInactive _
  | .esdAsserted | .esdReleased | .masterReset _ | .clockSecond | .leakWindowExpiry _ | .yieldWaitExpiry _
  | .startTimerExpiry _ | .unloadTimerExpiry _ | .precoolTick _ | .rampTick _ | .connectTimeout _
  | .coolingTimeout _ | .bankWaitTimeout _ | .pulseTimerExpiry _ | .checkWindowExpiry _ | .heldTimerExpiry _
  | .ventTimerExpiry _ | .freshnessExpiry _ | .deferralExpiry _ | .stallTimerExpiry _
  | .noop _ | .look _ _ _ _ | .clockWrite _ _ | .powerAllowanceWrite _ _ | .switchMarginWrite _ _ | .tierWrite _ _
  | .ratedPressureWrite _ _ | .markWrite _ _ _ | .refillPriorityWrite _ _ | .capacityWrite _ _ | .classWrite _ _
  | .rateLimitWrite _ _ | .strayMassClear _ _ | .errorCountClear _ _ | .enablesWrite _ _ | .start _ _ | .setup _ _
  | .resume _ _ | .clear _ _ | .isolate _ _ | .restore _ _ | .refill _ _ | .cancelRefill _ _ | .withhold _ _
  | .release _ _ | .clearFault _ _ | .authorise _ _ | .stop _ _ | .pause _ _ | .continue_ _ _ | .ack _ _
  | .open_ _ _ | .retire _ _ | .select _ _ _ _ => true

end Sys2Proof
end

