-- ==== Sys2Proof/Certificates/Slice0/Obligations.lean ====
section
/-! DEFINITION. The statements for the provers. -/
open Sys2Proof Sys2Proof.Machine

/-! ### Words that several statements share -/

/-- The station conditions under which a scheduling evaluation does something (R49). -/
def Evaluates (s : State) : Prop :=
  s.station.phase = .service ∧ s.station.halt = .running ∧ s.suction = .sufficient

/-- A compressor eligible to take a bank of a tier (R50). -/
def CanTake (s : State) (k : CompId) (tier : Tier) : Prop :=
  (s.comp k).state = .stopped ∧ (s.comp k).withheld = false ∧ tier.rank ≤ (s.comp k).reach.rank ∧
  (s.comp k).draw ≤ s.station.allowance - s.granted

/-- The refill queue with an entry placed at the back of its priority class (R43). -/
def QueuedAtBack (s : State) (e : QueueEntry) : List QueueEntry :=
  s.refillQueue.filter (fun x =>
    x.bank != e.bank && decide ((s.bank e.bank).priority ≤ (s.bank x.bank).priority)) ++ [e] ++
  s.refillQueue.filter (fun x =>
    x.bank != e.bank && decide ((s.bank x.bank).priority < (s.bank e.bank).priority))

/-- The refill queue with an entry placed at the front of its priority class (R43). -/
def QueuedAtFront (s : State) (e : QueueEntry) : List QueueEntry :=
  s.refillQueue.filter (fun x =>
    x.bank != e.bank && decide ((s.bank e.bank).priority < (s.bank x.bank).priority)) ++ [e] ++
  s.refillQueue.filter (fun x =>
    x.bank != e.bank && decide ((s.bank x.bank).priority ≤ (s.bank e.bank).priority))

/-- `t` is `s` with one scheduling evaluation made, its route frame left open (O6; O18 says what an evaluation does).
So, where the station evaluates and the first entry of the queue names a READY bank below its high mark that exactly
one compressor can take, that compressor is STARTING on it (R49 to R51). -/
def EvaluationMade (s t : State) : Prop :=
  t = { s.begin.evaluate.toState with link := t.link } ∧
  ∀ (e : QueueEntry) (rest : List QueueEntry) (v : Nat) (k : CompId), Evaluates s → s.refillQueue = e :: rest →
    (s.bank e.bank).state = .ready → (s.bank e.bank).pressure = some v → v < (s.bank e.bank).high →
    CanTake s k (s.bank e.bank).tier → (∀ j : CompId, CanTake s j (s.bank e.bank).tier → j = k) →
    t.comp k = { s.comp k with
      state := .starting, bank := some e.bank, startStamp := some s.station.clock,
      startTimer := some ((s.comp k).startTime * 1000) } ∧
    (t.bank e.bank).state = .refilling ∧ (t.bank e.bank).claimant = some (.comp k) ∧ t.queued e.bank = false

/-- The order of waiting chillers served once from its front: each whose draw fits the allowance is granted it (R63).
-/
def ServedOrder (s : State) : State :=
  s.powerQueue.foldl
    (fun x l =>
      if x.granted + (x.loop l).draw ≤ x.station.allowance then
        { x with
          powerQueue := x.powerQueue.filter (fun m => m != l),
          loops := x.loops.set l { x.loop l with chiller := .running } }
      else x)
    s

/-- An entry of the wait list is eligible for a bank: its tiers hold the bank's, the pressure meets its need (R37). -/
def EligibleFor (s : State) (b : BankId) (e : WaitEntry) : Prop :=
  (s.bank b).tier ∈ e.tiers ∧ ∃ v : Nat, (s.bank b).pressure = some v ∧ e.need ≤ v

/-- A compressor that unloads: no bank, no start timer, the unload timer at its length (R55). -/
def Unloading (k : Compressor) : Compressor :=
  { k with state := .unloading, bank := none, startTimer := none, unloadTimer := some (k.unloadTime * 1000) }

/-- A suction loss: SHORT; each STARTING or RUNNING compressor is UNLOADING, its bank given back with counts kept,
K0's first; with no position waiting each such bank is READY at the front of its priority class (R45, R55). -/
def SuctionLost (s t : State) : Prop :=
  t.suction = .short ∧
  (∀ k : CompId,
    ((s.comp k).active = true → t.comp k = Unloading (s.comp k)) ∧
    ((s.comp k).active = false → t.comp k = s.comp k)) ∧
  (∀ (k : CompId) (b : BankId), (s.comp k).active = true → (s.comp k).bank = some b →
    (s.bank b).claimant = some (.comp k) → (s.bank b).state = .refilling →
    (t.bank b).claimant ≠ some (.comp k) ∧ (t.bank b).yields = (s.bank b).yields ∧
    (s.waitList = [] → (t.bank b).state = .ready ∧ t.queued b = true) ∧
    (s.waitList = [] → s.QueueLaw → (∀ j : CompId, j ≠ k → (s.comp j).active = false) →
      t.refillQueue = QueuedAtFront s { bank := b, stamp := s.station.clock })) ∧
  (∀ b c : BankId, s.waitList = [] → s.QueueLaw → (s.comp 0).active = true → (s.comp 1).active = true →
    (s.comp 0).bank = some b → (s.comp 1).bank = some c → (s.bank b).claimant = some (.comp 0) →
    (s.bank c).claimant = some (.comp 1) → (s.bank b).state = .refilling → (s.bank c).state = .refilling →
    t.refillQueue =
      QueuedAtFront { s with refillQueue := QueuedAtFront s { bank := b, stamp := s.station.clock } }
        { bank := c, stamp := s.station.clock })

/-! ### The machine, master reset -/

/-- O1. A step takes the command at the front of the queue and runs its meaning on the state with the queue's rest. -/
def Obligations.StepRunsTheFrontCommand : Prop :=
  ∀ (c : Instr) (rest : List Instr) (s : State),
    step { s with pending := c :: rest } = exec c { s with pending := rest }

/-- O2. No command stops the machine, and none touches the queue of those that wait (the queue is the model's, log 1).
With nothing in the queue the block idles (the model's choice, log 3). -/
def Obligations.EveryCommandAnswersANextState : Prop :=
  (∀ (c : Instr) (s : State), ∃ t, exec c s = .next t ∧ t.pending = s.pending) ∧
  (∀ s : State, s.pending = [] → step s = .next s)

/-- O3. The release of master reset leaves every record at its owner's master reset value, captures the straps and the
input levels, halts on ESD and faults on FAULT (R174, with R1, R14, R19, R40, R67, R86, R88, R139, R147, R166, R170).
The band a session was last told, the bytes last clocked out, the queue and the free-value counter are left out: the
spec gives them no reset value (logs 9, 16, 20, 22). -/
def Obligations.MasterResetSetsEveryRecord : Prop :=
  ∀ (st : Straps) (s : State), ∃ t, exec (.masterReset st) s = .next t ∧
    t.station =
      { clock := 0, phase := .setup, halt := if st.esd = true then .halted else .running, markProfile := st.marksel,
        portMode := if st.portsel = true then .mode3 else .mode0,
        inputs := { esd := st.esd, fault := st.fault, coupled := st.coupled, seated := st.seated },
        allowance := 0, switchMargin := 200, suctionMin := 300, suction := none, ambient := none,
        leakAllowance := 50, leakWindow := 600, taperMass := 500, graceMass := 100, stallWindow := 20,
        deferralLimit := 5 } ∧
    (∀ b : BankId, t.bank b =
      { tier := .unused, rated := 0, low := 0, high := 0, pressure := none, temperature := none, state := .unused,
        claimant := none, belowLow := false, atHigh := false, priority := 1, yields := 0, isolation := none,
        leakRef := none, leakStamp := none, leakTimer := none }) ∧
    (∀ k : CompId, t.comp k =
      { state := if st.fault.get k = true then .faulted else .stopped, reach := if k = 0 then .t2 else .t3,
        draw := if k = 0 then 160 else 220, startTime := 20, unloadTime := 15, bank := none, withheld := false,
        startStamp := none, refills := 0, startTimer := none, unloadTimer := none }) ∧
    (∀ l : LoopId, t.loop l =
      { draw := 90, capacity := 36000, floor := 6000, recharge := 40, consumption := 60, reserve := 0, outlet := none,
        chiller := .off, band := .lost, loss := 0, grants := [], queue := [], tick := none }) ∧
    (∀ p : PosId, t.pos p =
      { cfg :=
          { cls := .unused, precool := false, loop := none, receiver := false, reaction := .immediate,
            gramsPerPulse := 2, ventTime := 3, freshnessTime := 1500 },
        ses :=
          { state := .idle, boundHold := none, lastHold := none, mode := none, target := 0, rateLimit := 500,
            pendingRate := none, effRate := 0, ceiling := 0, hose := none, current := none, staged := none,
            cursor := .t1, causes := { noBank := false, precool := false, vehicle := false, host := false },
            steps := 0, initial := 0, coupledStamp := none, fuelStamp := none, endStamp := none, endReason := none,
            vehicle := none, supply := none, control := .closed, vent := .closed, taper := false,
            band := (t.pos p).ses.band },
        tmr :=
          { connect := none, cooling := none, bankWait := none, pulse := none, check := none, held := none,
            vent := none, ramp := none, freshness := none, deferral := none, stall := none },
        meter := { metered := 0, period := none, flow := 0, stray := 0, prevPulse := none },
        rx := none }) ∧
    (∀ h : HoldId, t.hold h =
      { state := .free, account := 0, permit := .either, kind := .mass, limit := 0, plan := 0, price := none,
        massCeiling := none, position := none, mark := 0, conditioning := 0, sold := 0, overrun := 0, amount := 0,
        openStamp := none, bindStamp := none, settleStamp := none, endReason := none }) ∧
    (∀ n : PlanId, t.plan n = { bus35 := 1, car70 := 1 }) ∧
    t.rampTable = #v[47, 30, 0, 80, 60, 0, 40] ∧
    t.targetTable = #v[8400, 8200, 7900, 7600, 7300, 4200, 4100, 3950, 3800, 3650] ∧
    t.fullTable = #v[6660, 7050, 7430, 7800, 8170, 8530, 8750, 8750] ∧
    t.waitList = [] ∧ t.refillQueue = [] ∧ t.powerQueue = [] ∧ t.suction = .short ∧
    (∀ c : Channel, t.link.chan c = { quality := .bad, value := none, silence := none }) ∧
    t.link.sending = some t.routes ∧
    (∀ p : PosId, t.routes.positions.get p = { supply := none, control := .closed, vent := .closed }) ∧
    (∀ k : CompId, t.routes.discharge.get k = none) ∧
    t.link.waiting = none ∧ t.link.rx = none ∧
    t.port = { lastResult := .ok, errorCount := 0, firstError := none, window := none } ∧
    t.notices.enables = 0 ∧ t.notices.line = false ∧
    (∀ i : Fin 16, t.requested i.val ↔
      (i = 0 ∧ st.esd = true) ∨ (i = 12 ∧ ∃ k : CompId, st.fault.get k = true))

/-! ### The field link -/

/-- O4. A whole sample frame of quality GOOD with a value inside its kind's plausible range: the channel is GOOD with
that value and its silence timer at 2,000 ms, the other channels stand, the owner's field takes the value and no other
reading changes. A frame whose check fails, whose kind or index names no channel, or whose quality is neither 0 nor 1
is discarded: nothing changes. Neither does a byte that is no marker and reaches a receiver outside a frame (R6 to R9,
R182). -/
def Obligations.SampleFramesReachTheirOwnerOrAreDiscarded : Prop :=
  (∀ (c : Channel) (kind index lo hi check : Byte) (v : Int) (s : State),
    s.link.rx = none → kind.toNat = (channelCodes c).1 → index.toNat = (channelCodes c).2 →
    kind + index + lo + hi + check = 0 →
    v = (if channelIsTemperature c = true then (lo.toNat + 256 * hi.toNat : Int) - 32768
         else (lo.toNat + 256 * hi.toNat : Int)) →
    (channelBounds c).1 ≤ v → v ≤ (channelBounds c).2 →
    ∃ t, exec (.sampleFrame [0x5A, kind, index, lo, hi, 0, check]) s = .next t ∧
      t.link.rx = none ∧
      t.link.chan c = { quality := .good, value := some v, silence := some 2000 } ∧
      (∀ d : Channel, d ≠ c → t.link.chan d = s.link.chan d) ∧
      t.reading c = some v ∧ (∀ d : Channel, d ≠ c → t.reading d = s.reading d) ∧
      t.station = { s.station with suction := t.station.suction, ambient := t.station.ambient } ∧
      s.SameSettings t ∧ t.holds = s.holds ∧ t.port = s.port) ∧
  ((∀ (kind index lo hi quality check : Byte) (s : State), s.link.rx = none →
    (kind + index + lo + hi + quality + check ≠ 0 ∨ 1 < quality.toNat ∨
      ¬((kind.toNat ≤ 1 ∧ index.toNat < 12) ∨ (kind.toNat = 2 ∧ index.toNat < 8) ∨
        ((kind.toNat = 3 ∨ kind.toNat = 4) ∧ index.toNat = 0) ∨ (kind.toNat = 5 ∧ index.toNat < 2))) →
    exec (.sampleFrame [0x5A, kind, index, lo, hi, quality, check]) s = .next s) ∧
  (∀ (b : Byte) (s : State), s.link.rx = none → b ≠ 0x5A → exec (.sampleFrame [b]) s = .next s))

/-- What a channel that goes BAD leaves: the channel BAD with its value kept and no silence timer, the owner's field
absent, and the owner's reaction to the BAD report, a suction loss among them (R7, R8, R9, R26, R48, R55, R90). -/
def ChannelWentBad (s t : State) (c : Channel) : Prop :=
  t.link.chan c = { quality := .bad, value := (s.link.chan c).value, silence := none } ∧
  (∀ d : Channel, d ≠ c → t.link.chan d = s.link.chan d) ∧
  t.reading c = none ∧ (∀ d : Channel, d ≠ c → t.reading d = s.reading d) ∧
  (∀ b : BankId, c = .bankP b ∨ c = .bankT b → (s.bank b).inService = true →
    (t.bank b).state = .isolated ∧ (t.bank b).isolation = some .sensor ∧ t.requested 11) ∧
  (∀ p : PosId, c = .hoseP p → (s.pos p).ses.state.live = true →
    (t.pos p).ses.state = .venting ∧ (t.pos p).ses.endReason = some .sensor) ∧
  (c = .suctionP →
    (s.suction = .sufficient → SuctionLost s t) ∧ (s.suction = .short → t.suction = .short ∧ t.comps = s.comps)) ∧
  s.SameSettings t ∧ t.holds = s.holds ∧ t.port = s.port

/-- O5. A frame of quality BAD, or of quality GOOD with a value outside the plausible range, makes a GOOD channel BAD
and tells its owner; on a BAD channel it changes nothing. The expiry of a running silence timer does the same as a BAD
frame on a GOOD channel. That a stopped timer's expiry changes nothing is the model's choice (log 2) (R7, R8, R9, R26,
R48, R55, R90). -/
def Obligations.ChannelGoesBadAndItsOwnerIsTold : Prop :=
  (∀ (c : Channel) (kind index lo hi quality check : Byte) (v : Int) (s : State),
    s.link.rx = none → kind.toNat = (channelCodes c).1 → index.toNat = (channelCodes c).2 →
    kind + index + lo + hi + quality + check = 0 →
    v = (if channelIsTemperature c = true then (lo.toNat + 256 * hi.toNat : Int) - 32768
         else (lo.toNat + 256 * hi.toNat : Int)) →
    quality = 1 ∨ (quality = 0 ∧ ¬((channelBounds c).1 ≤ v ∧ v ≤ (channelBounds c).2)) →
    ((s.link.chan c).quality = .good →
      ∃ t, exec (.sampleFrame [0x5A, kind, index, lo, hi, quality, check]) s = .next t ∧ ChannelWentBad s t c) ∧
    ((s.link.chan c).quality = .bad →
      exec (.sampleFrame [0x5A, kind, index, lo, hi, quality, check]) s = .next s)) ∧
  (∀ (c : Channel) (s : State),
    ((s.link.chan c).silence.isSome = true →
      ∃ t, exec (.silenceTimerExpiry c) s = .next t ∧ ChannelWentBad s t c) ∧
    ((s.link.chan c).silence = none → exec (.silenceTimerExpiry c) s = .next s))

/-- The commands that are one rule at most: all but a master reset, the completion of a route frame, and a burst of
link bytes that is longer than one frame (R6, R10, R126, R182). -/
def OneRule : Instr → Bool
  | .sampleFrame bytes => decide (bytes.length ≤ 7)
  | .vehicleFrame _ bytes => decide (bytes.length ≤ 10)
  | .routeFrameComplete | .masterReset _ => false
  | _ => true

/-- Those of them whose only effect on the link is a route frame: neither a sample nor a silence expiry, which judge a
channel. -/
def OnlyRoutesTheLink : Instr → Bool
  | .sampleFrame _ | .silenceTimerExpiry _ => false
  | c => OneRule c

/-- O6. A rule that changes the route record makes one route frame carrying the whole record as it leaves it: sent at
once on an idle link, waiting (in the place of any other waiting frame) behind a frame being sent. A rule that leaves
the record as it was makes none; that the record is judged by its net change over the rule is the model's reading (log
19). But for a sample and a silence expiry, which judge a channel, nothing else of the link changes. When the route
frame being sent completes, the waiting frame, if any, is sent; that a completion with none being sent changes nothing
more is the model's choice (log 21) (R10). -/
def Obligations.RouteFramesFollowTheRouteRecord : Prop :=
  (∀ (c : Instr) (s t : State), OneRule c = true → exec c s = .next t →
    (t.routes = s.routes → t.link.sending = s.link.sending ∧ t.link.waiting = s.link.waiting) ∧
    (t.routes ≠ s.routes → s.link.sending = none →
      t.link.sending = some t.routes ∧ t.link.waiting = s.link.waiting) ∧
    (t.routes ≠ s.routes → s.link.sending.isSome = true →
      t.link.sending = s.link.sending ∧ t.link.waiting = some t.routes) ∧
    (OnlyRoutesTheLink c = true →
      t.link = { s.link with sending := t.link.sending, waiting := t.link.waiting })) ∧
  (∀ s : State, exec .routeFrameComplete s =
    .next { s with link := { s.link with sending := s.link.waiting, waiting := none } })

/-- O7. The clock counts; ESD released, FAULT inactive and a lift record the level; each changes nothing else (R2,
R16, R57, R102). After its last value the clock goes to 0. -/
def Obligations.ClockAndReleasedLinesRecordOnly : Prop :=
  (∀ s : State, exec .clockSecond s =
    .next { s with
      station := { s.station with
        clock := BitVec.ofNat 32 (if s.station.clock.toNat = 4294967295 then 0 else s.station.clock.toNat + 1) } }) ∧
  (∀ s : State, exec .esdReleased s = .next { s with station.inputs.esd := false }) ∧
  (∀ (k : CompId) (s : State), exec (.faultInactive k) s =
    .next { s with station := { s.station with
      inputs := { s.station.inputs with fault := s.station.inputs.fault.set k false } } }) ∧
  (∀ (p : PosId) (s : State), exec (.liftArrival p) s =
    .next { s with station := { s.station with
      inputs := { s.station.inputs with seated := s.station.inputs.seated.set p false } } })

/-- O8. ESD asserted while RUNNING: HALTED, level recorded, N0 raised. Each claimed bank is READY, with its flags and
its leak watch taken anew, and joins the refill queue, at the back of its class, if it is below its low mark; the
queue is otherwise kept, the wait list empty (which of several that join comes first is the model's choice, log 27,
and no part of the claim). Each STARTING or RUNNING compressor is UNLOADING, any other stands. Every chiller is OFF,
every grant set, wait queue and the waiting order empty. An AUTHORISED session is IDLE with its hold OPEN, a live one
VENTING with reason STATION_HALT; phase and allowance stand. ESD asserted while HALTED: only the level and N0 (R15,
R39, R66, R85, R105). -/
def Obligations.EmergencyStopHaltsEveryBlock : Prop :=
  ∀ s : State,
    (s.station.halt = .running →
      ∃ t, exec .esdAsserted s = .next t ∧
        t.station = { s.station with halt := .halted, inputs := { s.station.inputs with esd := true } } ∧
        t.requested 0 ∧
        (∀ b : BankId, (t.bank b).state ≠ .serving ∧ (t.bank b).state ≠ .refilling) ∧
        t.waitList = [] ∧ t.powerQueue = [] ∧
        (∀ b : BankId,
          ((s.bank b).state = .serving ∨ (s.bank b).state = .refilling →
            (t.bank b).state = .ready ∧ (t.bank b).claimant = none ∧ (t.bank b).yields = (s.bank b).yields ∧
            (t.bank b).leakRef = (s.bank b).pressure ∧ (t.bank b).leakStamp = some s.station.clock ∧
            (t.bank b).leakTimer = some (s.station.leakWindow * 1000) ∧
            (∀ v : Nat, (s.bank b).pressure = some v →
              (t.bank b).belowLow = decide (v < (s.bank b).low) ∧
              (t.bank b).atHigh = decide ((s.bank b).high ≤ v)) ∧
            t.queued b = (s.queued b || (t.bank b).belowLow)) ∧
          (¬((s.bank b).state = .serving ∨ (s.bank b).state = .refilling) →
            t.bank b = s.bank b ∧ t.queued b = s.queued b)) ∧
        s.refillQueue.Sublist t.refillQueue ∧
        (∀ e ∈ t.refillQueue, e ∈ s.refillQueue ∨ e.stamp = s.station.clock) ∧
        (∀ b : BankId, s.QueueLaw → s.queued b = false → t.queued b = true →
          (∀ c : BankId, c ≠ b → t.queued c = s.queued c) →
          t.refillQueue = QueuedAtBack s { bank := b, stamp := s.station.clock }) ∧
        (∀ k : CompId,
          ((s.comp k).active = true → t.comp k = Unloading (s.comp k)) ∧
          ((s.comp k).active = false → t.comp k = s.comp k)) ∧
        (∀ k : CompId, (t.comp k).active = false) ∧
        (∀ l : LoopId, (t.loop l).chiller = .off ∧ (t.loop l).grants = [] ∧ (t.loop l).queue = [] ∧
          (t.loop l).loss = 0 ∧ (t.loop l).tick = none ∧ (t.loop l).reserve = (s.loop l).reserve ∧
          (t.loop l).band = (s.loop l).band) ∧
        (∀ p : PosId, (s.pos p).ses.state = .authorised → (t.pos p).ses.state = .idle) ∧
        (∀ (p : PosId) (h : HoldId), (s.pos p).ses.state = .authorised →
          (s.pos p).ses.boundHold = some h → (t.hold h).state = .opened ∧ (t.hold h).price = none ∧
          (t.hold h).massCeiling = none) ∧
        (∀ p : PosId, (s.pos p).ses.state.live = true →
          (t.pos p).ses.state = .venting ∧ (t.pos p).ses.endReason = some .stationHalt) ∧
        (∀ p : PosId, (s.pos p).ses.state = .idle ∨ (s.pos p).ses.state = .venting ∨ (s.pos p).ses.state = .done →
          t.pos p = s.pos p) ∧
        t.port = s.port) ∧
    (s.station.halt = .halted →
      exec .esdAsserted s =
        .next { s with
          station := { s.station with inputs := { s.station.inputs with esd := true } },
          notices := s.notices.raise 0 })

/-! ### Banks -/

/-- The bank was isolated with this reason: out of service, no claimant, no leak watch, off the refill queue, N11 set;
the settings, holds and readings stand (R28). -/
def IsolatedBank (s t : State) (b : BankId) (r : IsoReason) : Prop :=
  (t.bank b).state = .isolated ∧ (t.bank b).isolation = some r ∧ (t.bank b).claimant = none ∧
  (t.bank b).leakRef = none ∧ (t.bank b).leakTimer = none ∧ t.queued b = false ∧ t.requested 11 ∧
  s.SameSettings t ∧ t.holds = s.holds ∧ ∀ c : Channel, t.reading c = s.reading c ∨ c = .bankP b ∨ c = .bankT b

/-- O9. A delivered pressure above the rated pressure isolates a bank in service with OVERPRESSURE; a pressure of a
READY bank below its leak reference by more than the leak allowance isolates it with LEAK; a delivered temperature of
85.0 °C or above isolates a bank in service with OVERTEMP; each off the refill queue and with N11. At the expiry of
the running leak window of a READY bank the reference takes its latest pressure, the stamp the clock, and the timer
starts again with the station's leak window. That an expiry changes nothing where the window does not run, or the bank
is not READY, is the model's choice (log 2) (R24, R25, R27, R28). -/
def Obligations.BanksAreWatched : Prop :=
  (∀ (b : BankId) (lo hi check : Byte) (s : State), s.link.rx = none →
    (∀ v : Nat, v = lo.toNat + 256 * hi.toNat → v ≤ 11000 → BitVec.ofNat 8 b.val + lo + hi + check = 0 →
      ((s.bank b).inService = true → (s.bank b).rated < v →
        ∃ t, exec (.sampleFrame [0x5A, 0, BitVec.ofNat 8 b.val, lo, hi, 0, check]) s = .next t ∧
          IsolatedBank s t b .overpressure) ∧
      (∀ r : Nat, (s.bank b).state = .ready → v ≤ (s.bank b).rated → (s.bank b).leakRef = some r →
        v + s.station.leakAllowance < r →
        ∃ t, exec (.sampleFrame [0x5A, 0, BitVec.ofNat 8 b.val, lo, hi, 0, check]) s = .next t ∧
          IsolatedBank s t b .leak)) ∧
    (32768 + 850 ≤ lo.toNat + 256 * hi.toNat → lo.toNat + 256 * hi.toNat ≤ 32768 + 1200 →
      1 + BitVec.ofNat 8 b.val + lo + hi + check = 0 → (s.bank b).inService = true →
      ∃ t, exec (.sampleFrame [0x5A, 1, BitVec.ofNat 8 b.val, lo, hi, 0, check]) s = .next t ∧
        IsolatedBank s t b .overtemp)) ∧
  (∀ (b : BankId) (s : State),
    ((s.bank b).leakTimer.isSome = true → (s.bank b).state = .ready →
      exec (.leakWindowExpiry b) s = .next { s with
        banks := s.banks.set b { s.bank b with
          leakRef := (s.bank b).pressure, leakStamp := some s.station.clock,
          leakTimer := some (s.station.leakWindow * 1000) } }) ∧
    ((s.bank b).leakTimer = none ∨ (s.bank b).state ≠ .ready → exec (.leakWindowExpiry b) s = .next s))

/-- O10. A delivered pressure of a configured bank recomputes its level flags against its marks; a READY or SERVING
bank whose BELOW_LOW goes from clear to set, and which the sample does not isolate, is then on the refill queue, or a
compressor has taken it from there in the same rule (R23, R24). -/
def Obligations.PressureSampleSetsTheLevelFlags : Prop :=
  ∀ (b : BankId) (lo hi check : Byte) (v : Nat) (s : State), s.link.rx = none →
    v = lo.toNat + 256 * hi.toNat → v ≤ 11000 → BitVec.ofNat 8 b.val + lo + hi + check = 0 →
    (s.bank b).state ≠ .unused →
    ∃ t, exec (.sampleFrame [0x5A, 0, BitVec.ofNat 8 b.val, lo, hi, 0, check]) s = .next t ∧
      (t.bank b).pressure = some v ∧
      (t.bank b).belowLow = decide (v < (s.bank b).low) ∧ (t.bank b).atHigh = decide ((s.bank b).high ≤ v) ∧
      ((s.bank b).belowLow = false → v < (s.bank b).low → (s.bank b).low < (s.bank b).high →
        v ≤ (s.bank b).rated → (s.bank b).state = .ready ∨ (s.bank b).state = .serving →
        (∀ r, (s.bank b).leakRef = some r → r ≤ v + s.station.leakAllowance) →
        t.queued b = true ∨ (t.bank b).state = .refilling)

/-- O11. ISOLATE takes a READY, SERVING or REFILLING bank out of service with reason HOST; on an UNUSED or ISOLATED
bank it is refused with STATE. The claimant is told in the same rule: a pulse on the bank ends in the check, a
FUELLING session that names it makes a step, a compressor that refills it is UNLOADING (R28, R29, R56, R95, R121). -/
def Obligations.IsolateTakesABankOutOfService : Prop :=
  ∀ (b : BankId) (a : Addr) (tail : Tail) (s : State), a.Names (.bank b) s.port.window → tail.Whole 0 →
    ((s.bank b).state = .ready ∨ (s.bank b).state = .serving ∨ (s.bank b).state = .refilling →
      ∃ t, exec (.isolate a tail) s = .next t ∧ s.Taken t (addrRequest a 3 1 0 tail) ∧
        IsolatedBank s t b .host ∧ s.SameSettings t ∧ t.station = s.station ∧
        (∀ (p : PosId) (hose : Nat), (s.bank b).claimant = some (.pos p) → (s.pos p).ses.state = .pulsing →
          (s.pos p).ses.current = some b → (s.pos p).ses.hose = some hose →
          (t.pos p).ses.state = .checking ∧ (t.pos p).ses.initial = hose ∧ (t.pos p).ses.current = none ∧
          (t.pos p).ses.supply = none ∧ (t.pos p).ses.control = .closed ∧ (t.pos p).tmr.pulse = none ∧
          (t.pos p).tmr.check = some 5000) ∧
        (∀ p : PosId, (s.bank b).claimant = some (.pos p) → (s.pos p).ses.state = .fuelling →
          (s.pos p).ses.names b →
          (t.pos p).ses.steps = min 255 ((s.pos p).ses.steps + 1) ∧ ¬ (t.pos p).ses.names b) ∧
        (∀ k : CompId, (s.bank b).claimant = some (.comp k) → (s.comp k).active = true →
          t.comp k = { s.comp k with
            state := .unloading, bank := none, startTimer := none,
            unloadTimer := some ((s.comp k).unloadTime * 1000) })) ∧
    ((s.bank b).state = .unused ∨ (s.bank b).state = .isolated →
      exec (.isolate a tail) s = .next (s.refusedWith (addrRequest a 3 1 0 tail) .state))

/-- O12. RESTORE brings an ISOLATED bank with both readings present, a pressure at or below its rated pressure and a
temperature below 85.0 °C back into service; with no position waiting and no evaluation to make it is READY, its leak
watch started, and on the refill queue if it is below its low mark. In any other case RESTORE is refused with STATE
(R30). -/
def Obligations.RestoreReturnsASoundBank : Prop :=
  ∀ (b : BankId) (a : Addr) (tail : Tail) (s : State), a.Names (.bank b) s.port.window → tail.Whole 0 →
    (∀ (v : Nat) (x : Int), (s.bank b).state = .isolated → (s.bank b).pressure = some v → v ≤ (s.bank b).rated →
      (s.bank b).temperature = some x → x < 850 →
      ∃ t, exec (.restore a tail) s = .next t ∧ s.Taken t (addrRequest a 3 1 1 tail) ∧
        (t.bank b).isolation = none ∧ (t.bank b).inService = true ∧ (t.bank b).yields = (s.bank b).yields ∧
        (t.bank b).belowLow = decide (v < (s.bank b).low) ∧ (t.bank b).atHigh = decide ((s.bank b).high ≤ v) ∧
        s.SameSettings t ∧ t.station = s.station ∧ t.holds = s.holds ∧
        (s.waitList = [] → ¬ Evaluates s →
          (t.bank b).state = .ready ∧ (t.bank b).claimant = none ∧ (t.bank b).leakRef = some v ∧
          (t.bank b).leakStamp = some s.station.clock ∧
          (t.bank b).leakTimer = some (s.station.leakWindow * 1000) ∧
          t.queued b = (s.queued b || decide (v < (s.bank b).low)))) ∧
    (¬(∃ (v : Nat) (x : Int), (s.bank b).state = .isolated ∧ (s.bank b).pressure = some v ∧ v ≤ (s.bank b).rated ∧
        (s.bank b).temperature = some x ∧ x < 850) →
      exec (.restore a tail) s = .next (s.refusedWith (addrRequest a 3 1 1 tail) .state))

/-- Rated pressure a tier takes by default, 0.01 MPa (R20). -/
def defaultRatedOf : Tier → Nat
  | .unused => 0
  | .t1 => 2500
  | .t2 => 5000
  | .t3 => 9500

/-- The marks of a rated pressure under a mark profile, percentages rounded down (R21). -/
def MarksOf (profile : Fin 4) (rated low high : Nat) : Prop :=
  low = rated * ([60, 50, 70, 40] : List Nat).getD profile.val 0 / 100 ∧
  high = rated * ([95, 95, 98, 90] : List Nat).getD profile.val 0 / 100

/-- What a bank's other settings and the rest of the station keep through a SETUP write of the bank. -/
def OnlyBankChanged (s t : State) (b : BankId) : Prop :=
  (∀ c : BankId, c ≠ b → t.bank c = s.bank c) ∧ (t.bank b).pressure = (s.bank b).pressure ∧
  (t.bank b).temperature = (s.bank b).temperature ∧ (t.bank b).priority = (s.bank b).priority ∧
  (∀ c : BankId, c ≠ b → t.queued c = s.queued c) ∧
  t.station = s.station ∧ t.comps = s.comps ∧ t.loops = s.loops ∧ t.positions = s.positions ∧ t.holds = s.holds ∧
  t.waitList = s.waitList ∧ t.powerQueue = s.powerQueue ∧ t.link = s.link

/-- O13. A tier write in SETUP. An UNUSED bank given T1, T2 or T3 takes the tier, its default rated pressure and the
marks of the mark profile, and is READY, or ISOLATED with SENSOR, OVERPRESSURE or OVERTEMP, in that order, as its
readings say; a READY or ISOLATED bank given a tier is reloaded and keeps its state, but for a READY bank now above
its rated pressure; a READY or ISOLATED bank made UNUSED loses its rated pressure, marks, flags, yield count,
isolation reason and queue entry; UNUSED on UNUSED changes nothing. A code above 3 is refused with RANGE, and in
SERVICE the write with PHASE. The clauses of a taken write ask that banks stand in their rows, which every step keeps
(O54) (R20, R21). -/
def Obligations.TierWriteConfiguresTheBank : Prop :=
  ∀ (b : BankId) (a : Addr) (tail : Tail) (code : Byte) (s : State), a.Names (.bank b) s.port.window →
    tail.Whole 1 → tail.data = [code] →
    (s.station.phase = .service →
      exec (.tierWrite a tail) s = .next (s.refusedWith (addrRequest a 2 1 0 tail) .phase)) ∧
    (s.station.phase = .setup → 3 < code.toNat →
      exec (.tierWrite a tail) s = .next (s.refusedWith (addrRequest a 2 1 0 tail) .range)) ∧
    (s.station.phase = .setup → code = 0 → (s.bank b).state = .unused →
      exec (.tierWrite a tail) s = .next (s.answered (addrRequest a 2 1 0 tail))) ∧
    (s.station.phase = .setup → s.BankRows → code = 0 → (s.bank b).state = .ready ∨ (s.bank b).state = .isolated →
      ∃ t, exec (.tierWrite a tail) s = .next t ∧ s.Taken t (addrRequest a 2 1 0 tail) ∧ OnlyBankChanged s t b ∧
        (t.bank b).tier = .unused ∧ (t.bank b).state = .unused ∧ (t.bank b).rated = 0 ∧ (t.bank b).low = 0 ∧
        (t.bank b).high = 0 ∧ (t.bank b).belowLow = false ∧ (t.bank b).atHigh = false ∧ (t.bank b).yields = 0 ∧
        (t.bank b).isolation = none ∧ (t.bank b).leakRef = none ∧ (t.bank b).leakTimer = none ∧
        t.queued b = false) ∧
    (∀ tier : Tier, s.station.phase = .setup → s.BankRows →
      (code, tier) ∈ [(1, Tier.t1), (2, Tier.t2), (3, Tier.t3)] →
      (s.bank b).state = .unused ∨ (s.bank b).state = .ready ∨ (s.bank b).state = .isolated →
      ∃ t, exec (.tierWrite a tail) s = .next t ∧ s.Taken t (addrRequest a 2 1 0 tail) ∧ OnlyBankChanged s t b ∧
        (t.bank b).tier = tier ∧ (t.bank b).rated = defaultRatedOf tier ∧
        MarksOf s.station.markProfile (defaultRatedOf tier) (t.bank b).low (t.bank b).high ∧
        (∀ v, (s.bank b).pressure = some v →
          (t.bank b).belowLow = decide (v < (t.bank b).low) ∧ (t.bank b).atHigh = decide ((t.bank b).high ≤ v)) ∧
        ((s.bank b).state = .unused →
          (((s.bank b).pressure = none ∨ (s.bank b).temperature = none) →
            (t.bank b).state = .isolated ∧ (t.bank b).isolation = some .sensor ∧ t.requested 11) ∧
          (∀ (v : Nat) (x : Int), (s.bank b).pressure = some v → (s.bank b).temperature = some x →
            (defaultRatedOf tier < v →
              (t.bank b).state = .isolated ∧ (t.bank b).isolation = some .overpressure ∧ t.requested 11) ∧
            (v ≤ defaultRatedOf tier → 850 ≤ x →
              (t.bank b).state = .isolated ∧ (t.bank b).isolation = some .overtemp ∧ t.requested 11) ∧
            (v ≤ defaultRatedOf tier → x < 850 →
              (t.bank b).state = .ready ∧ (t.bank b).leakRef = some v ∧
              (t.bank b).leakTimer = some (s.station.leakWindow * 1000) ∧
              (v < (t.bank b).low → t.queued b = true)))) ∧
        ((s.bank b).state = .isolated →
          (t.bank b).state = .isolated ∧ (t.bank b).isolation = (s.bank b).isolation) ∧
        (∀ v : Nat, (s.bank b).state = .ready → (s.bank b).pressure = some v →
          (defaultRatedOf tier < v →
            (t.bank b).state = .isolated ∧ (t.bank b).isolation = some .overpressure ∧ t.requested 11) ∧
          (v ≤ defaultRatedOf tier → (t.bank b).state = .ready ∧ (t.bank b).leakRef = (s.bank b).leakRef)))

/-- O14. A rated pressure write in SETUP on a configured bank sets it and reloads both marks; a READY bank now above
it is isolated with OVERPRESSURE. It is refused with PHASE in SERVICE, with STATE on an UNUSED bank, with RANGE
outside 10.00 to 110.00 MPa. A write of one mark or of both, in either phase and either halt state: the marks are set
and the flags recomputed if the pair that results has low below high and high at or below the rated pressure, else
RANGE; on an UNUSED bank STATE. The clause of a taken rated pressure asks that banks stand in their rows, which every
step keeps (O54) (R21 to R23). -/
def Obligations.RatedAndMarkWritesSetTheMarks : Prop :=
  (∀ (b : BankId) (a : Addr) (tail : Tail) (lo hi : Byte) (n : Nat) (s : State), a.Names (.bank b) s.port.window →
    tail.Whole 2 → tail.data = [lo, hi] → n = lo.toNat + 256 * hi.toNat →
    (s.station.phase = .service →
      exec (.ratedPressureWrite a tail) s = .next (s.refusedWith (addrRequest a 2 1 1 tail) .phase)) ∧
    (s.station.phase = .setup → (s.bank b).tier = .unused →
      exec (.ratedPressureWrite a tail) s = .next (s.refusedWith (addrRequest a 2 1 1 tail) .state)) ∧
    (s.station.phase = .setup → (s.bank b).tier ≠ .unused → n < 1000 ∨ 11000 < n →
      exec (.ratedPressureWrite a tail) s = .next (s.refusedWith (addrRequest a 2 1 1 tail) .range)) ∧
    (s.station.phase = .setup → s.BankRows → (s.bank b).tier ≠ .unused → 1000 ≤ n → n ≤ 11000 →
      (s.bank b).state = .ready ∨ (s.bank b).state = .isolated →
      ∃ t, exec (.ratedPressureWrite a tail) s = .next t ∧ s.Taken t (addrRequest a 2 1 1 tail) ∧
        OnlyBankChanged s t b ∧ (t.bank b).tier = (s.bank b).tier ∧ (t.bank b).rated = n ∧
        MarksOf s.station.markProfile n (t.bank b).low (t.bank b).high ∧
        (∀ v, (s.bank b).pressure = some v →
          (t.bank b).belowLow = decide (v < (t.bank b).low) ∧ (t.bank b).atHigh = decide ((t.bank b).high ≤ v) ∧
          ((s.bank b).state = .ready → n < v →
            (t.bank b).state = .isolated ∧ (t.bank b).isolation = some .overpressure ∧ t.requested 11) ∧
          ((s.bank b).state = .isolated ∨ v ≤ n → (t.bank b).state = (s.bank b).state)))) ∧
  (∀ (b : BankId) (a : Addr) (m : MarkField) (tail : Tail) (low high : Nat) (s : State),
    a.Names (.bank b) s.port.window →
    ((m = .low ∧ tail.Whole 2 ∧ low = leValue tail.data ∧ high = (s.bank b).high) ∨
     (m = .high ∧ tail.Whole 2 ∧ high = leValue tail.data ∧ low = (s.bank b).low) ∨
     (m = .low ∧ tail.Whole 4 ∧ low = leValue (tail.data.take 2) ∧ high = leValue (tail.data.drop 2))) →
    ((s.bank b).tier = .unused →
      exec (.markWrite a m tail) s =
        .next (s.refusedWith (addrRequest a 2 1 (match m with | .low => 2 | .high => 3) tail) .state)) ∧
    ((s.bank b).tier ≠ .unused → ¬(low < high ∧ high ≤ (s.bank b).rated) →
      exec (.markWrite a m tail) s =
        .next (s.refusedWith (addrRequest a 2 1 (match m with | .low => 2 | .high => 3) tail) .range)) ∧
    ((s.bank b).tier ≠ .unused → low < high → high ≤ (s.bank b).rated →
      ∃ t, exec (.markWrite a m tail) s = .next t ∧
        s.Taken t (addrRequest a 2 1 (match m with | .low => 2 | .high => 3) tail) ∧
        (t.bank b).low = low ∧ (t.bank b).high = high ∧ (t.bank b).rated = (s.bank b).rated ∧
        (∀ v, (s.bank b).pressure = some v →
          (t.bank b).belowLow = decide (v < low) ∧ (t.bank b).atHigh = decide (high ≤ v) ∧
          ((s.bank b).belowLow = false → v < low → (s.bank b).state = .ready ∨ (s.bank b).state = .serving →
            t.queued b = true ∨ (t.bank b).state = .refilling)) ∧
        t.station = s.station ∧ t.holds = s.holds ∧ t.positions = s.positions ∧ t.loops = s.loops ∧
        ∀ c : Channel, t.reading c = s.reading c))

/-- O15. A refill priority write, 0 to 3, sets the field and, while the bank has an entry, places that entry, with its
stamp, at the back of the class of the written priority; it calls for no evaluation. A value above 3 is refused with
RANGE (R33, R47). -/
def Obligations.PriorityWriteReplacesTheEntry : Prop :=
  ∀ (b : BankId) (a : Addr) (tail : Tail) (n : Byte) (s : State), a.Names (.bank b) s.port.window → tail.Whole 1 →
    tail.data = [n] → s.QueueLaw →
    (3 < n.toNat →
      exec (.refillPriorityWrite a tail) s = .next (s.refusedWith (addrRequest a 2 1 9 tail) .range)) ∧
    (n.toNat ≤ 3 → s.queued b = false →
      exec (.refillPriorityWrite a tail) s =
        .next { s.answered (addrRequest a 2 1 9 tail) with
          banks := s.banks.set b { s.bank b with priority := n.toNat } }) ∧
    (∀ e : QueueEntry, n.toNat ≤ 3 → e ∈ s.refillQueue → e.bank = b →
      exec (.refillPriorityWrite a tail) s =
        .next { s.answered (addrRequest a 2 1 9 tail) with
          banks := s.banks.set b { s.bank b with priority := n.toNat },
          refillQueue :=
            (s.refillQueue.filter (fun x => x.bank != b && decide (n.toNat ≤ (s.bank x.bank).priority))) ++ [e] ++
            (s.refillQueue.filter (fun x => x.bank != b && decide ((s.bank x.bank).priority < n.toNat))) })

/-- A READY bank of a tier whose pressure meets a need level. -/
def Meets (s : State) (need : Nat) (tier : Tier) (b : BankId) (v : Nat) : Prop :=
  (s.bank b).state = .ready ∧ (s.bank b).tier = tier ∧ (s.bank b).pressure = some v ∧ need ≤ v

/-- O16. Selection searches the tiers in order. It finds none exactly when no READY bank of any of them meets the need
level; else it takes, in the first tier that has such a bank, the one of lowest pressure, and the lowest bank number
among equals (R94, R115). -/
def Obligations.SelectionTakesTheLowestPressure : Prop :=
  ∀ (s : State) (need : Nat) (tiers : List Tier),
    (s.select need tiers = none ↔ ∀ tier ∈ tiers, ∀ (b : BankId) (v : Nat), ¬ Meets s need tier b v) ∧
    (∀ b : BankId, s.select need tiers = some b →
      ∃ (before after : List Tier) (tier : Tier) (v : Nat), tiers = before ++ tier :: after ∧
        (∀ e ∈ before, ∀ (c : BankId) (u : Nat), ¬ Meets s need e c u) ∧ Meets s need tier b v ∧
        ∀ (c : BankId) (u : Nat), Meets s need tier c u → v < u ∨ (v = u ∧ b ≤ c))

/-- O17. An offer of a READY bank with a known pressure serves the oldest entry whose tiers hold the bank's tier and
whose need level its pressure meets, past older ones that are not eligible: a position PULSING without a bank takes it
as current bank with route, open valve and pulse timer; a position HELD for NO_BANK alone is FUELLING again with it
staged; either way the bank is SERVING for that position and the entry is gone. A position HELD with NO_BANK and
another cause loses NO_BANK and its entry and hands the bank on: the next eligible entry takes it, or it is READY, its
leak reference taken anew. With no eligible entry nothing changes (R32, R37, R95, R98). -/
def Obligations.OfferServesTheOldestEligibleEntry : Prop :=
  ∀ (w : Work) (b : BankId) (v : Nat), (w.bank b).state = .ready → (w.bank b).pressure = some v →
    ((∀ e ∈ w.waitList, ¬((w.bank b).tier ∈ e.tiers ∧ e.need ≤ v)) → w.offerBank b = w) ∧
    (∀ (older younger : List WaitEntry) (e : WaitEntry), w.waitList = older ++ e :: younger →
      (∀ x ∈ older, ¬((w.bank b).tier ∈ x.tiers ∧ x.need ≤ v)) → (w.bank b).tier ∈ e.tiers → e.need ≤ v →
      (((w.pos e.pos).ses.state = .pulsing ∧ (w.pos e.pos).ses.current = none) ∨
        ((w.pos e.pos).ses.state = .held ∧
          (w.pos e.pos).ses.causes = { noBank := true, precool := false, vehicle := false, host := false })) →
      ((w.offerBank b).bank b).state = .serving ∧ ((w.offerBank b).bank b).claimant = some (.pos e.pos) ∧
      (w.offerBank b).waitList = w.waitList.filter (fun x => x.pos != e.pos) ∧
      (∀ q : PosId, q ≠ e.pos → (w.offerBank b).pos q = w.pos q) ∧
      (∀ c : BankId, c ≠ b → (w.offerBank b).bank c = w.bank c) ∧
      ((w.pos e.pos).ses.state = .pulsing →
        ((w.offerBank b).pos e.pos).ses.current = some b ∧ ((w.offerBank b).pos e.pos).ses.supply = some b ∧
        ((w.offerBank b).pos e.pos).ses.control = .opened ∧ ((w.offerBank b).pos e.pos).tmr.pulse = some 1000 ∧
        ((w.offerBank b).pos e.pos).tmr.bankWait = none) ∧
      (∀ hose : Nat, (w.pos e.pos).ses.state = .held → (w.pos e.pos).ses.hose = some hose →
        ((w.offerBank b).pos e.pos).ses.state = .fuelling ∧ ((w.offerBank b).pos e.pos).ses.staged = some b ∧
        ((w.offerBank b).pos e.pos).ses.cursor = (w.bank b).tier ∧
        ((w.offerBank b).pos e.pos).ses.ceiling = min hose (w.pos e.pos).ses.target ∧
        ((w.offerBank b).pos e.pos).tmr.held = none ∧ ((w.offerBank b).pos e.pos).tmr.ramp = some 1000)) ∧
    (∀ (older younger : List WaitEntry) (e : WaitEntry), w.waitList = older ++ e :: younger →
      (∀ x ∈ older, ¬((w.bank b).tier ∈ x.tiers ∧ x.need ≤ v)) → (w.bank b).tier ∈ e.tiers → e.need ≤ v →
      (w.pos e.pos).ses.state = .held → (w.pos e.pos).ses.causes.noBank = true →
      ((w.pos e.pos).ses.causes.precool = true ∨ (w.pos e.pos).ses.causes.vehicle = true ∨
        (w.pos e.pos).ses.causes.host = true) →
      (w.offerBank b).pos e.pos =
        { w.pos e.pos with
          ses := { (w.pos e.pos).ses with causes := { (w.pos e.pos).ses.causes with noBank := false } } } ∧
      (w.offerBank b).waits e.pos = false ∧
      ((∀ x ∈ younger, ¬((w.bank b).tier ∈ x.tiers ∧ x.need ≤ v)) →
        ((w.offerBank b).bank b).state = .ready ∧ ((w.offerBank b).bank b).claimant = none ∧
        ((w.offerBank b).bank b).leakRef = some v ∧
        (w.offerBank b).waitList = w.waitList.filter (fun x => x.pos != e.pos) ∧
        ∀ q : PosId, q ≠ e.pos → (w.offerBank b).pos q = w.pos q) ∧
      (∀ (between rest : List WaitEntry) (f : WaitEntry), younger = between ++ f :: rest → f.pos ≠ e.pos →
        (∀ x ∈ between, ¬((w.bank b).tier ∈ x.tiers ∧ x.need ≤ v)) → (w.bank b).tier ∈ f.tiers → f.need ≤ v →
        (w.pos f.pos).ses.state = .pulsing → (w.pos f.pos).ses.current = none →
        ((w.offerBank b).bank b).state = .serving ∧ ((w.offerBank b).bank b).claimant = some (.pos f.pos) ∧
        ((w.offerBank b).pos f.pos).ses.current = some b ∧ (w.offerBank b).waits f.pos = false))

/-! ### The refill queue and the compressors -/

/-- O18. A scheduling evaluation does nothing unless the station is in SERVICE and RUNNING with suction SUFFICIENT;
else it walks the queue from its front, once. At each entry: a bank that is not READY is passed over; a READY bank
whose pressure is at or above its high mark leaves the queue; any other READY bank is assigned to the eligible
compressor of lowest reach, K0 between equals, and stays queued when none is eligible. An assignment takes the entry
off the queue, makes the bank REFILLING for the compressor and the compressor STARTING with that bank, its start stamp
and its start timer (R49, R50, R51). -/
def Obligations.EvaluationWalksTheQueueOnce : Prop :=
  (∀ w : Work, ¬ Evaluates w.toState → w.evaluate = w) ∧
  (∀ w : Work, Evaluates w.toState → w.evaluate = w.refillQueue.foldl (fun x e => Work.visit e x) w) ∧
  (∀ (e : QueueEntry) (w : Work), (w.bank e.bank).state ≠ .ready → Work.visit e w = w) ∧
  (∀ (e : QueueEntry) (w : Work) (v : Nat), (w.bank e.bank).state = .ready → (w.bank e.bank).pressure = some v →
    (w.bank e.bank).high ≤ v →
    Work.visit e w = { w with refillQueue := w.refillQueue.filter (fun x => x.bank != e.bank) }) ∧
  (∀ (e : QueueEntry) (w : Work) (v : Nat), (w.bank e.bank).state = .ready → (w.bank e.bank).pressure = some v →
    v < (w.bank e.bank).high → (∀ k : CompId, ¬ CanTake w.toState k (w.bank e.bank).tier) → Work.visit e w = w) ∧
  (∀ (e : QueueEntry) (w : Work) (v : Nat) (k : CompId), (w.bank e.bank).state = .ready →
    (w.bank e.bank).pressure = some v → v < (w.bank e.bank).high → CanTake w.toState k (w.bank e.bank).tier →
    (∀ j : CompId, CanTake w.toState j (w.bank e.bank).tier →
      (w.comp k).reach.rank < (w.comp j).reach.rank ∨ ((w.comp k).reach.rank = (w.comp j).reach.rank ∧ k ≤ j)) →
    Work.visit e w =
      { w with
        refillQueue := w.refillQueue.filter (fun x => x.bank != e.bank),
        banks := w.banks.set e.bank { w.bank e.bank with
          state := .refilling, claimant := some (.comp k), leakRef := none, leakStamp := none, leakTimer := none },
        comps := w.comps.set k { w.comp k with
          state := .starting, bank := some e.bank, startStamp := some w.station.clock,
          startTimer := some ((w.comp k).startTime * 1000) } })

/-- O19. REFILL puts a READY or SERVING bank with AT_HIGH clear on the refill queue, at the back of its priority class
with the clock as stamp; a bank that has an entry keeps it; where an evaluation follows, a compressor may have taken
the bank. CANCEL_REFILL removes a bank's entry. On any other bank either is refused with STATE. That a join of a
queued bank calls for no evaluation is the model's reading (log 10) (R43, R44, R46). -/
def Obligations.RefillAndCancelMoveTheEntry : Prop :=
  ∀ (b : BankId) (a : Addr) (tail : Tail) (s : State), a.Names (.bank b) s.port.window → tail.Whole 0 →
    (((s.bank b).state = .ready ∨ (s.bank b).state = .serving) → (s.bank b).atHigh = false →
      (s.queued b = true → exec (.refill a tail) s = .next (s.answered (addrRequest a 3 1 2 tail))) ∧
      (s.queued b = false → s.QueueLaw → ¬ Evaluates s →
        exec (.refill a tail) s = .next { s.answered (addrRequest a 3 1 2 tail) with
          refillQueue := QueuedAtBack s { bank := b, stamp := s.station.clock } }) ∧
      (s.queued b = false → Evaluates s → (∀ v, (s.bank b).pressure = some v → v < (s.bank b).high) →
        ∃ t, exec (.refill a tail) s = .next t ∧ s.Taken t (addrRequest a 3 1 2 tail) ∧
          (t.queued b = true ∨ (t.bank b).state = .refilling) ∧ s.SameSettings t ∧ t.station = s.station ∧
          t.positions = s.positions ∧ t.holds = s.holds ∧ t.loops = s.loops ∧ t.waitList = s.waitList)) ∧
    (¬(((s.bank b).state = .ready ∨ (s.bank b).state = .serving) ∧ (s.bank b).atHigh = false) →
      exec (.refill a tail) s = .next (s.refusedWith (addrRequest a 3 1 2 tail) .state)) ∧
    (s.queued b = true →
      exec (.cancelRefill a tail) s = .next { s.answered (addrRequest a 3 1 3 tail) with
        refillQueue := s.refillQueue.filter (fun x => x.bank != b) }) ∧
    (s.queued b = false →
      exec (.cancelRefill a tail) s = .next (s.refusedWith (addrRequest a 3 1 3 tail) .state))

/-- What a scheduling evaluation leaves alone: all but banks, compressors, the refill queue and the route frames. -/
def OnlyScheduled (s t : State) : Prop :=
  t.station = s.station ∧ t.positions = s.positions ∧ t.holds = s.holds ∧ t.loops = s.loops ∧
  t.waitList = s.waitList ∧ t.powerQueue = s.powerQueue ∧ t.suction = s.suction ∧ t.plans = s.plans ∧
  t.notices = s.notices

/-- O20. WITHHOLD sets the withheld flag and nothing else; RELEASE clears it and an evaluation is made; CLEAR_FAULT
makes a FAULTED compressor whose FAULT input is inactive STOPPED and an evaluation is made. WITHHOLD on a withheld
compressor, RELEASE on one that is not, CLEAR_FAULT on one not FAULTED or with its input active are refused with STATE
(R49 to R51, R58, R59). -/
def Obligations.CompressorVerbs : Prop :=
  ∀ (k : CompId) (a : Addr) (tail : Tail) (s : State), a.Names (.comp k) s.port.window → tail.Whole 0 →
    ((s.comp k).withheld = false →
      exec (.withhold a tail) s = .next { s.answered (addrRequest a 3 2 0 tail) with
        comps := s.comps.set k { s.comp k with withheld := true } }) ∧
    ((s.comp k).withheld = true →
      exec (.withhold a tail) s = .next (s.refusedWith (addrRequest a 3 2 0 tail) .state)) ∧
    ((s.comp k).withheld = true →
      (¬ Evaluates s → exec (.release a tail) s = .next { s.answered (addrRequest a 3 2 1 tail) with
        comps := s.comps.set k { s.comp k with withheld := false } }) ∧
      ∃ t, exec (.release a tail) s = .next t ∧ s.Taken t (addrRequest a 3 2 1 tail) ∧
        (t.comp k).withheld = false ∧ OnlyScheduled s t ∧
        EvaluationMade { s.answered (addrRequest a 3 2 1 tail) with
          comps := s.comps.set k { s.comp k with withheld := false } } t) ∧
    ((s.comp k).withheld = false →
      exec (.release a tail) s = .next (s.refusedWith (addrRequest a 3 2 1 tail) .state)) ∧
    ((s.comp k).state = .faulted → s.station.inputs.fault.get k = false →
      (¬ Evaluates s → exec (.clearFault a tail) s = .next { s.answered (addrRequest a 3 2 2 tail) with
        comps := s.comps.set k { s.comp k with state := .stopped } }) ∧
      ∃ t, exec (.clearFault a tail) s = .next t ∧ s.Taken t (addrRequest a 3 2 2 tail) ∧
        ((t.comp k).state = .stopped ∨ ((t.comp k).state = .starting ∧ Evaluates s)) ∧ OnlyScheduled s t ∧
        EvaluationMade { s.answered (addrRequest a 3 2 2 tail) with
          comps := s.comps.set k { s.comp k with state := .stopped } } t) ∧
    ((s.comp k).state ≠ .faulted ∨ s.station.inputs.fault.get k = true →
      exec (.clearFault a tail) s = .next (s.refusedWith (addrRequest a 3 2 2 tail) .state))

/-- O21. A FAULT input going active makes the compressor FAULTED from any state, with no bank, no running timer and
the rest of its record kept, records the level and raises N12. A refill in progress is given back: the bank is no
longer the compressor's, and with no position waiting and no evaluation to make it is READY with its entry at the
front of its priority class. From STOPPED, UNLOADING or FAULTED nothing else changes (R45, R57). -/
def Obligations.FaultMakesTheCompressorFaulted : Prop :=
  ∀ (k : CompId) (s : State),
    ((s.comp k).active = false → (s.comp k).bank = none →
      exec (.faultActive k) s = .next { s with
        station := { s.station with inputs := { s.station.inputs with fault := s.station.inputs.fault.set k true } },
        comps := s.comps.set k { s.comp k with
          state := .faulted, bank := none, startTimer := none, unloadTimer := none },
        notices := s.notices.raise 12 }) ∧
    (∀ b : BankId, (s.comp k).active = true → (s.comp k).bank = some b → (s.bank b).claimant = some (.comp k) →
      (s.bank b).state = .refilling →
      ∃ t, exec (.faultActive k) s = .next t ∧
        t.station = { s.station with
          inputs := { s.station.inputs with fault := s.station.inputs.fault.set k true } } ∧
        t.comp k = { s.comp k with state := .faulted, bank := none, startTimer := none, unloadTimer := none } ∧
        t.requested 12 ∧ (t.bank b).claimant ≠ some (.comp k) ∧ (t.bank b).yields = (s.bank b).yields ∧
        (s.waitList = [] → ¬ Evaluates s → s.QueueLaw →
          (t.bank b).state = .ready ∧ t.refillQueue = QueuedAtFront s { bank := b, stamp := s.station.clock }) ∧
        s.SameSettings t ∧ t.holds = s.holds ∧ t.port = s.port)

/-- A pressure sample of the bank that compressor `k` refills, RUNNING: at or above the high mark it completes the
refill (R53). The bank goes to the oldest eligible entry of the wait list; with none, and no evaluation to make, it is
READY. -/
def RefillCompletesAtASample (k : CompId) (s : State) : Prop :=
  ∀ (b : BankId) (lo hi check : Byte) (v : Nat), s.link.rx = none → v = lo.toNat + 256 * hi.toNat → v ≤ 11000 →
    BitVec.ofNat 8 b.val + lo + hi + check = 0 → (s.comp k).state = .running → (s.comp k).bank = some b →
    (s.bank b).claimant = some (.comp k) → (s.bank b).state = .refilling → v ≤ (s.bank b).rated →
    (s.bank b).high ≤ v →
    ∃ t, exec (.sampleFrame [0x5A, 0, BitVec.ofNat 8 b.val, lo, hi, 0, check]) s = .next t ∧
      t.comp k = { Unloading (s.comp k) with refills := (s.comp k).refills + 1 } ∧
      (t.bank b).pressure = some v ∧ (t.bank b).atHigh = true ∧ (t.bank b).yields = 0 ∧
      (t.bank b).claimant ≠ some (.comp k) ∧
      ((∀ e ∈ s.waitList, ¬((s.bank b).tier ∈ e.tiers ∧ e.need ≤ v)) → ¬ Evaluates s →
        (t.bank b).state = .ready ∧ (t.bank b).leakRef = some v ∧ t.positions = s.positions) ∧
      (∀ (older younger : List WaitEntry) (e : WaitEntry), s.waitList = older ++ e :: younger →
        (∀ x ∈ older, ¬((s.bank b).tier ∈ x.tiers ∧ x.need ≤ v)) → (s.bank b).tier ∈ e.tiers → e.need ≤ v →
        (s.pos e.pos).ses.state = .pulsing → (s.pos e.pos).ses.current = none →
        (t.bank b).state = .serving ∧ (t.bank b).claimant = some (.pos e.pos) ∧
        (t.pos e.pos).ses.current = some b) ∧
      s.SameSettings t ∧ t.holds = s.holds ∧ t.port = s.port ∧ t.station = s.station

/-- A suction sample: at or above the minimum on SHORT it is the upward crossing, SUFFICIENT with an evaluation; below
it on SUFFICIENT it is a suction loss; else it sets the field alone (R48, R55). -/
def SuctionSamplesJudgeTheCondition (s : State) : Prop :=
  ∀ (lo hi check : Byte) (v : Nat), s.link.rx = none → v = lo.toNat + 256 * hi.toNat → v ≤ 5000 →
    3 + lo + hi + check = 0 →
    ∃ t, exec (.sampleFrame [0x5A, 3, 0, lo, hi, 0, check]) s = .next t ∧
      t.station = { s.station with suction := some v } ∧
      (s.suction = .short → s.station.suctionMin ≤ v →
        EvaluationMade { s with station := { s.station with suction := some v }, suction := .sufficient } t) ∧
      (s.suction = .sufficient → v < s.station.suctionMin → SuctionLost s t) ∧
      ((s.suction = .short ∧ v < s.station.suctionMin) ∨ (s.suction = .sufficient ∧ s.station.suctionMin ≤ v) →
        t = { s with station := { s.station with suction := some v }, link := t.link })

/-- O22. The expiry of the start timer makes a STARTING compressor RUNNING, and a bank already at its high mark
completes: the compressor is UNLOADING with one more refill counted, the bank is no longer its own, its yield count 0.
So does, in RUNNING, a pressure sample of its bank at or above the high mark. The expiry of the unload timer makes an
UNLOADING compressor STOPPED and an evaluation is made. That a stopped timer, or one in another state, has no expiry
is the model's choice (log 2). A suction sample at or above the minimum, on SHORT, makes the condition SUFFICIENT with
an evaluation; one below it, on SUFFICIENT, makes it SHORT, and each STARTING or RUNNING compressor is UNLOADING and
gives its bank back (R45, R48 to R55). -/
def Obligations.CompressorTimersExpire : Prop :=
  ∀ (k : CompId) (s : State),
    ((s.comp k).startTimer.isSome = true → (s.comp k).state = .starting →
      (∀ (b : BankId), (s.comp k).bank = some b → (∀ v, (s.bank b).pressure = some v → v < (s.bank b).high) →
        exec (.startTimerExpiry k) s = .next { s with
          comps := s.comps.set k { s.comp k with state := .running, startTimer := none } }) ∧
      (∀ (b : BankId) (v : Nat), (s.comp k).bank = some b → (s.bank b).pressure = some v → (s.bank b).high ≤ v →
        (s.bank b).claimant = some (.comp k) → (s.bank b).state = .refilling →
        ∃ t, exec (.startTimerExpiry k) s = .next t ∧
          t.comp k = { s.comp k with
            state := .unloading, bank := none, startTimer := none,
            unloadTimer := some ((s.comp k).unloadTime * 1000), refills := (s.comp k).refills + 1 } ∧
          (t.bank b).yields = 0 ∧ (t.bank b).claimant ≠ some (.comp k) ∧
          (s.waitList = [] → ¬ Evaluates s → (t.bank b).state = .ready ∧ (t.bank b).atHigh = true) ∧
          s.SameSettings t ∧ t.holds = s.holds ∧ t.port = s.port ∧ t.station = s.station)) ∧
    ((s.comp k).startTimer = none ∨ (s.comp k).state ≠ .starting → exec (.startTimerExpiry k) s = .next s) ∧
    ((s.comp k).unloadTimer.isSome = true → (s.comp k).state = .unloading →
      (¬ Evaluates s → exec (.unloadTimerExpiry k) s = .next { s with
        comps := s.comps.set k { s.comp k with state := .stopped, unloadTimer := none } }) ∧
      ∃ t, exec (.unloadTimerExpiry k) s = .next t ∧ (t.comp k).unloadTimer = none ∧
        ((t.comp k).state = .stopped ∨ ((t.comp k).state = .starting ∧ Evaluates s)) ∧ OnlyScheduled s t ∧
        t.port = s.port ∧
        EvaluationMade { s with
          comps := s.comps.set k { s.comp k with state := .stopped, unloadTimer := none } } t) ∧
    ((s.comp k).unloadTimer = none ∨ (s.comp k).state ≠ .unloading → exec (.unloadTimerExpiry k) s = .next s) ∧
    RefillCompletesAtASample k s ∧ SuctionSamplesJudgeTheCondition s

/-- A REFILLING bank that can be yielded to an entry, at its pressure (R60). -/
def CanYield (s : State) (e : WaitEntry) (b : BankId) (v : Nat) : Prop :=
  (s.bank b).state = .refilling ∧ (s.bank b).tier ∈ e.tiers ∧ (s.bank b).pressure = some v ∧ e.need ≤ v ∧
  (s.bank b).yields < 2

/-- A pressure sample of a bank that compressor `k` refills and that does not complete the refill: while the head of
the wait list, the entry of `p`, has waited and the bank can be yielded to it, it is; else the sample sets pressure
and flags alone (R53, R60, R61). -/
def PressureSampleYields (p : PosId) (s : State) : Prop :=
  ∀ (k : CompId) (b : BankId) (lo hi check : Byte) (v : Nat), s.link.rx = none → v = lo.toNat + 256 * hi.toNat →
    v ≤ 11000 → BitVec.ofNat 8 b.val + lo + hi + check = 0 → (s.comp k).bank = some b →
    (s.bank b).claimant = some (.comp k) → (s.bank b).state = .refilling → v ≤ (s.bank b).rated →
    ((s.comp k).state = .starting ∨ ((s.comp k).state = .running ∧ v < (s.bank b).high)) →
    (∀ (head : WaitEntry) (rest : List WaitEntry), s.waitList = head :: rest → head.pos = p → head.waited = true →
      (s.bank b).tier ∈ head.tiers → head.need ≤ v → (s.bank b).yields < 2 →
      ((s.pos p).ses.state = .pulsing ∧ (s.pos p).ses.current = none) ∨
        ((s.pos p).ses.state = .held ∧
          (s.pos p).ses.causes = { noBank := true, precool := false, vehicle := false, host := false }) →
      ∃ t, exec (.sampleFrame [0x5A, 0, BitVec.ofNat 8 b.val, lo, hi, 0, check]) s = .next t ∧
        t.comp k = Unloading (s.comp k) ∧ (t.bank b).state = .serving ∧ (t.bank b).claimant = some (.pos p) ∧
        (t.bank b).pressure = some v ∧ (t.bank b).yields = (s.bank b).yields + 1 ∧ t.queued b = true ∧
        t.waits p = false ∧ ((s.pos p).ses.state = .pulsing → (t.pos p).ses.current = some b) ∧
        ((s.pos p).ses.state = .held → (t.pos p).ses.state = .fuelling ∧ (t.pos p).ses.staged = some b) ∧
        (∀ q : PosId, q ≠ p → t.pos q = s.pos q) ∧ s.SameSettings t ∧ t.holds = s.holds ∧ t.port = s.port) ∧
    ((∀ (head : WaitEntry) (rest : List WaitEntry), s.waitList = head :: rest →
        ¬(head.waited = true ∧ (s.bank b).tier ∈ head.tiers ∧ head.need ≤ v ∧ (s.bank b).yields < 2)) →
      ∃ t, exec (.sampleFrame [0x5A, 0, BitVec.ofNat 8 b.val, lo, hi, 0, check]) s = .next t ∧
        t = { s with
          link := t.link,
          banks := s.banks.set b { s.bank b with
            pressure := some v, belowLow := decide (v < (s.bank b).low),
            atHigh := decide ((s.bank b).high ≤ v) } })

/-- O23. The expiry of an entry's running yield wait timer marks the entry as having waited. At the head of the list
it also asks for a yield: of the REFILLING banks that can be yielded the one of lowest pressure, the lowest number
among equals, goes from its compressor, which is UNLOADING, to the head's position, SERVING, on the refill queue, with
one more yield counted; with none nothing more happens. That nothing happens where no such timer runs is the model's
choice (log 2). A pressure sample of a REFILLING bank that completes no refill yields the bank in the same way to a
head that has waited, if it can be yielded; else it sets pressure and flags alone (R53, R60, R61). -/
def Obligations.YieldWaitExpiryYieldsABank : Prop :=
  ∀ (p : PosId) (s : State),
    ((∀ e ∈ s.waitList, e.pos = p → e.yieldTimer = none) → exec (.yieldWaitExpiry p) s = .next s) ∧
    (∀ (head : WaitEntry) (rest : List WaitEntry), s.waitList = head :: rest →
      (∃ e ∈ s.waitList, e.pos = p ∧ e.yieldTimer.isSome = true) →
      (head.pos ≠ p ∨ ∀ (b : BankId) (v : Nat), ¬ CanYield s head b v) →
      exec (.yieldWaitExpiry p) s = .next { s with
        waitList := s.waitList.map (fun e => if e.pos = p then { e with yieldTimer := none, waited := true } else e) }) ∧
    (∀ (head : WaitEntry) (rest : List WaitEntry) (b : BankId) (v : Nat) (k : CompId), s.waitList = head :: rest →
      head.pos = p → head.yieldTimer.isSome = true → CanYield s head b v →
      (∀ (c : BankId) (u : Nat), CanYield s head c u → v < u ∨ (v = u ∧ b ≤ c)) →
      (s.bank b).claimant = some (.comp k) → (s.comp k).bank = some b →
      ((s.pos p).ses.state = .pulsing ∧ (s.pos p).ses.current = none) ∨
        ((s.pos p).ses.state = .held ∧
          (s.pos p).ses.causes = { noBank := true, precool := false, vehicle := false, host := false }) →
      ∃ t, exec (.yieldWaitExpiry p) s = .next t ∧
        t.comp k = { s.comp k with
          state := .unloading, bank := none, startTimer := none,
          unloadTimer := some ((s.comp k).unloadTime * 1000) } ∧
        (t.bank b).state = .serving ∧ (t.bank b).claimant = some (.pos p) ∧
        (t.bank b).yields = (s.bank b).yields + 1 ∧ t.queued b = true ∧ t.waits p = false ∧
        ((s.pos p).ses.state = .pulsing → (t.pos p).ses.current = some b ∧ (t.pos p).tmr.pulse = some 1000) ∧
        ((s.pos p).ses.state = .held → (t.pos p).ses.state = .fuelling ∧ (t.pos p).ses.staged = some b) ∧
        (∀ q : PosId, q ≠ p → t.pos q = s.pos q) ∧ s.SameSettings t ∧ t.holds = s.holds ∧ t.port = s.port ∧
        t.station = s.station) ∧
    PressureSampleYields p s

/-- O24. A write of the power allowance, 0 to 2,000 kW: a value at or below the present one that granted power fits
changes the field alone; a lower one sheds holders until granted power fits and raises N14: of two compressors in one
state the one with the lower refill priority first, K1 between equals, a RUNNING compressor only after every STARTING
one, a chiller only after every compressor, and, where no compressor held power, a loop with a FUELLING grant holder
only after one without, L1 before L0; a shed compressor is UNLOADING and its bank given back, a shed chiller waits for
power (that the order is judged anew after each holder is the model's choice, log 13). A raise serves the chillers
that wait, in order, and then an evaluation is made. Above the range the write is refused with RANGE (R45, R49 to R51,
R62, R63, R64). -/
def Obligations.AllowanceWriteSheds : Prop :=
  ∀ (a : Addr) (tail : Tail) (lo hi : Byte) (n : Nat) (s : State), a.Names .station s.port.window → tail.Whole 2 →
    tail.data = [lo, hi] → n = lo.toNat + 256 * hi.toNat →
    (2000 < n →
      exec (.powerAllowanceWrite a tail) s = .next (s.refusedWith (addrRequest a 2 0 6 tail) .range)) ∧
    (n ≤ s.station.allowance → n ≤ 2000 → s.granted ≤ n →
      exec (.powerAllowanceWrite a tail) s = .next { s.answered (addrRequest a 2 0 6 tail) with
        station := { s.station with allowance := n } }) ∧
    (s.station.allowance < n → n ≤ 2000 →
      (s.powerQueue = [] → ¬ Evaluates s →
        exec (.powerAllowanceWrite a tail) s = .next { s.answered (addrRequest a 2 0 6 tail) with
          station := { s.station with allowance := n } }) ∧
      ∃ t, exec (.powerAllowanceWrite a tail) s = .next t ∧ s.Taken t (addrRequest a 2 0 6 tail) ∧
        t.station = { s.station with allowance := n } ∧ t.positions = s.positions ∧ t.holds = s.holds ∧
        (∀ (l : LoopId) (rest : List LoopId), s.powerQueue = l :: rest → s.granted + (s.loop l).draw ≤ n →
          (t.loop l).chiller = .running) ∧
        (s.granted ≤ n → t.granted ≤ n) ∧
        EvaluationMade
          (ServedOrder { s.answered (addrRequest a 2 0 6 tail) with station := { s.station with allowance := n } })
          t) ∧
    (n ≤ s.station.allowance → n ≤ 2000 → n < s.granted →
      ∃ t, exec (.powerAllowanceWrite a tail) s = .next t ∧ s.Taken t (addrRequest a 2 0 6 tail) ∧
        t.station = { s.station with allowance := n } ∧ t.granted ≤ n ∧ t.requested 14 ∧
        (∀ k : CompId, (s.comp k).active = true →
          t.comp k = s.comp k ∨ ((t.comp k).state = .unloading ∧ (t.comp k).bank = none ∧
            (t.comp k).refills = (s.comp k).refills)) ∧
        (∀ (k : CompId) (b : BankId), (s.comp k).active = true → t.comp k ≠ s.comp k → (s.comp k).bank = some b →
          (s.bank b).claimant = some (.comp k) → (s.bank b).state = .refilling →
          (t.bank b).claimant ≠ some (.comp k) ∧ (t.bank b).yields = (s.bank b).yields ∧
          (s.waitList = [] → ¬ Evaluates s → (t.bank b).state = .ready ∧ t.queued b = true) ∧
          (s.waitList = [] → ¬ Evaluates s → s.QueueLaw → (∀ j : CompId, j ≠ k → t.comp j = s.comp j) →
            t.refillQueue = QueuedAtFront s { bank := b, stamp := s.station.clock })) ∧
        (∀ k j : CompId, (s.comp k).state = .starting → (s.comp j).state = .running → t.comp j ≠ s.comp j →
          (t.comp k).state = .unloading) ∧
        (∀ (l : LoopId) (k : CompId), (s.loop l).chiller = .running → t.loop l ≠ s.loop l →
          (t.loop l).chiller = .waitingPower ∧ l ∈ t.powerQueue ∧
          ((s.comp k).active = true → (t.comp k).state = .unloading)) ∧
        (∀ k j : CompId, (s.comp k).active = true → (s.comp j).state = (s.comp k).state → k ≠ j → t.comp k ≠ s.comp k →
          t.comp j = s.comp j → s.shedPriority k < s.shedPriority j ∨ (s.shedPriority k = s.shedPriority j ∧ k = 1)) ∧
        (∀ l m : LoopId, (∀ k : CompId, (s.comp k).active = false) → (s.loop l).chiller = .running →
          (s.loop m).chiller = .running → l ≠ m → t.loop l ≠ s.loop l → t.loop m = s.loop m →
          (s.hasFuellingHolder l = false ∧ s.hasFuellingHolder m = true) ∨
          (s.hasFuellingHolder l = s.hasFuellingHolder m ∧ l = 1)) ∧
        s.SameSettings t ∧ t.holds = s.holds)

/-! ### Precooling -/

/-- Grant holders of a loop in FUELLING, counted (R74). -/
def FuellingHolders (s : State) (l : LoopId) : Nat :=
  ((s.loop l).grants.filter (fun p => decide ((s.pos p).ses.state = .fuelling))).length

/-- The band for an outlet temperature and a reserve (R75). -/
def BandOf (outlet : Option Int) (reserve : Nat) : Band :=
  match outlet with
  | none => .lost
  | some x => if 0 < reserve ∧ x ≤ -330 then .cold else if 0 < reserve ∧ x ≤ -175 then .cool else .lost

/-- Positions a serving of the wait queue grants, at a band and a reserve (R78). -/
def GrantsAt (s : State) (l : LoopId) (band : Band) (reserve : Nat) : Nat :=
  if band = .cold ∧ (s.loop l).floor ≤ reserve then 2 - (s.loop l).grants.length else 0

/-- O25. A tick of a loop whose tick timer runs, in its four steps: the reserve rises by the recharge if the chiller
is RUNNING, falls by the consumption for each FUELLING holder, and stays within 0 and capacity, with N13 when it falls
to 0; the chiller claims, keeps or gives up its draw by the demand; the band follows outlet and reserve, the loss
count the band and the holders, and at 10 each FUELLING holder is HELD with cause PRECOOL and N13 is raised; a change
from LOST takes PRECOOL from each HELD holder that has it, which leaves HELD with its last cause; then the wait queue
is served from its head while the band is COLD, the reserve at the floor and fewer than two positions are granted. The
rest of the loop, the station and the holds stand. That there is no tick without a tick timer is the model's choice
(log 2), as are the snapshot and order in which holders are told (logs 12, 26) (R62, R72 to R78, R80). -/
def Obligations.PrecoolTickRunsTheLoop : Prop :=
  ∀ (l : LoopId) (s : State),
    ((s.loop l).tick = none → exec (.precoolTick l) s = .next s) ∧
    ((s.loop l).tick.isSome = true → s.WaitingOrder → s.LoopsInRange → ∀ (reserve : Nat) (band : Band) (n : Nat),
      reserve = min ((s.loop l).reserve + (if (s.loop l).chiller = .running then (s.loop l).recharge else 0) -
        (s.loop l).consumption * FuellingHolders s l) (s.loop l).capacity →
      band = BandOf (s.loop l).outlet reserve → n = GrantsAt s l band reserve →
      ∃ t, exec (.precoolTick l) s = .next t ∧
        t.loop l = { s.loop l with
          reserve := reserve, band := band, chiller := (t.loop l).chiller,
          loss :=
            if band ≠ .lost then 0
            else if FuellingHolders s l = 0 then (s.loop l).loss else min 10 ((s.loop l).loss + 1),
          grants := (s.loop l).grants ++ (s.loop l).queue.take n, queue := (s.loop l).queue.drop n } ∧
        (0 < (s.loop l).reserve → reserve = 0 → t.requested 13) ∧
        ((s.loop l).chiller = .off →
          (reserve ≤ (s.loop l).capacity * 9 / 10 ∨ (s.loop l).grants ≠ [] ∨ (s.loop l).queue ≠ []) →
          (s.granted + (s.loop l).draw ≤ s.station.allowance → (t.loop l).chiller = .running) ∧
          (s.station.allowance < s.granted + (s.loop l).draw →
            (t.loop l).chiller = .waitingPower ∧ t.powerQueue = s.powerQueue ++ [l])) ∧
        ((s.loop l).chiller = .off → (s.loop l).capacity * 9 / 10 < reserve → (s.loop l).grants = [] →
          (s.loop l).queue = [] → (t.loop l).chiller = .off) ∧
        ((s.loop l).chiller ≠ .off →
          (reserve = (s.loop l).capacity ∧ (s.loop l).grants = [] ∧ (s.loop l).queue = [] →
            (t.loop l).chiller = .off ∧ l ∉ t.powerQueue) ∧
          (¬(reserve = (s.loop l).capacity ∧ (s.loop l).grants = [] ∧ (s.loop l).queue = []) →
            (t.loop l).chiller = (s.loop l).chiller)) ∧
        (∀ p ∈ (s.loop l).grants, band = .lost → 9 ≤ (s.loop l).loss → (s.pos p).ses.state = .fuelling →
          (t.pos p).ses.state = .held ∧ (t.pos p).ses.causes.precool = true ∧ t.requested 13) ∧
        (∀ p ∈ (s.loop l).grants, band ≠ (s.loop l).band → (t.pos p).ses.band = band) ∧
        (∀ p ∈ (s.loop l).grants, band ≠ .lost → (s.loop l).band = .lost → (s.pos p).ses.state = .held →
          (s.pos p).ses.causes.precool = true →
          ((s.pos p).ses.causes.noBank = true ∨ (s.pos p).ses.causes.vehicle = true ∨
              (s.pos p).ses.causes.host = true →
            (t.pos p).ses.state = .held ∧ (t.pos p).ses.causes = { (s.pos p).ses.causes with precool := false } ∧
            (t.pos p).tmr.held = (s.pos p).tmr.held) ∧
          ((s.pos p).ses.causes = { noBank := false, precool := true, vehicle := false, host := false } →
            ((t.pos p).ses.state = .fuelling ∧ (t.pos p).ses.staged.isSome = true ∧
              (t.pos p).ses.causes = { noBank := false, precool := false, vehicle := false, host := false } ∧
              (t.pos p).tmr.held = none ∧ (t.pos p).tmr.ramp = some 1000) ∨
            ((t.pos p).ses.state = .held ∧ t.waits p = true ∧ (t.pos p).tmr.held = some 120000 ∧
              (t.pos p).ses.causes = { noBank := true, precool := false, vehicle := false, host := false }))) ∧
        (∀ p ∈ (s.loop l).grants, band ≠ .lost → (s.loop l).band ≠ .lost ∨ (s.pos p).ses.causes.precool = false →
          (s.pos p).ses.state = .held → (t.pos p).ses.state = .held ∧ (t.pos p).ses.causes = (s.pos p).ses.causes) ∧
        (∀ p ∈ (s.loop l).queue.take n, (t.pos p).ses.band = .cold ∧
          ((s.pos p).ses.state = .cooling → (t.pos p).ses.state = .pulsing)) ∧
        (∀ m : LoopId, m ≠ l → t.loop m = { s.loop m with chiller := (t.loop m).chiller }) ∧
        t.station = s.station ∧ t.holds = s.holds ∧ t.port = s.port ∧ s.SameSettings t)

/-! ### Sessions -/

/-- What the coupling of a position's session does, from `s` to `t` (R92, R94). -/
def Coupled (s t : State) (p : PosId) : Prop :=
  (t.pos p).ses.coupledStamp = some s.station.clock ∧ (t.pos p).tmr.connect = none ∧
  ((s.pos p).ses.hose = none →
    (t.pos p).ses.state = .venting ∧ (t.pos p).ses.endReason = some .sensor ∧ (t.pos p).ses.vent = .opened ∧
    t.waits p = false) ∧
  (∀ hose : Nat, (s.pos p).ses.hose = some hose → (s.pos p).cfg.precool = false →
    (t.pos p).ses.state = .pulsing ∧
    (∀ b : BankId, s.select (hose + s.station.switchMargin) (s.pos p).cfg.cls.tiers = some b →
      (t.pos p).ses.current = some b ∧ (t.pos p).ses.supply = some b ∧ (t.pos p).ses.control = .opened ∧
      (t.pos p).tmr.pulse = some 1000 ∧ (t.bank b).state = .serving ∧
      (t.bank b).claimant = some (.pos p)) ∧
    (s.select (hose + s.station.switchMargin) (s.pos p).cfg.cls.tiers = none →
      (t.pos p).ses.current = none ∧ (t.pos p).tmr.bankWait = some 60000 ∧ t.waits p = true)) ∧
  (∀ (hose : Nat) (l : LoopId), (s.pos p).ses.hose = some hose → (s.pos p).cfg.precool = true →
    (s.pos p).cfg.loop = some l → p ∉ (s.loop l).grants → p ∉ (s.loop l).queue →
    (((s.loop l).band ≠ .cold ∨ (s.loop l).reserve < (s.loop l).floor ∨ 2 ≤ (s.loop l).grants.length) →
      (t.pos p).ses.state = .cooling ∧ (t.pos p).tmr.cooling = some 300000 ∧
      (t.loop l).queue = (s.loop l).queue ++ [p] ∧ (t.loop l).grants = (s.loop l).grants) ∧
    ((s.loop l).band = .cold → (s.loop l).floor ≤ (s.loop l).reserve → (s.loop l).grants.length < 2 →
      (s.loop l).queue = [] →
      (t.pos p).ses.state = .pulsing ∧ (t.pos p).tmr.cooling = none ∧ (t.loop l).queue = [] ∧
      (t.loop l).grants = (s.loop l).grants ++ [p]))

/-- O26. A coupled arrival in AUTHORISED is the coupling: stamp, connect timer stopped; with the hose channel BAD the
session ends with SENSOR; without precooling it goes to PULSING with the selected bank, route and pulse, or to the
wait list; with precooling it asks its loop for a grant and is COOLING, or PULSING when granted at once. In any other
state only the level is recorded (R11, R79, R92, R93, R94). -/
def Obligations.CoupledArrivalIsTheCoupling : Prop :=
  ∀ (p : PosId) (s : State),
    ((s.pos p).ses.state ≠ .authorised →
      exec (.coupledArrival p) s = .next { s with station := { s.station with
        inputs := { s.station.inputs with coupled := s.station.inputs.coupled.set p true } } }) ∧
    ((s.pos p).ses.state = .authorised → (s.pos p).ses.current = none → (s.pos p).ses.staged = none →
      s.waits p = false →
      ∃ t, exec (.coupledArrival p) s = .next t ∧ Coupled s t p ∧
        t.station = { s.station with
          inputs := { s.station.inputs with coupled := s.station.inputs.coupled.set p true } } ∧
        t.holds = s.holds ∧ t.port = s.port ∧ s.SameSettings t)

/-- The price of a plan for a class (R149). -/
def PriceFor (s : State) (h : HoldId) (cls : PosClass) : Nat :=
  if cls = .bus35 then (s.plan (s.hold h).plan).bus35 else (s.plan (s.hold h).plan).car70

/-- The hold as a bind to a position leaves it (R149, R150). -/
def BoundTo (s : State) (h : HoldId) (p : PosId) : Hold :=
  { s.hold h with
    state := .bound, position := some p, price := some (PriceFor s h (s.pos p).cfg.cls),
    massCeiling := some (massCeilingOf (s.hold h).kind (s.hold h).limit (PriceFor s h (s.pos p).cfg.cls)),
    mark := 0, conditioning := 0, sold := 0, overrun := 0, amount := 0, bindStamp := some s.station.clock }

/-- The session fields at AUTHORISE (R89). -/
def AuthorisedSession (x : Session) (h : HoldId) (cls : PosClass) : Session :=
  { x with
    state := .authorised, boundHold := some h, lastHold := some h, rateLimit := 500, pendingRate := none, target := 0,
    ceiling := 0, effRate := 0, initial := 0, steps := 0, cursor := if cls = .bus35 then .t1 else .t2,
    causes := { noBank := false, precool := false, vehicle := false, host := false }, mode := none,
    endReason := none, coupledStamp := none, fuelStamp := none, endStamp := none, current := none, staged := none,
    vehicle := none, taper := false }

/-- A position an AUTHORISE may start: of a class, with its session IDLE (R91). -/
def Startable (s : State) (p : PosId) : Prop :=
  ((s.pos p).cfg.cls = .bus35 ∨ (s.pos p).cfg.cls = .car70) ∧ (s.pos p).ses.state = .idle

/-- O27. AUTHORISE in SERVICE and RUNNING, on an IDLE position of a class, with an OPEN hold whose permit covers the
class: the hold is BOUND with price, mass ceiling and stamp and zeroed masses, the session fields are set anew, the
metered mass is 0, and the connect timer starts at 180 s, or the coupling follows at once if COUPLED is true.
AUTHORISE is refused, in this order, with PHASE in SETUP, with HALTED while HALTED, with STATE when the class is
UNUSED, the session is not IDLE or the hold is FREE or SETTLED, with BUSY when the hold is BOUND, and with RANGE when
the hold number is above 31 or the permit does not cover the class (R89, R91, R92, R149). -/
def Obligations.AuthoriseBindsOrIsRefused : Prop :=
  (∀ (p : PosId) (h : HoldId) (a : Addr) (tail : Tail) (n : Byte) (s : State), a.Names (.position p) s.port.window →
    tail.Whole 1 → tail.data = [n] → n.toNat = h.val → s.station.phase = .service → s.station.halt = .running →
    Startable s p → (s.hold h).state = .opened →
    ((s.hold h).permit = .either ∨ ((s.hold h).permit = .bus35 ∧ (s.pos p).cfg.cls = .bus35) ∨
      ((s.hold h).permit = .car70 ∧ (s.pos p).cfg.cls = .car70)) →
    (s.station.inputs.coupled.get p = false →
      exec (.authorise a tail) s = .next { s.answered (addrRequest a 3 4 0 tail) with
        holds := s.holds.set h (BoundTo s h p),
        positions := s.positions.set p { s.pos p with
          ses := AuthorisedSession (s.pos p).ses h (s.pos p).cfg.cls,
          tmr := { (s.pos p).tmr with connect := some 180000 },
          meter := { (s.pos p).meter with metered := 0 } } }) ∧
    (s.station.inputs.coupled.get p = true → s.waits p = false →
      ∃ t, exec (.authorise a tail) s = .next t ∧ s.Taken t (addrRequest a 3 4 0 tail) ∧ Coupled s t p ∧
        t.hold h = BoundTo s h p ∧ (∀ g : HoldId, g ≠ h → t.hold g = s.hold g) ∧
        (t.pos p).ses.boundHold = some h ∧ (t.pos p).ses.lastHold = some h ∧ (t.pos p).meter.metered = 0 ∧
        t.station = s.station ∧ s.SameSettings t)) ∧
  (∀ (p : PosId) (a : Addr) (tail : Tail) (n : Byte) (s : State), a.Names (.position p) s.port.window →
    tail.Whole 1 → tail.data = [n] →
    (s.station.phase = .setup →
      exec (.authorise a tail) s = .next (s.refusedWith (addrRequest a 3 4 0 tail) .phase)) ∧
    (s.station.phase = .service → s.station.halt = .halted →
      exec (.authorise a tail) s = .next (s.refusedWith (addrRequest a 3 4 0 tail) .halted)) ∧
    (s.station.phase = .service → s.station.halt = .running →
      (¬ Startable s p ∨ ∃ h : HoldId, h.val = n.toNat ∧ ((s.hold h).state = .free ∨ (s.hold h).state = .settled)) →
      exec (.authorise a tail) s = .next (s.refusedWith (addrRequest a 3 4 0 tail) .state)) ∧
    (∀ h : HoldId, s.station.phase = .service → s.station.halt = .running → Startable s p → h.val = n.toNat →
      (s.hold h).state = .bound →
      exec (.authorise a tail) s = .next (s.refusedWith (addrRequest a 3 4 0 tail) .busy)) ∧
    (s.station.phase = .service → s.station.halt = .running → Startable s p →
      (31 < n.toNat ∨ ∃ h : HoldId, h.val = n.toNat ∧ (s.hold h).state = .opened ∧
        (((s.hold h).permit = .bus35 ∧ (s.pos p).cfg.cls = .car70) ∨
          ((s.hold h).permit = .car70 ∧ (s.pos p).cfg.cls = .bus35))) →
      exec (.authorise a tail) s = .next (s.refusedWith (addrRequest a 3 4 0 tail) .range)))

/-- What every end of a fill leaves beside the position itself. -/
def EndFrame (s t : State) (p : PosId) : Prop :=
  t.holds = s.holds ∧ s.SameSettings t ∧ (t.pos p).meter.metered = (s.pos p).meter.metered ∧
  (∀ b : BankId, (s.pos p).ses.names b → (s.bank b).claimant = some (.pos p) → (s.bank b).state = .serving →
    (t.bank b).claimant ≠ some (.pos p)) ∧
  (∀ l : LoopId, (s.pos p).cfg.loop = some l → p ∉ (t.loop l).grants ∧ p ∉ (t.loop l).queue) ∧
  ∀ c : Channel, t.reading c = s.reading c

/-- The end reason of a held timeout, from the causes present (R99). -/
def HeldTimeoutReason (c : Causes) (r : EndReason) : Prop :=
  (c.precool = true → r = .precoolLost) ∧
  (c.precool = false → c.noBank = true → r = .noSupply) ∧
  (c.precool = false → c.noBank = false → c.vehicle = true → r = .vehicleHalt) ∧
  (c.precool = false → c.noBank = false → c.vehicle = false → c.host = true → r = .heldTimeout)

/-- O28. An uncoupled arrival ends a session in COOLING to HELD with UNCOUPLED; the cooling timeout ends COOLING with
PRECOOL_TIMEOUT, the bank wait timeout PULSING with NO_SUPPLY, the held timeout HELD with the reason its causes give,
the stall timer's expiry FUELLING with STALL and the flow 0, and STOP any of them with HOST_STOP. An end releases the
banks named and the grant or place in the loop, empties the wait-list entry, stops every timer and vents (R81, R82,
R95, R99, R101, R103, R145). -/
def Obligations.EventsEndTheFill : Prop :=
  ∀ (p : PosId) (s : State), s.BankNaming → s.LoopsInRange →
    ((s.pos p).ses.state.live = true →
      ∃ t, exec (.uncoupledArrival p) s = .next t ∧ s.FillEnded t p .uncoupled ∧ EndFrame s t p ∧ t.port = s.port ∧
        t.station = { s.station with
          inputs := { s.station.inputs with coupled := s.station.inputs.coupled.set p false } }) ∧
    ((s.pos p).ses.state = .cooling → (s.pos p).tmr.cooling.isSome = true →
      ∃ t, exec (.coolingTimeout p) s = .next t ∧ s.FillEnded t p .precoolTimeout ∧ EndFrame s t p ∧
        t.port = s.port ∧ t.station = s.station) ∧
    ((s.pos p).ses.state = .pulsing → (s.pos p).tmr.bankWait.isSome = true →
      ∃ t, exec (.bankWaitTimeout p) s = .next t ∧ s.FillEnded t p .noSupply ∧ EndFrame s t p ∧
        t.port = s.port ∧ t.station = s.station) ∧
    ((s.pos p).ses.state = .held → (s.pos p).tmr.held.isSome = true →
      ∃ (t : State) (r : EndReason), exec (.heldTimerExpiry p) s = .next t ∧
        HeldTimeoutReason (s.pos p).ses.causes r ∧ s.FillEnded t p r ∧ EndFrame s t p ∧ t.port = s.port ∧
        t.station = s.station) ∧
    ((s.pos p).ses.state = .fuelling → (s.pos p).tmr.stall.isSome = true →
      ∃ t, exec (.stallTimerExpiry p) s = .next t ∧ s.FillEnded t p .stall ∧ EndFrame s t p ∧
        (t.pos p).meter.flow = 0 ∧ t.port = s.port ∧ t.station = s.station) ∧
    (∀ (a : Addr) (tail : Tail), a.Names (.position p) s.port.window → tail.Whole 0 →
      (s.pos p).ses.state.live = true →
      ∃ t, exec (.stop a tail) s = .next t ∧ s.Taken t (addrRequest a 3 4 1 tail) ∧ s.FillEnded t p .hostStop ∧
        EndFrame s t p ∧ t.station = s.station)

/-- The position as an entry to IDLE leaves it: its session cleared but for what stays readable, no timer running, a
vehicle frame in the making marked to be discarded (R89, R126). -/
def EnteredIdle (x : Position) : Position :=
  { x with
    ses := { x.ses with
      state := .idle, boundHold := none, mode := none, pendingRate := none, effRate := 0, current := none,
      staged := none, causes := { noBank := false, precool := false, vehicle := false, host := false },
      vehicle := none, supply := none, control := .closed, vent := .closed, taper := false },
    tmr :=
      { connect := none, cooling := none, bankWait := none, pulse := none, check := none, held := none, vent := none,
        ramp := none, freshness := none, deferral := none, stall := none },
    rx := x.rx.map (fun f => { f with doomed := true }) }

/-- The hold as an unbind leaves it (R152). -/
def Unbound (k : Hold) : Hold :=
  { k with
    state := .opened, price := none, massCeiling := none, position := none, bindStamp := none, mark := 0,
    conditioning := 0, sold := 0, overrun := 0, amount := 0 }

/-- The route of a session is closed. -/
def RouteClosed (x : Session) : Prop := x.supply = none ∧ x.control = .closed ∧ x.vent = .closed

/-- O29. In AUTHORISED the expiry of the connect timer and STOP both unbind the hold, which is OPEN again without
price, ceiling and masses, and make the session IDLE; the expiry also raises the position's notice. Nothing else
changes. Where there is no fill to end nothing ends: an uncoupled arrival in IDLE, AUTHORISED, VENTING or DONE records
the level only; an expiry of a timer that does not run, or comes in another state than its own, changes nothing; STOP
in IDLE, VENTING or DONE is refused with STATE (R89, R92, R101, R103, R152; the expiries are the model's reading, log
2). -/
def Obligations.WhereNoFillEnds : Prop :=
  (∀ (p : PosId) (h : HoldId) (s : State), (s.pos p).ses.state = .authorised → (s.pos p).ses.boundHold = some h →
    RouteClosed (s.pos p).ses →
    ((s.pos p).tmr.connect.isSome = true →
      exec (.connectTimeout p) s = .next { s with
        holds := s.holds.set h (Unbound (s.hold h)), positions := s.positions.set p (EnteredIdle (s.pos p)),
        notices := s.notices.raise (2 + p.val) }) ∧
    (∀ (a : Addr) (tail : Tail), a.Names (.position p) s.port.window → tail.Whole 0 →
      exec (.stop a tail) s = .next { s.answered (addrRequest a 3 4 1 tail) with
        holds := s.holds.set h (Unbound (s.hold h)), positions := s.positions.set p (EnteredIdle (s.pos p)) })) ∧
  (∀ (p : PosId) (s : State),
    ((s.pos p).ses.state.live = false →
      exec (.uncoupledArrival p) s = .next { s with station := { s.station with
        inputs := { s.station.inputs with coupled := s.station.inputs.coupled.set p false } } }) ∧
    ((s.pos p).tmr.cooling = none ∨ (s.pos p).ses.state ≠ .cooling → exec (.coolingTimeout p) s = .next s) ∧
    ((s.pos p).tmr.bankWait = none ∨ (s.pos p).ses.state ≠ .pulsing → exec (.bankWaitTimeout p) s = .next s) ∧
    ((s.pos p).tmr.held = none ∨ (s.pos p).ses.state ≠ .held → exec (.heldTimerExpiry p) s = .next s) ∧
    ((s.pos p).tmr.stall = none ∨ (s.pos p).ses.state ≠ .fuelling → exec (.stallTimerExpiry p) s = .next s) ∧
    ((s.pos p).tmr.pulse = none ∨ (s.pos p).ses.state ≠ .pulsing → exec (.pulseTimerExpiry p) s = .next s) ∧
    ((s.pos p).tmr.check = none ∨ (s.pos p).ses.state ≠ .checking → exec (.checkWindowExpiry p) s = .next s) ∧
    ((s.pos p).tmr.vent = none ∨ (s.pos p).ses.state ≠ .venting → exec (.ventTimerExpiry p) s = .next s) ∧
    ((s.pos p).tmr.ramp = none ∨ (s.pos p).ses.state ≠ .fuelling → exec (.rampTick p) s = .next s) ∧
    ((s.pos p).tmr.connect = none ∨ (s.pos p).ses.state ≠ .authorised → exec (.connectTimeout p) s = .next s) ∧
    (∀ (a : Addr) (tail : Tail), a.Names (.position p) s.port.window → tail.Whole 0 →
      (s.pos p).ses.state = .idle ∨ (s.pos p).ses.state = .venting ∨ (s.pos p).ses.state = .done →
      exec (.stop a tail) s = .next (s.refusedWith (addrRequest a 3 4 1 tail) .state)))

/-- O30. At the expiry of the pulse timer the supply bank and the control valve are closed, the current bank is
released, and the session is CHECKING with the hose pressure as its initial pressure and the check window at 5 s; the
released bank goes to the oldest eligible entry of the wait list, else it is READY, or REFILLING where an evaluation
gives it to a compressor; every other session but one eligible for the bank, the holds and the station stand (R32,
R37, R95). -/
def Obligations.PulseEndsInTheCheck : Prop :=
  ∀ (p : PosId) (b : BankId) (hose : Nat) (s : State), s.BankNaming → (s.pos p).ses.state = .pulsing →
    (s.pos p).tmr.pulse.isSome = true → (s.pos p).ses.current = some b → (s.pos p).ses.hose = some hose →
    ∃ t, exec (.pulseTimerExpiry p) s = .next t ∧
      t.pos p = { s.pos p with
        ses := { (s.pos p).ses with
          state := .checking, initial := hose, current := none, supply := none, control := .closed },
        tmr := { (s.pos p).tmr with pulse := none, check := some 5000, stall := none } } ∧
      ((s.bank b).claimant = some (.pos p) → (s.bank b).state = .serving →
        (t.bank b).claimant ≠ some (.pos p) ∧
        (∀ q : PosId, q ≠ p → (∀ e ∈ s.waitList, e.pos = q → ¬ EligibleFor s b e) → t.pos q = s.pos q) ∧
        ((∀ e ∈ s.waitList, ¬ EligibleFor s b e) → t.positions = s.positions.set p (t.pos p) ∧
          t.waitList = s.waitList ∧
          ((t.bank b).state = .ready ∨ ((t.bank b).state = .refilling ∧ Evaluates s)) ∧
          (¬ Evaluates s → (t.bank b).state = .ready ∧ (t.bank b).leakRef = (s.bank b).pressure)) ∧
        (∀ (older younger : List WaitEntry) (e : WaitEntry), s.waitList = older ++ e :: younger →
          (∀ x ∈ older, ¬ EligibleFor s b x) → EligibleFor s b e → (s.pos e.pos).ses.state = .pulsing →
          (t.bank b).state = .serving ∧ (t.bank b).claimant = some (.pos e.pos) ∧
          (t.pos e.pos).ses.current = some b ∧ t.waitList = s.waitList.filter (fun x => x.pos != e.pos) ∧
          ∀ q : PosId, q ≠ p → q ≠ e.pos → t.pos q = s.pos q)) ∧
      t.holds = s.holds ∧ t.station = s.station ∧ t.port = s.port ∧ s.SameSettings t

/-- The cell of the non-comm target table for a class at the present ambient temperature (R138). -/
def NoncommTarget (s : State) (cls : PosClass) (v : Nat) : Prop :=
  ∃ i : Fin 5,
    (s.station.ambient = none → i = 4) ∧
    (∀ x : Int, s.station.ambient = some x →
      (x ≤ 0 → i = 0) ∧ (0 < x → x ≤ 150 → i = 1) ∧ (150 < x → x ≤ 300 → i = 2) ∧ (300 < x → x ≤ 400 → i = 3) ∧
      (400 < x → i = 4)) ∧
    (cls = .car70 → s.targetTable.toList[i.val]? = some v) ∧
    (cls = .bus35 → s.targetTable.toList[5 + i.val]? = some v)

/-- The conditions under which the receiver decides COMM (R131). -/
def DecidesComm (s : State) (p : PosId) : Prop :=
  (s.pos p).cfg.receiver = true ∧ (s.pos p).tmr.freshness.isSome = true ∧
  ∃ g, (s.pos p).ses.vehicle = some g ∧ g.command ≠ .abort

/-- O31. The expiry of the check window judges the hose: more than 0.50 MPa below the initial pressure it ends the
fill with LEAK, else below 0.50 MPa with LOW_START; else the mode is COMM or NONCOMM as the vehicle data say, the
target is the class maximum or the non-comm table's, and at or above it the fill ends with FULL_PRESSURE. Otherwise
the mark takes the metered mass, the ceiling the lesser of initial pressure and target, the fuel stamp the clock, and
selection runs from the tier cursor: a bank found is staged in FUELLING with the ramp tick running; with none, or with
a vehicle that asks to halt in COMM, the session is HELD (R96, R115, R117, R118, R131, R138). -/
def Obligations.CheckWindowDecidesTheFill : Prop :=
  ∀ (p : PosId) (hose : Nat) (h : HoldId) (s : State), s.BankNaming → s.LoopsInRange →
    (s.pos p).ses.state = .checking → (s.pos p).tmr.check.isSome = true → (s.pos p).ses.hose = some hose →
    (s.pos p).ses.boundHold = some h →
    (hose + 50 < (s.pos p).ses.initial →
      ∃ t, exec (.checkWindowExpiry p) s = .next t ∧ s.FillEnded t p .leak ∧ EndFrame s t p) ∧
    ((s.pos p).ses.initial ≤ hose + 50 → hose < 50 →
      ∃ t, exec (.checkWindowExpiry p) s = .next t ∧ s.FillEnded t p .lowStart ∧ EndFrame s t p) ∧
    (∀ (mode : Mode) (target : Nat), (s.pos p).ses.initial ≤ hose + 50 → 50 ≤ hose →
      (mode = .comm ↔ DecidesComm s p) →
      ((s.pos p).cfg.cls = .bus35 ∨ (s.pos p).cfg.cls = .car70) →
      (mode = .comm → target = if (s.pos p).cfg.cls = .bus35 then 4375 else 8750) →
      (mode = .noncomm → NoncommTarget s (s.pos p).cfg.cls target) →
      (target ≤ hose →
        ∃ t, exec (.checkWindowExpiry p) s = .next t ∧ s.FillEnded t p .fullPressure ∧ EndFrame s t p ∧
          (t.pos p).ses.mode = some mode ∧ (t.pos p).ses.target = target) ∧
      (hose < target →
        ∃ t, exec (.checkWindowExpiry p) s = .next t ∧
          (t.pos p).ses.mode = some mode ∧ (t.pos p).ses.target = target ∧
          (t.pos p).ses.ceiling = min (s.pos p).ses.initial target ∧
          (t.pos p).ses.fuelStamp = some s.station.clock ∧ (t.pos p).tmr.check = none ∧
          t.holds = s.holds.set h { s.hold h with mark := (s.pos p).meter.metered } ∧
          t.station = s.station ∧ t.port = s.port ∧ s.SameSettings t ∧
          (∀ b : BankId,
            s.select (hose + s.station.switchMargin) ((s.pos p).cfg.cls.tiersFrom (s.pos p).ses.cursor) = some b →
            ¬(mode = .comm ∧ ∃ g, (s.pos p).ses.vehicle = some g ∧ g.command = .halt) →
            (t.pos p).ses.state = .fuelling ∧ (t.pos p).ses.staged = some b ∧
            (t.pos p).ses.cursor = (s.bank b).tier ∧ (t.pos p).tmr.ramp = some 1000 ∧
            (t.bank b).state = .serving ∧ (t.bank b).claimant = some (.pos p)) ∧
          (s.select (hose + s.station.switchMargin) ((s.pos p).cfg.cls.tiersFrom (s.pos p).ses.cursor) = none →
            (t.pos p).ses.state = .held ∧ (t.pos p).ses.causes.noBank = true ∧ t.waits p = true ∧
            (t.pos p).tmr.held = some 120000 ∧ (t.pos p).tmr.ramp = none ∧
            ((mode = .comm ∧ ∃ g, (s.pos p).ses.vehicle = some g ∧ g.command = .halt) →
              (t.pos p).ses.causes.vehicle = true)) ∧
          (∀ b : BankId,
            s.select (hose + s.station.switchMargin) ((s.pos p).cfg.cls.tiersFrom (s.pos p).ses.cursor) = some b →
            (mode = .comm ∧ ∃ g, (s.pos p).ses.vehicle = some g ∧ g.command = .halt) →
            (t.pos p).ses.state = .held ∧ (t.pos p).ses.causes.vehicle = true ∧ (t.pos p).ses.staged = none ∧
            (t.pos p).tmr.held = some 120000 ∧ (t.bank b).claimant ≠ some (.pos p))))

/-! ### Ramp, pause, vent -/

/-- The band rate of a position: the ramp table's cell for its class, precooling and reported band (R109, R111). -/
def BandRate (s : State) (p : PosId) (v : Nat) : Prop :=
  ((s.pos p).cfg.cls = .car70 ∧ (s.pos p).cfg.precool = true ∧
    s.rampTable.toList[(s.pos p).ses.band.column]? = some v) ∨
  ((s.pos p).cfg.cls = .bus35 ∧ (s.pos p).cfg.precool = true ∧
    s.rampTable.toList[3 + (s.pos p).ses.band.column]? = some v) ∨
  ((s.pos p).cfg.cls = .bus35 ∧ (s.pos p).cfg.precool = false ∧ s.rampTable.toList[6]? = some v)

/-- The effective rate from the band rate, the active rate limit, the mode and the taper indication (R111). -/
def EffectiveRate (band limit : Nat) (noncomm taper : Bool) : Nat :=
  let capped := min band limit
  let derated := if noncomm = true then capped * 3 / 4 else capped
  if taper = true then (if derated / 2 = 0 ∧ band ≠ 0 then 1 else derated / 2) else derated

/-- The control valve and stall timer of a FUELLING session after a judgement (R114, R144). -/
def JudgedValve (opened : Bool) (window : Nat) (before after : Position) : Prop :=
  (opened = true →
    after.ses.control = .opened ∧
    (before.ses.control = .closed → after.tmr.stall = some (window * 1000)) ∧
    (before.ses.control = .opened → after.tmr.stall = before.tmr.stall)) ∧
  (opened = false → after.ses.control = .closed ∧ after.tmr.stall = none)

/-- O32. A ramp tick of a FUELLING session: the pending rate limit becomes active, the effective rate follows the ramp
table, the limit, the mode and the taper, the ceiling rises by it up to the target, a staged bank becomes current and
routed, and the valve is OPEN exactly with a current bank and a hose below the ceiling. Nothing but that position and
a route frame changes (R107, R108, R111, R113, R114, R144). -/
def Obligations.RampTickRaisesTheCeiling : Prop :=
  ∀ (p : PosId) (hose band rate : Nat) (s : State), (s.pos p).ses.state = .fuelling →
    (s.pos p).tmr.ramp.isSome = true → (s.pos p).ses.hose = some hose → BandRate s p band →
    rate = EffectiveRate band ((s.pos p).ses.pendingRate.getD (s.pos p).ses.rateLimit)
      (decide ((s.pos p).ses.mode = some .noncomm)) (s.pos p).ses.taper →
    ∃ t, exec (.rampTick p) s = .next t ∧
      t = { s with positions := s.positions.set p (t.pos p), link := t.link } ∧
      t.pos p = { s.pos p with
        ses := { (s.pos p).ses with
          rateLimit := (s.pos p).ses.pendingRate.getD (s.pos p).ses.rateLimit, pendingRate := none, effRate := rate,
          ceiling := min ((s.pos p).ses.ceiling + rate) (s.pos p).ses.target,
          current := if (s.pos p).ses.staged.isSome = true then (s.pos p).ses.staged else (s.pos p).ses.current,
          supply := if (s.pos p).ses.staged.isSome = true then (s.pos p).ses.staged else (s.pos p).ses.supply,
          staged := none, control := (t.pos p).ses.control },
        tmr := { (s.pos p).tmr with stall := (t.pos p).tmr.stall } } ∧
      JudgedValve (decide ((t.pos p).ses.current.isSome = true ∧ hose < (t.pos p).ses.ceiling)) s.station.stallWindow
        (s.pos p) (t.pos p)

/-- A session put on HELD from FUELLING: route closed, no bank named, held timer at 120 s, no ramp tick, no stall
timer, its ceiling kept (R97). -/
def PutOnHold (s t : State) (p : PosId) (causes : Causes) : Prop :=
  t.pos p = { s.pos p with
    ses := { (s.pos p).ses with
      state := .held, causes := causes, current := none, staged := none, supply := none, control := .closed },
    tmr := { (s.pos p).tmr with ramp := none, held := some 120000, stall := none } }

/-- The departure of a HELD session when its last cause, not an offer's, is removed (R98): a bank found is staged in
FUELLING with the ramp tick started, else the session waits, HELD with NO_BANK and the held timer started anew. -/
def LeftHeld (s t : State) (p : PosId) (hose : Nat) : Prop :=
  (t.pos p).ses.ceiling = min hose (s.pos p).ses.target ∧
  (∀ b : BankId,
    s.select (hose + s.station.switchMargin) ((s.pos p).cfg.cls.tiersFrom (s.pos p).ses.cursor) = some b →
    (t.pos p).ses.state = .fuelling ∧
    (t.pos p).ses.causes = { noBank := false, precool := false, vehicle := false, host := false } ∧
    (t.pos p).ses.staged = some b ∧ (t.pos p).ses.cursor = (s.bank b).tier ∧ (t.pos p).tmr.held = none ∧
    (t.pos p).tmr.ramp = some 1000 ∧ (t.bank b).state = .serving ∧ (t.bank b).claimant = some (.pos p)) ∧
  (s.select (hose + s.station.switchMargin) ((s.pos p).cfg.cls.tiersFrom (s.pos p).ses.cursor) = none →
    (t.pos p).ses.state = .held ∧
    (t.pos p).ses.causes = { noBank := true, precool := false, vehicle := false, host := false } ∧
    (t.pos p).tmr.held = some 120000 ∧ t.waits p = true ∧ t.banks = s.banks) ∧
  (∀ q : PosId, q ≠ p → t.pos q = s.pos q) ∧ t.holds = s.holds ∧ t.station = s.station ∧ t.loops = s.loops ∧
  t.comps = s.comps

/-- O33. PAUSE puts a FUELLING session on HELD with cause HOST and is refused with STATE otherwise. CONTINUE removes
HOST from a HELD session that has it: with another cause left the set alone changes, else the session leaves HELD; it
is refused with STATE otherwise (R97, R98, R100). -/
def Obligations.PauseAndContinue : Prop :=
  ∀ (p : PosId) (a : Addr) (tail : Tail) (s : State), a.Names (.position p) s.port.window → tail.Whole 0 →
    ((s.pos p).ses.state = .fuelling → s.BankNaming →
      ∃ t, exec (.pause a tail) s = .next t ∧ s.Taken t (addrRequest a 3 4 2 tail) ∧
        PutOnHold s t p { (s.pos p).ses.causes with host := true } ∧ t.holds = s.holds ∧ t.station = s.station ∧
        s.SameSettings t) ∧
    ((s.pos p).ses.state ≠ .fuelling →
      exec (.pause a tail) s = .next (s.refusedWith (addrRequest a 3 4 2 tail) .state)) ∧
    ((s.pos p).ses.state = .held → (s.pos p).ses.causes.host = true →
      ((s.pos p).ses.causes.noBank = true ∨ (s.pos p).ses.causes.precool = true ∨
        (s.pos p).ses.causes.vehicle = true) →
      exec (.continue_ a tail) s = .next { s.answered (addrRequest a 3 4 3 tail) with
        positions := s.positions.set p { s.pos p with
          ses := { (s.pos p).ses with causes := { (s.pos p).ses.causes with host := false } } } }) ∧
    (∀ hose : Nat, (s.pos p).ses.state = .held →
      (s.pos p).ses.causes = { noBank := false, precool := false, vehicle := false, host := true } →
      (s.pos p).ses.hose = some hose →
      ∃ t, exec (.continue_ a tail) s = .next t ∧ s.Taken t (addrRequest a 3 4 3 tail) ∧ LeftHeld s t p hose) ∧
    (¬((s.pos p).ses.state = .held ∧ (s.pos p).ses.causes.host = true) →
      exec (.continue_ a tail) s = .next (s.refusedWith (addrRequest a 3 4 3 tail) .state))

/-- The reasons of the station-fault class (R104). -/
def StationFault (r : EndReason) : Bool :=
  decide (r ∈ [.noSupply, .precoolTimeout, .precoolLost, .stall, .sensor, .leak, .lowStart, .stationHalt, .cleared,
    .heldTimeout])

/-- The hold as its settlement with a reason leaves it; a sale at or below the grace mass is rolled back for a station
fault (R153). -/
def SettledWith (k : Hold) (r : EndReason) (grace : Nat) (clock : Clock) : Hold :=
  if StationFault r = true ∧ k.sold ≤ grace then
    { k with
      state := .settled, endReason := some r, settleStamp := some clock, conditioning := k.conditioning + k.sold,
      sold := 0, amount := 0 }
  else { k with state := .settled, endReason := some r, settleStamp := some clock }

/-- O34. The expiry of the vent timer closes the vent, settles the bound hold under the session's end reason with N10,
and makes the session DONE with the position's notice, or IDLE at once when SEATED is true. A seated arrival makes a
DONE session IDLE and otherwise records the level alone (R89, R102, R153). -/
def Obligations.VentExpirySettlesTheHold : Prop :=
  ∀ (p : PosId) (s : State),
    (∀ (h : HoldId) (r : EndReason), (s.pos p).ses.state = .venting → (s.pos p).tmr.vent.isSome = true →
      (s.pos p).ses.boundHold = some h → (s.pos p).ses.endReason = some r →
      (s.hold h).conditioning + (s.hold h).sold ≤ 4294967295 →
      ∃ t, exec (.ventTimerExpiry p) s = .next t ∧
        t = { s with
          holds := s.holds.set h (SettledWith (s.hold h) r s.station.graceMass s.station.clock),
          positions := s.positions.set p (t.pos p), notices := (s.notices.raise 10).raise (2 + p.val),
          link := t.link } ∧
        (s.station.inputs.seated.get p = true → t.pos p = EnteredIdle (s.pos p)) ∧
        (s.station.inputs.seated.get p = false →
          t.pos p = { s.pos p with
            ses := { (s.pos p).ses with state := .done, boundHold := none, vent := .closed },
            tmr := { (s.pos p).tmr with vent := none },
            rx := (s.pos p).rx.map (fun f => { f with doomed := true }) })) ∧
    ((s.pos p).ses.state ≠ .done →
      exec (.seatedArrival p) s = .next { s with station := { s.station with
        inputs := { s.station.inputs with seated := s.station.inputs.seated.set p true } } }) ∧
    ((s.pos p).ses.state = .done → RouteClosed (s.pos p).ses →
      exec (.seatedArrival p) s = .next { s with
        station := { s.station with
          inputs := { s.station.inputs with seated := s.station.inputs.seated.set p true } },
        positions := s.positions.set p (EnteredIdle (s.pos p)) })

/-! ### Writes of positions and loops -/

/-- O35. A class write in SETUP, code 0 to 2, sets the class, precooling for CAR70 alone, no loop and no receiver. A
write of the rate limit, 1 to 1,000, in AUTHORISED to HELD becomes the pending rate limit. A write of 0 to the stray
mass clears it. A capacity write in SETUP, 1 to 60,000 and at least the floor, alone or with a new floor, sets it and
holds the reserve to it. Otherwise: PHASE in SERVICE for the SETUP-only ones, STATE for the rate limit in IDLE,
VENTING or DONE, RANGE for the value (R68, R87, R112, R139). -/
def Obligations.PositionAndLoopWrites : Prop :=
  (∀ (p : PosId) (a : Addr) (tail : Tail) (code : Byte) (cls : PosClass) (s : State),
    a.Names (.position p) s.port.window → tail.Whole 1 → tail.data = [code] →
    (s.station.phase = .service →
      exec (.classWrite a tail) s = .next (s.refusedWith (addrRequest a 2 4 0 tail) .phase)) ∧
    (s.station.phase = .setup → 2 < code.toNat →
      exec (.classWrite a tail) s = .next (s.refusedWith (addrRequest a 2 4 0 tail) .range)) ∧
    (s.station.phase = .setup → (code, cls) ∈ [(0, PosClass.unused), (1, PosClass.bus35), (2, PosClass.car70)] →
      exec (.classWrite a tail) s = .next { s.answered (addrRequest a 2 4 0 tail) with
        positions := s.positions.set p { s.pos p with
          cfg := { (s.pos p).cfg with
            cls := cls, precool := decide (cls = .car70), loop := none, receiver := false } } })) ∧
  (∀ (p : PosId) (a : Addr) (tail : Tail) (lo hi : Byte) (n : Nat) (s : State),
    a.Names (.position p) s.port.window → tail.Whole 2 → tail.data = [lo, hi] → n = lo.toNat + 256 * hi.toNat →
    ((s.pos p).ses.state = .idle ∨ (s.pos p).ses.state = .venting ∨ (s.pos p).ses.state = .done →
      exec (.rateLimitWrite a tail) s = .next (s.refusedWith (addrRequest a 2 4 12 tail) .state)) ∧
    ((s.pos p).ses.state = .authorised ∨ (s.pos p).ses.state.live = true → n = 0 ∨ 1000 < n →
      exec (.rateLimitWrite a tail) s = .next (s.refusedWith (addrRequest a 2 4 12 tail) .range)) ∧
    ((s.pos p).ses.state = .authorised ∨ (s.pos p).ses.state.live = true → 1 ≤ n → n ≤ 1000 →
      exec (.rateLimitWrite a tail) s = .next { s.answered (addrRequest a 2 4 12 tail) with
        positions := s.positions.set p { s.pos p with
          ses := { (s.pos p).ses with pendingRate := some n } } })) ∧
  (∀ (p : PosId) (a : Addr) (tail : Tail) (s : State), a.Names (.position p) s.port.window → tail.Whole 4 →
    (leValue tail.data = 0 →
      exec (.strayMassClear a tail) s = .next { s.answered (addrRequest a 2 4 36 tail) with
        positions := s.positions.set p { s.pos p with meter := { (s.pos p).meter with stray := 0 } } }) ∧
    (leValue tail.data ≠ 0 →
      exec (.strayMassClear a tail) s = .next (s.refusedWith (addrRequest a 2 4 36 tail) .range))) ∧
  (∀ (l : LoopId) (a : Addr) (tail : Tail) (capacity floor : Nat) (s : State), a.Names (.loop l) s.port.window →
    ((tail.Whole 2 ∧ capacity = leValue tail.data ∧ floor = (s.loop l).floor) ∨
      (tail.Whole 4 ∧ capacity = leValue (tail.data.take 2) ∧ floor = leValue (tail.data.drop 2))) →
    (s.station.phase = .service →
      exec (.capacityWrite a tail) s = .next (s.refusedWith (addrRequest a 2 3 2 tail) .phase)) ∧
    (s.station.phase = .setup → capacity = 0 ∨ 60000 < capacity ∨ capacity < floor →
      exec (.capacityWrite a tail) s = .next (s.refusedWith (addrRequest a 2 3 2 tail) .range)) ∧
    (s.station.phase = .setup → 1 ≤ capacity → capacity ≤ 60000 → floor ≤ capacity →
      exec (.capacityWrite a tail) s = .next { s.answered (addrRequest a 2 3 2 tail) with
        loops := s.loops.set l { s.loop l with
          capacity := capacity, floor := floor, reserve := min (s.loop l).reserve capacity } }))

/-! ### Vehicle data -/

/-- The position takes vehicle frames: CAR70 with a receiver, in AUTHORISED to HELD or VENTING (R126). -/
def TakesFrames (x : Position) : Prop :=
  x.cfg.cls = .car70 ∧ x.cfg.receiver = true ∧ x.ses.state ≠ .idle ∧ x.ses.state ≠ .done

/-- The bytes after the marker of a valid frame that carries these values (R126, R182). -/
def ValidFrame (bytes : List Byte) (d : VehicleData) : Prop :=
  ∃ v0 v1 p0 p1 t0 t1 cmd check : Byte,
    bytes = [d.sequence, v0, v1, p0, p1, t0, t1, cmd, check] ∧
    d.sequence + v0 + v1 + p0 + p1 + t0 + t1 + cmd + check = 0 ∧
    d.volume = v0.toNat + 256 * v1.toNat ∧ 1 ≤ d.volume ∧ d.volume ≤ 1000 ∧
    d.pressure = p0.toNat + 256 * p1.toNat ∧ d.pressure ≤ 10000 ∧
    d.temperature = (t0.toNat + 256 * t1.toNat : Int) - 32768 ∧ -600 ≤ d.temperature ∧ d.temperature ≤ 1200 ∧
    ((cmd = 0 ∧ d.command = .run) ∨ (cmd = 1 ∧ d.command = .halt) ∨ (cmd = 2 ∧ d.command = .abort))

/-- The frame repeats the sequence of the group, if there is one (R129). -/
def Duplicate (x : Session) (d : VehicleData) : Prop := ∃ g, x.vehicle = some g ∧ g.sequence = d.sequence

/-- O36. A whole vehicle frame at a position that does not take frames changes nothing. An invalid one raises the
invalid count of a group that is present, up to 255, and nothing else. A valid one gives the group its readouts, the
frame count one more up to 65,535, the invalid count kept and the clock as stamp; the first creates it with the counts
1 and 0 (R126, R127, R128, R182). -/
def Obligations.VehicleFrameReadouts : Prop :=
  ∀ (p : PosId) (s : State), (s.pos p).rx = none →
    (∀ bytes : List Byte, ¬ TakesFrames (s.pos p) → exec (.vehicleFrame p bytes) s = .next s) ∧
    (∀ body : List Byte, body.length = 9 → (∀ d : VehicleData, ¬ ValidFrame body d) → TakesFrames (s.pos p) →
      exec (.vehicleFrame p (0x7E :: body)) s = .next { s with
        positions := s.positions.set p { s.pos p with
          ses := { (s.pos p).ses with
            vehicle := (s.pos p).ses.vehicle.map (fun g => { g with invalids := min 255 (g.invalids + 1) }) } } }) ∧
    (∀ (body : List Byte) (d : VehicleData), ValidFrame body d → TakesFrames (s.pos p) →
      ∃ (t : State) (g : VehicleGroup), exec (.vehicleFrame p (0x7E :: body)) s = .next t ∧
        (t.pos p).ses.vehicle = some g ∧
        g = { volume := d.volume, pressure := d.pressure, temperature := d.temperature, command := d.command,
              sequence := d.sequence, stamp := s.station.clock, fallback := g.fallback,
              frames := match (s.pos p).ses.vehicle with | none => 1 | some x => min 65535 (x.frames + 1),
              invalids := match (s.pos p).ses.vehicle with | none => 0 | some x => x.invalids } ∧
        (t.pos p).rx = none ∧ t.station = s.station ∧ t.holds = s.holds ∧ t.port = s.port ∧ s.SameSettings t)

/-- O37. What a valid frame does after its readouts. In VENTING nothing. A frame that is no duplicate, in AUTHORISED
to HELD, restarts the freshness timer and cancels a deferred fallback. In COOLING to HELD an ABORT ends the fill with
VEHICLE_ABORT, else a tank at 85.0 °C or above with TANK_HOT. In FUELLING or HELD with mode COMM, else: a tank at or
above the full-pressure table ends it with FULL_SOC; else HALT puts a FUELLING session on HELD or joins the causes of
a HELD one, and RUN takes VEHICLE from the causes, leaving HELD with the last. A HALT in AUTHORISED, COOLING, PULSING
or CHECKING, or in NONCOMM, adds no cause (R128 to R130, R133 to R136). -/
def Obligations.VehicleFrameActs : Prop :=
  ∀ (p : PosId) (body : List Byte) (d : VehicleData) (s t : State), (s.pos p).rx = none → ValidFrame body d →
    TakesFrames (s.pos p) → s.BankNaming → s.LoopsInRange → exec (.vehicleFrame p (0x7E :: body)) s = .next t →
    ((s.pos p).ses.state = .venting →
      t = { s with positions := s.positions.set p { s.pos p with
        ses := { (s.pos p).ses with vehicle := (t.pos p).ses.vehicle } } }) ∧
    (¬ Duplicate (s.pos p).ses d → (s.pos p).ses.state = .authorised →
      (t.pos p).tmr.freshness = some (s.pos p).cfg.freshnessTime ∧ (t.pos p).ses.state = .authorised) ∧
    (¬ Duplicate (s.pos p).ses d → (t.pos p).ses.state.live = true →
      (t.pos p).tmr.freshness = some (s.pos p).cfg.freshnessTime ∧ (t.pos p).ses.deferred = false) ∧
    (Duplicate (s.pos p).ses d → (t.pos p).ses.state.live = true →
      (t.pos p).tmr.freshness = (s.pos p).tmr.freshness ∧ (t.pos p).tmr.deferral = (s.pos p).tmr.deferral ∧
      (t.pos p).ses.deferred = (s.pos p).ses.deferred) ∧
    ((s.pos p).ses.state.live = true → d.command = .abort → s.FillEnded t p .vehicleAbort) ∧
    ((s.pos p).ses.state.live = true → d.command ≠ .abort → 850 ≤ d.temperature → s.FillEnded t p .tankHot) ∧
    (∀ full : Nat, ((s.pos p).ses.state = .fuelling ∨ (s.pos p).ses.state = .held) → (s.pos p).ses.mode = some .comm →
      d.command ≠ .abort → d.temperature < 850 → s.fullTable.toList[(tankBand d.temperature).val]? = some full →
      (full ≤ d.pressure → s.FillEnded t p .fullSoc) ∧
      (d.pressure < full → d.command = .halt → (s.pos p).ses.state = .fuelling →
        (t.pos p).ses.state = .held ∧ (t.pos p).ses.causes = { (s.pos p).ses.causes with vehicle := true } ∧
        (t.pos p).tmr.held = some 120000 ∧ (t.pos p).ses.control = .closed) ∧
      (d.pressure < full → d.command = .halt → (s.pos p).ses.state = .held →
        (t.pos p).ses.state = .held ∧ (t.pos p).ses.causes = { (s.pos p).ses.causes with vehicle := true } ∧
        (t.pos p).tmr.held = (s.pos p).tmr.held) ∧
      (∀ hose : Nat, d.pressure < full → d.command = .run → (s.pos p).ses.state = .held →
        (s.pos p).ses.hose = some hose →
        (s.pos p).ses.causes = { noBank := false, precool := false, vehicle := true, host := false } →
        LeftHeld s t p hose)) ∧
    (∀ full : Nat, (s.pos p).ses.mode = some .comm → d.command = .run → d.temperature < 850 →
      s.fullTable.toList[(tankBand d.temperature).val]? = some full → d.pressure < full →
      ((s.pos p).ses.state = .held → (s.pos p).ses.causes.vehicle = true →
        ((s.pos p).ses.causes.noBank = true ∨ (s.pos p).ses.causes.precool = true ∨
          (s.pos p).ses.causes.host = true) →
        (t.pos p).ses.state = .held ∧ (t.pos p).ses.causes = { (s.pos p).ses.causes with vehicle := false } ∧
        (t.pos p).tmr.held = (s.pos p).tmr.held ∧ t.banks = s.banks) ∧
      ((s.pos p).ses.state = .fuelling ∨
          ((s.pos p).ses.state = .held ∧ (s.pos p).ses.causes.vehicle = false) →
        (t.pos p).ses.state = (s.pos p).ses.state ∧ (t.pos p).ses.causes = (s.pos p).ses.causes ∧
        t.banks = s.banks)) ∧
    ((s.pos p).ses.state = .authorised →
      (t.pos p).ses.state = .authorised ∧ (t.pos p).ses.causes = (s.pos p).ses.causes ∧
      (t.pos p).ses.endReason = (s.pos p).ses.endReason ∧ t.banks = s.banks) ∧
    ((s.pos p).ses.state.live = true → ¬(((s.pos p).ses.state = .fuelling ∨ (s.pos p).ses.state = .held) ∧
        (s.pos p).ses.mode = some .comm) → d.command ≠ .abort → d.temperature < 850 →
      (t.pos p).ses.state = (s.pos p).ses.state ∧ (t.pos p).ses.causes = (s.pos p).ses.causes ∧ t.banks = s.banks)

/-- A fallback applied to a FUELLING or HELD session, from `s` to `t`: APPLIED, NONCOMM, the target no higher than the
non-comm table's, the ceiling no higher than the target; a hose at or above it ends the fill, else a FUELLING
session's valve is judged (R113, R124, R133). -/
def FellBack (s t : State) (p : PosId) (hose v : Nat) : Prop :=
  (t.pos p).ses.mode = some .noncomm ∧ (t.pos p).ses.target = min (s.pos p).ses.target v ∧
  (t.pos p).ses.ceiling = min (s.pos p).ses.ceiling (min (s.pos p).ses.target v) ∧
  (t.pos p).ses.vehicle = (s.pos p).ses.vehicle.map (fun g => { g with fallback := .applied }) ∧
  (t.pos p).tmr.deferral = none ∧
  (min (s.pos p).ses.target v ≤ hose → s.FillEnded t p .fullPressure) ∧
  (hose < min (s.pos p).ses.target v →
    (t.pos p).ses.state = (s.pos p).ses.state ∧ (t.pos p).ses.causes = (s.pos p).ses.causes ∧
    (t.pos p).ses.current = (s.pos p).ses.current ∧
    ((s.pos p).ses.state = .fuelling →
      JudgedValve (decide ((s.pos p).ses.current.isSome = true ∧ hose < (t.pos p).ses.ceiling)) s.station.stallWindow
        (s.pos p) (t.pos p)) ∧
    t.banks = s.banks ∧ (∀ q : PosId, q ≠ p → t.pos q = s.pos q)) ∧
  t.holds = s.holds ∧ t.station = s.station ∧ t.port = s.port ∧ s.SameSettings t

/-- O38. The expiry of the running freshness timer makes the data STALE. In FUELLING or HELD with mode COMM it also
starts the fallback: IMMEDIATE applies it, AT_STEP makes it DEFERRED with the deferral timer at the station's limit.
The expiry of the running deferral timer applies a fallback still DEFERRED. A fallback makes the mode NONCOMM, lowers
the target to the non-comm value and the ceiling with it, and ends the fill with FULL_PRESSURE at a hose at or above
the new target. That an expiry of a timer that does not run changes nothing is the model's choice (log 2) (R113, R124,
R130, R132, R133, R138). -/
def Obligations.FreshnessLossFallsBack : Prop :=
  ∀ (p : PosId) (s : State),
    ((s.pos p).tmr.freshness = none → exec (.freshnessExpiry p) s = .next s) ∧
    ((s.pos p).tmr.freshness.isSome = true →
      ¬(((s.pos p).ses.state = .fuelling ∨ (s.pos p).ses.state = .held) ∧ (s.pos p).ses.mode = some .comm) →
      exec (.freshnessExpiry p) s = .next { s with
        positions := s.positions.set p { s.pos p with tmr := { (s.pos p).tmr with freshness := none } } }) ∧
    ((s.pos p).tmr.freshness.isSome = true → ((s.pos p).ses.state = .fuelling ∨ (s.pos p).ses.state = .held) →
      (s.pos p).ses.mode = some .comm → (s.pos p).cfg.reaction = .atStep →
      exec (.freshnessExpiry p) s = .next { s with
        positions := s.positions.set p { s.pos p with
          ses := { (s.pos p).ses with
            vehicle := (s.pos p).ses.vehicle.map (fun g => { g with fallback := .deferred }) },
          tmr := { (s.pos p).tmr with
            freshness := none, deferral := some (s.station.deferralLimit * 1000) } } }) ∧
    (∀ hose v : Nat, (s.pos p).tmr.freshness.isSome = true →
      ((s.pos p).ses.state = .fuelling ∨ (s.pos p).ses.state = .held) → (s.pos p).ses.mode = some .comm →
      (s.pos p).cfg.reaction = .immediate → (s.pos p).ses.hose = some hose → (s.pos p).cfg.cls = .car70 →
      NoncommTarget s .car70 v → s.BankNaming → s.LoopsInRange →
      ∃ t, exec (.freshnessExpiry p) s = .next t ∧ FellBack s t p hose v ∧ (t.pos p).tmr.freshness = none) ∧
    ((s.pos p).tmr.deferral = none → exec (.deferralExpiry p) s = .next s) ∧
    ((s.pos p).tmr.deferral.isSome = true → (s.pos p).ses.deferred = false →
      exec (.deferralExpiry p) s = .next { s with
        positions := s.positions.set p { s.pos p with tmr := { (s.pos p).tmr with deferral := none } } }) ∧
    (∀ hose v : Nat, (s.pos p).tmr.deferral.isSome = true → (s.pos p).ses.deferred = true →
      ((s.pos p).ses.state = .fuelling ∨ (s.pos p).ses.state = .held) → (s.pos p).ses.hose = some hose →
      (s.pos p).cfg.cls = .car70 → NoncommTarget s .car70 v → s.BankNaming → s.LoopsInRange →
      ∃ t, exec (.deferralExpiry p) s = .next t ∧ FellBack s t p hose v)

/-! ### Hose and bank samples of a fill -/

/-- A step of a FUELLING session with current bank `b`, without a deferred fallback, from `s` to `t` (R119, R115,
R117): the count, the bank released, then a bank staged or HELD with NO_BANK. Where the released bank is not offered
on, the selection is read off the station as it stood. -/
def Stepped (s t : State) (p : PosId) (b : BankId) (hose : Nat) : Prop :=
  (t.pos p).ses.steps = min 255 ((s.pos p).ses.steps + 1) ∧ (t.pos p).ses.current = none ∧
  (t.pos p).ses.supply = none ∧ (t.pos p).ses.control = .closed ∧ (t.pos p).tmr.stall = none ∧
  (t.bank b).claimant ≠ some (.pos p) ∧
  ((t.pos p).ses.state = .fuelling ∧ (t.pos p).ses.staged.isSome = true ∨
    (t.pos p).ses.state = .held ∧ (t.pos p).ses.causes.noBank = true ∧ t.waits p = true ∧
      (t.pos p).tmr.held = some 120000 ∧ (t.pos p).tmr.ramp = none) ∧
  (s.waitList = [] → ∀ c : BankId,
    s.select (hose + s.station.switchMargin) ((s.pos p).cfg.cls.tiersFrom (s.pos p).ses.cursor) = some c →
    (t.pos p).ses.staged = some c ∧ (t.pos p).ses.cursor = (s.bank c).tier ∧ (t.bank c).claimant = some (.pos p)) ∧
  (s.waitList = [] →
    s.select (hose + s.station.switchMargin) ((s.pos p).cfg.cls.tiersFrom (s.pos p).ses.cursor) = none →
    (t.pos p).ses.state = .held)

/-- A step of a FUELLING session whose fallback is DEFERRED applies it; a hose at or above the new target ends the
fill with no selection, else selection runs (R113, R119, R121, R132, R133). -/
def DeferredStep (s t : State) (p : PosId) (hose v : Nat) : Prop :=
  (t.pos p).ses.steps = min 255 ((s.pos p).ses.steps + 1) ∧ (t.pos p).ses.current = none ∧
  (t.pos p).ses.supply = none ∧ (t.pos p).ses.control = .closed ∧ (t.pos p).tmr.stall = none ∧
  (t.pos p).ses.mode = some .noncomm ∧ (t.pos p).ses.target = min (s.pos p).ses.target v ∧
  (t.pos p).ses.ceiling = min (s.pos p).ses.ceiling (min (s.pos p).ses.target v) ∧
  (t.pos p).ses.vehicle = (s.pos p).ses.vehicle.map (fun g => { g with fallback := .applied }) ∧
  (t.pos p).tmr.deferral = none ∧
  (min (s.pos p).ses.target v ≤ hose → s.FillEnded t p .fullPressure) ∧
  (hose < min (s.pos p).ses.target v →
    (((t.pos p).ses.state = .fuelling ∧ (t.pos p).ses.staged.isSome = true) ∨
      ((t.pos p).ses.state = .held ∧ (t.pos p).ses.causes.noBank = true ∧ t.waits p = true ∧
        (t.pos p).tmr.held = some 120000 ∧ (t.pos p).tmr.ramp = none)) ∧
    (s.waitList = [] → ∀ c : BankId,
      s.select (hose + s.station.switchMargin) ((s.pos p).cfg.cls.tiersFrom (s.pos p).ses.cursor) = some c →
      (t.pos p).ses.staged = some c ∧ (t.pos p).ses.cursor = (s.bank c).tier ∧
      (t.bank c).claimant = some (.pos p)) ∧
    (s.waitList = [] →
      s.select (hose + s.station.switchMargin) ((s.pos p).cfg.cls.tiersFrom (s.pos p).ses.cursor) = none →
      (t.pos p).ses.state = .held)) ∧
  t.holds = s.holds ∧ t.station = s.station ∧ s.SameSettings t

/-- O39. A hose sample at a FUELLING session: at or above the target the fill ends with FULL_PRESSURE; else, with the
valve OPEN and the current bank below hose plus switch margin, it steps; else the valve is judged. A pressure of the
current bank makes the same step test and nothing more. A step with a DEFERRED fallback, the one an isolation of the
current or staged bank makes among them, applies it: the mode is NONCOMM, the target the lesser of its own and the
non-comm value, the ceiling no higher; a hose at or above it ends the fill with FULL_PRESSURE and no selection, else
selection runs. At a session that waits for a bank a hose sample renews the need level; in IDLE, AUTHORISED, COOLING,
CHECKING, VENTING and DONE it sets the field alone (R35, R90, R113, R114, R119, R121 to R123, R132, R133). -/
def Obligations.SamplesDriveTheFill : Prop :=
  ∀ (p : PosId) (lo hi check : Byte) (v : Nat) (s : State), s.link.rx = none → v = lo.toNat + 256 * hi.toNat →
    s.BankNaming → s.LoopsInRange →
    (v ≤ 10000 → 2 + BitVec.ofNat 8 p.val + lo + hi + check = 0 →
      ∃ t, exec (.sampleFrame [0x5A, 2, BitVec.ofNat 8 p.val, lo, hi, 0, check]) s = .next t ∧
        (t.pos p).ses.hose = some v ∧
        ((s.pos p).ses.state = .fuelling → (s.pos p).ses.target ≤ v → s.FillEnded t p .fullPressure) ∧
        (∀ (b : BankId) (u : Nat), (s.pos p).ses.state = .fuelling → v < (s.pos p).ses.target →
          (s.pos p).ses.control = .opened → (s.pos p).ses.current = some b → (s.bank b).pressure = some u →
          u < v + s.station.switchMargin → (s.pos p).ses.deferred = false →
          (s.bank b).claimant = some (.pos p) → (s.bank b).state = .serving → Stepped s t p b v) ∧
        (∀ (b : BankId) (u nv : Nat) (cls : PosClass), (s.pos p).ses.state = .fuelling → v < (s.pos p).ses.target →
          (s.pos p).ses.control = .opened → (s.pos p).ses.current = some b → (s.bank b).pressure = some u →
          u < v + s.station.switchMargin → (s.pos p).ses.deferred = true →
          (s.bank b).claimant = some (.pos p) → (s.bank b).state = .serving → (s.pos p).cfg.cls = cls →
          cls = .bus35 ∨ cls = .car70 → NoncommTarget s cls nv →
          DeferredStep s t p v nv ∧ (t.bank b).claimant ≠ some (.pos p)) ∧
        (∀ (b : BankId) (u : Nat), (s.pos p).ses.state = .fuelling → v < (s.pos p).ses.target →
          (s.pos p).ses.current = some b → (s.bank b).pressure = some u →
          ((s.pos p).ses.control = .closed ∨ v + s.station.switchMargin ≤ u) →
          JudgedValve (decide (v < (s.pos p).ses.ceiling)) s.station.stallWindow (s.pos p) (t.pos p) ∧
          (t.pos p).ses.state = .fuelling ∧ (t.pos p).ses.current = some b ∧ t.banks = s.banks) ∧
        ((s.pos p).ses.state = .fuelling → v < (s.pos p).ses.target → (s.pos p).ses.current = none →
          JudgedValve false s.station.stallWindow (s.pos p) (t.pos p) ∧ (t.pos p).ses.state = .fuelling) ∧
        ((s.pos p).ses.state = .pulsing ∨ (s.pos p).ses.state = .held →
          ∀ e ∈ t.waitList, e.pos = p → e.need = v + s.station.switchMargin) ∧
        ((s.pos p).ses.state ≠ .fuelling →
          t.pos p = { s.pos p with ses := { (s.pos p).ses with hose := some v } } ∧ t.banks = s.banks)) ∧
    (∀ (b : BankId) (hose : Nat), v ≤ 11000 → v ≤ (s.bank b).rated → BitVec.ofNat 8 b.val + lo + hi + check = 0 →
      (s.bank b).state = .serving → (s.bank b).claimant = some (.pos p) → (s.pos p).ses.state = .fuelling →
      (s.pos p).ses.current = some b → (s.pos p).ses.hose = some hose →
      ∃ t, exec (.sampleFrame [0x5A, 0, BitVec.ofNat 8 b.val, lo, hi, 0, check]) s = .next t ∧
        ((s.pos p).ses.control = .opened → v < hose + s.station.switchMargin → (s.pos p).ses.deferred = false →
          Stepped s t p b hose) ∧
        (∀ (nv : Nat) (cls : PosClass), (s.pos p).ses.control = .opened → v < hose + s.station.switchMargin →
          (s.pos p).ses.deferred = true → (s.pos p).cfg.cls = cls → cls = .bus35 ∨ cls = .car70 →
          NoncommTarget s cls nv → DeferredStep s t p hose nv ∧ (t.bank b).claimant ≠ some (.pos p)) ∧
        ((s.pos p).ses.control = .closed ∨ hose + s.station.switchMargin ≤ v → t.pos p = s.pos p)) ∧
    (∀ (b : BankId) (hose nv : Nat) (cls : PosClass) (a : Addr) (tail : Tail), a.Names (.bank b) s.port.window →
      tail.Whole 0 → (s.bank b).state = .serving → (s.bank b).claimant = some (.pos p) →
      (s.pos p).ses.state = .fuelling → (s.pos p).ses.names b → (s.pos p).ses.hose = some hose →
      (s.pos p).ses.deferred = true → (s.pos p).cfg.cls = cls → cls = .bus35 ∨ cls = .car70 → NoncommTarget s cls nv →
      ∃ t, exec (.isolate a tail) s = .next t ∧ DeferredStep s t p hose nv ∧ (t.bank b).state = .isolated)

/-! ### Metering and holds -/

/-- The meter after the timing of a pulse at a moment, in microseconds of the position's own time (R140; the model's
unit, log 18): the period in whole milliseconds held to 1 to 60,000, and the flow from it; the first pulse sets the
flow to 0. -/
def TimedMeter (x : Position) (moment : Nat) : Meter :=
  match x.meter.prevPulse with
  | none => { x.meter with flow := 0, prevPulse := some moment }
  | some m =>
    { x.meter with
      period := some (max 1 (min 60000 ((moment - m) / 1000))),
      flow := x.cfg.gramsPerPulse * 1000 / max 1 (min 60000 ((moment - m) / 1000)), prevPulse := some moment }

/-- O40. A meter pulse outside the sale. It times the meter, and its grams go by the session: in IDLE and DONE to the
stray mass, which stays at its maximum, with N15; in AUTHORISED and COOLING to the hold's conditioning and the stray
mass, with N15; in PULSING and CHECKING to conditioning; in VENTING to overrun; with a hold bound the metered mass
rises. Nothing else changes. A sum that does not fit its field is no part of the claim: the spec gives it no value
(log 6) (R139, R140, R141). -/
def Obligations.PulsesOutsideTheSale : Prop :=
  ∀ (p : PosId) (moment : Nat) (s : State),
    ((s.pos p).ses.state = .idle ∨ (s.pos p).ses.state = .done →
      exec (.meterPulse p moment) s = .next { s with
        positions := s.positions.set p { s.pos p with meter := { TimedMeter (s.pos p) moment with
          stray := min 4294967295 ((s.pos p).meter.stray + (s.pos p).cfg.gramsPerPulse) } },
        notices := s.notices.raise 15 }) ∧
    (∀ h : HoldId, (s.pos p).ses.boundHold = some h →
      (s.pos p).meter.metered + (s.pos p).cfg.gramsPerPulse ≤ 4294967295 →
      ((s.pos p).ses.state = .authorised ∨ (s.pos p).ses.state = .cooling →
        (s.hold h).conditioning + (s.pos p).cfg.gramsPerPulse ≤ 4294967295 →
        exec (.meterPulse p moment) s = .next { s with
          positions := s.positions.set p { s.pos p with meter := { TimedMeter (s.pos p) moment with
            metered := (s.pos p).meter.metered + (s.pos p).cfg.gramsPerPulse,
            stray := min 4294967295 ((s.pos p).meter.stray + (s.pos p).cfg.gramsPerPulse) } },
          holds := s.holds.set h { s.hold h with
            conditioning := (s.hold h).conditioning + (s.pos p).cfg.gramsPerPulse },
          notices := s.notices.raise 15 }) ∧
      ((s.pos p).ses.state = .pulsing ∨ (s.pos p).ses.state = .checking →
        (s.hold h).conditioning + (s.pos p).cfg.gramsPerPulse ≤ 4294967295 →
        exec (.meterPulse p moment) s = .next { s with
          positions := s.positions.set p { s.pos p with meter := { TimedMeter (s.pos p) moment with
            metered := (s.pos p).meter.metered + (s.pos p).cfg.gramsPerPulse } },
          holds := s.holds.set h { s.hold h with
            conditioning := (s.hold h).conditioning + (s.pos p).cfg.gramsPerPulse } }) ∧
      ((s.pos p).ses.state = .venting → (s.hold h).overrun + (s.pos p).cfg.gramsPerPulse ≤ 4294967295 →
        exec (.meterPulse p moment) s = .next { s with
          positions := s.positions.set p { s.pos p with meter := { TimedMeter (s.pos p) moment with
            metered := (s.pos p).meter.metered + (s.pos p).cfg.gramsPerPulse } },
          holds := s.holds.set h { s.hold h with
            overrun := (s.hold h).overrun + (s.pos p).cfg.gramsPerPulse } }))

/-- O41. A sale pulse, in FUELLING or HELD: sold rises up to the mass ceiling, the rest of the grams is overrun, the
amount is the sold mass at the price snapshot, rounded down and held to 32 bits; at the ceiling the fill ends with
LIMIT_MASS or LIMIT_MONEY; else a running stall timer restarts, and at or below the taper mass the session tapers.
Sums that do not fit are no part of the claim (log 6) (R110, R141, R142, R144). -/
def Obligations.SalePulseChargesTheHold : Prop :=
  ∀ (p : PosId) (h : HoldId) (moment ceiling price sold : Nat) (s : State),
    ((s.pos p).ses.state = .fuelling ∨ (s.pos p).ses.state = .held) → (s.pos p).ses.boundHold = some h →
    (s.hold h).massCeiling = some ceiling → (s.hold h).price = some price → s.BankNaming → s.LoopsInRange →
    (s.pos p).meter.metered + (s.pos p).cfg.gramsPerPulse ≤ 4294967295 →
    (s.hold h).overrun + (s.pos p).cfg.gramsPerPulse ≤ 4294967295 →
    sold = (s.hold h).sold + min (s.pos p).cfg.gramsPerPulse (ceiling - (s.hold h).sold) →
    ∃ t, exec (.meterPulse p moment) s = .next t ∧
      t.holds = s.holds.set h { s.hold h with
        sold := sold,
        overrun := (s.hold h).overrun + ((s.pos p).cfg.gramsPerPulse - (ceiling - (s.hold h).sold)),
        amount := min (sold * price / 1000) 4294967295 } ∧
      (t.pos p).meter = { TimedMeter (s.pos p) moment with
        metered := (s.pos p).meter.metered + (s.pos p).cfg.gramsPerPulse } ∧
      (sold = ceiling →
        s.FillEnded t p (match (s.hold h).kind with | .mass => .limitMass | .money => .limitMoney)) ∧
      (sold ≠ ceiling →
        t = { s with
          holds := t.holds,
          positions := s.positions.set p { s.pos p with
            meter := (t.pos p).meter,
            ses := { (s.pos p).ses with
              taper := (s.pos p).ses.taper || decide (ceiling - sold ≤ s.station.taperMass) },
            tmr := { (s.pos p).tmr with
              stall := (s.pos p).tmr.stall.map (fun _ => s.station.stallWindow * 1000) } } })

/-- O42. The mass ceiling of a MASS hold is its limit; of a MONEY hold the largest sold mass whose amount stays within
the limit, by the formula of the rule and in the rule's four examples (R150). -/
def Obligations.MassCeilingIsTheLargestPermitted : Prop :=
  (∀ limit price : Nat, massCeilingOf .mass limit price = limit) ∧
  (∀ limit price : Nat, massCeilingOf .money limit price = min (((limit + 1) * 1000 - 1) / price) 4294967295) ∧
  (∀ limit price mass : Nat, 1 ≤ price → mass ≤ massCeilingOf .money limit price → amountOf mass price ≤ limit) ∧
  (∀ limit price mass : Nat, 1 ≤ price → massCeilingOf .money limit price < mass → mass ≤ 4294967295 →
    limit < mass * price / 1000) ∧
  (massCeilingOf .money 2000 1450 = 1379 ∧ amountOf 1379 1450 = 1999 ∧ amountOf 1380 1450 = 2001) ∧
  (massCeilingOf .money 2000 1500 = 1333 ∧ amountOf 1333 1500 = 1999 ∧ amountOf 1334 1500 = 2001) ∧
  (massCeilingOf .money 1000 1000 = 1000 ∧ amountOf 1000 1000 = 1000 ∧ amountOf 1001 1000 = 1001) ∧
  (massCeilingOf .money 1 1000000 = 0 ∧ amountOf 0 1000000 = 0 ∧ amountOf 1 1000000 = 1000)

/-- O43. OPEN on a FREE hold with a permit, kind, limit and plan in range opens it with the five values and the clock
as open stamp; it is refused with STATE on a hold not FREE, else with RANGE for a value. RETIRE gives a FREE, OPEN or
SETTLED hold its FREE values and empties the window that names it; on a BOUND hold it is refused with BUSY. Nothing
else changes (R147, R148, R156, R167). -/
def Obligations.OpenAndRetire : Prop :=
  ∀ (h : HoldId) (a : Addr) (tail : Tail) (s : State), a.Names (.hold h) s.port.window →
    (∀ (r0 r1 r2 r3 permitCode kindCode l0 l1 l2 l3 planCode : Byte) (account limit : Nat), tail.Whole 11 →
      tail.data = [r0, r1, r2, r3, permitCode, kindCode, l0, l1, l2, l3, planCode] →
      account = r0.toNat + 256 * (r1.toNat + 256 * (r2.toNat + 256 * r3.toNat)) →
      limit = l0.toNat + 256 * (l1.toNat + 256 * (l2.toNat + 256 * l3.toNat)) →
      ((s.hold h).state ≠ .free → exec (.open_ a tail) s = .next (s.refusedWith (addrRequest a 4 5 0 tail) .state)) ∧
      ((s.hold h).state = .free →
        (permitCode = 0 ∨ 3 < permitCode.toNat ∨ 1 < kindCode.toNat ∨ limit = 0 ∨ 3 < planCode.toNat) →
        exec (.open_ a tail) s = .next (s.refusedWith (addrRequest a 4 5 0 tail) .range)) ∧
      (∀ (permit : Permit) (kind : LimitKind) (plan : PlanId), (s.hold h).state = .free →
        (permitCode, permit) ∈ [(1, Permit.bus35), (2, Permit.car70), (3, Permit.either)] →
        (kindCode, kind) ∈ [(0, LimitKind.mass), (1, LimitKind.money)] → limit ≠ 0 → planCode.toNat = plan.val →
        exec (.open_ a tail) s = .next { s.answered (addrRequest a 4 5 0 tail) with
          holds := s.holds.set h { s.hold h with
            state := .opened, account := account, permit := permit, kind := kind, limit := limit, plan := plan,
            openStamp := some s.station.clock } })) ∧
    (tail.Whole 0 →
      ((s.hold h).state = .bound →
        exec (.retire a tail) s = .next (s.refusedWith (addrRequest a 5 5 0 tail) .busy)) ∧
      ((s.hold h).state ≠ .bound →
        exec (.retire a tail) s = .next { s.answered (addrRequest a 5 5 0 tail) with
          holds := s.holds.set h
            { state := .free, account := 0, permit := .either, kind := .mass, limit := 0, plan := 0, price := none,
              massCeiling := none, position := none, mark := 0, conditioning := 0, sold := 0, overrun := 0,
              amount := 0, openStamp := none, bindStamp := none, settleStamp := none, endReason := none },
          port := { s.port with
            lastResult := .ok,
            window := if s.port.window = some (.hold h) then none else s.port.window } }))

/-! ### The record port -/

/-- The status byte: last result, notice pending, halted, service phase, error held (R158, R178). -/
def Status (s : State) : Byte :=
  BitVec.ofNat 8 (s.port.lastResult.code + (if s.notices.line = true then 16 else 0) +
    (if s.station.halt = .halted then 32 else 0) + (if s.station.phase = .service then 64 else 0) +
    (if 0 < s.port.errorCount then 128 else 0))

/-- The four bytes the part sends in bytes 0 to 3 (R158). -/
def FirstFour (s : State) : List Byte :=
  [Status s, match s.notices.top with | some i => BitVec.ofNat 8 i | none => 0xFF,
   s.notices.requests.extractLsb' 0 8, s.notices.requests.extractLsb' 8 8]

/-- The lists of a record are within the slots their fields have (R180). -/
def ListsFit (s : State) : Prop :=
  s.refillQueue.length ≤ 12 ∧ s.waitList.length ≤ 8 ∧
  ∀ l : LoopId, (s.loop l).grants.length ≤ 2 ∧ (s.loop l).queue.length ≤ 8

/-- A number in two bytes, least significant first (R158). -/
def Two (n : Nat) : List Byte := [BitVec.ofNat 8 n, BitVec.ofNat 8 (n / 256)]

/-- A number in four bytes, least significant first (R158). -/
def Four (n : Nat) : List Byte :=
  [BitVec.ofNat 8 n, BitVec.ofNat 8 (n / 256), BitVec.ofNat 8 (n / 65536), BitVec.ofNat 8 (n / 16777216)]

/-- An optional value of one byte; absent reads 0xFF (R179). -/
def OneOr (x : Option Nat) : Byte := match x with | some n => BitVec.ofNat 8 n | none => 0xFF

/-- An optional value of two bytes; absent reads all ones (R179). -/
def TwoOr (x : Option Nat) : List Byte := match x with | some n => Two n | none => [0xFF, 0xFF]

/-- An optional value of four bytes; absent reads all ones (R179). -/
def FourOr (x : Option Nat) : List Byte := match x with | some n => Four n | none => [0xFF, 0xFF, 0xFF, 0xFF]

/-- An optional temperature in offset form (R179). -/
def Offset (x : Option Int) : List Byte := TwoOr (x.map (fun c => (c + 32768).toNat))

/-- A capture stamp (R179). -/
def StampOf (x : Stamp) : List Byte := FourOr (x.map BitVec.toNat)

/-- Flags of P0 to P7 in one byte, P0 lowest (R179). -/
def FlagByte (f : PosId → Bool) : Byte :=
  BitVec.ofNat 8 ((List.finRange 8).map (fun p => if f p = true then 2 ^ p.val else 0)).sum

/-- A flag, clear 0 and set 1 (R179). -/
def BitOf (b : Bool) : Byte := if b = true then 1 else 0

/-- The vehicle group's 17 bytes (R180); its data state is STALE while the freshness timer does not run (R127). -/
def VehicleBytes (x : Position) : List Byte :=
  match x.ses.vehicle with
  | none => List.replicate 17 0xFF
  | some g =>
    Two g.volume ++ Two g.pressure ++ Offset (some g.temperature) ++ [BitVec.ofNat 8 g.command.code, g.sequence] ++
      Two g.frames ++ [BitVec.ofNat 8 g.invalids] ++ Four g.stamp.toNat ++
      [BitOf (decide (x.tmr.freshness = none)), BitVec.ofNat 8 g.fallback.code]

/-- STATION in the order of R180: the refill queue and the wait list as a count, the entries and unused ones. -/
def StationBytes (s : State) : List Byte :=
  Four s.station.clock.toNat ++
    [BitVec.ofNat 8 s.station.phase.code, BitVec.ofNat 8 s.station.halt.code,
     BitVec.ofNat 8 s.station.markProfile.val, BitVec.ofNat 8 s.station.portMode.code,
     BitVec.ofNat 8 ((if s.station.inputs.esd = true then 1 else 0) +
       (if s.station.inputs.fault.get 0 = true then 2 else 0) + (if s.station.inputs.fault.get 1 = true then 4 else 0)),
     FlagByte (fun p => s.station.inputs.coupled.get p), FlagByte (fun p => s.station.inputs.seated.get p)] ++
    Two s.station.allowance ++ Two s.granted ++ Two s.station.switchMargin ++ Two s.station.suctionMin ++
    TwoOr s.station.suction ++ Offset s.station.ambient ++ Two s.station.leakAllowance ++ Two s.station.leakWindow ++
    Two s.station.taperMass ++ Two s.station.graceMass ++
    [BitVec.ofNat 8 s.station.stallWindow, BitVec.ofNat 8 s.station.deferralLimit] ++
    [BitVec.ofNat 8 s.refillQueue.length] ++
    s.refillQueue.flatMap (fun e => BitVec.ofNat 8 e.bank.val :: Four e.stamp.toNat) ++
    List.replicate ((12 - s.refillQueue.length) * 5) 0xFF ++
    [BitVec.ofNat 8 s.waitList.length] ++
    s.waitList.flatMap (fun e => BitVec.ofNat 8 e.pos.val :: (Two e.need ++ Four e.stamp.toNat)) ++
    List.replicate ((8 - s.waitList.length) * 7) 0xFF ++
    [BitVec.ofNat 8 s.port.lastResult.code, BitVec.ofNat 8 s.port.errorCount,
     OneOr (s.port.firstError.map Result.code)] ++
    (match s.port.window with
     | some r => [BitVec.ofNat 8 r.codes.1, BitVec.ofNat 8 r.codes.2]
     | none => [0xFF, 0xFF])

/-- BANK in the order of R180. -/
def BankBytes (k : Bank) : List Byte :=
  [BitVec.ofNat 8 k.tier.code] ++ Two k.rated ++ Two k.low ++ Two k.high ++ TwoOr k.pressure ++ Offset k.temperature ++
    [BitVec.ofNat 8 k.state.code, OneOr (k.claimant.map Claimant.code),
     BitVec.ofNat 8 ((if k.belowLow = true then 1 else 0) + (if k.atHigh = true then 2 else 0)),
     BitVec.ofNat 8 k.priority, BitVec.ofNat 8 k.yields, OneOr (k.isolation.map IsoReason.code)] ++
    TwoOr k.leakRef ++ StampOf k.leakStamp

/-- COMPRESSOR in the order of R180. -/
def CompBytes (k : Compressor) : List Byte :=
  [BitVec.ofNat 8 k.state.code, BitVec.ofNat 8 k.reach.code] ++ Two k.draw ++
    [BitVec.ofNat 8 k.startTime, BitVec.ofNat 8 k.unloadTime, OneOr (k.bank.map Fin.val), BitOf k.withheld] ++
    StampOf k.startStamp ++ Two k.refills.toNat

/-- LOOP in the order of R180. -/
def LoopBytes (l : LoopId) (s : State) : List Byte :=
  [FlagByte (fun p => decide ((s.pos p).cfg.loop = some l))] ++ Two (s.loop l).draw ++ Two (s.loop l).capacity ++
    Two (s.loop l).floor ++ Two (s.loop l).recharge ++ Two (s.loop l).consumption ++ Two (s.loop l).reserve ++
    Offset (s.loop l).outlet ++
    [BitVec.ofNat 8 (s.loop l).chiller.code, BitVec.ofNat 8 (s.loop l).band.code, BitVec.ofNat 8 (s.loop l).loss] ++
    [BitVec.ofNat 8 (s.loop l).grants.length] ++ (s.loop l).grants.map (fun p => BitVec.ofNat 8 p.val) ++
    List.replicate (2 - (s.loop l).grants.length) 0xFF ++
    [BitVec.ofNat 8 (s.loop l).queue.length] ++ (s.loop l).queue.map (fun p => BitVec.ofNat 8 p.val) ++
    List.replicate (8 - (s.loop l).queue.length) 0xFF

/-- POSITION in the order of R180. -/
def PositionBytes (x : Position) : List Byte :=
  [BitVec.ofNat 8 x.cfg.cls.code, BitOf x.cfg.precool, OneOr (x.cfg.loop.map Fin.val), BitOf x.cfg.receiver,
   BitVec.ofNat 8 x.cfg.reaction.code, BitVec.ofNat 8 x.cfg.gramsPerPulse, BitVec.ofNat 8 x.cfg.ventTime,
   BitVec.ofNat 8 x.ses.state.code, OneOr (x.ses.boundHold.map Fin.val), OneOr (x.ses.lastHold.map Fin.val),
   OneOr (x.ses.mode.map Mode.code)] ++
    Two x.ses.target ++ Two x.ses.rateLimit ++ TwoOr x.ses.pendingRate ++ Two x.ses.effRate ++ Two x.ses.ceiling ++
    TwoOr x.ses.hose ++
    [OneOr (x.ses.current.map Fin.val), OneOr (x.ses.staged.map Fin.val), BitVec.ofNat 8 x.ses.cursor.code,
     BitVec.ofNat 8 ((if x.ses.causes.noBank = true then 1 else 0) + (if x.ses.causes.precool = true then 2 else 0) +
       (if x.ses.causes.vehicle = true then 4 else 0) + (if x.ses.causes.host = true then 8 else 0)),
     BitVec.ofNat 8 x.ses.steps] ++
    Two x.ses.initial ++ StampOf x.ses.coupledStamp ++ StampOf x.ses.fuelStamp ++ StampOf x.ses.endStamp ++
    [OneOr (x.ses.endReason.map EndReason.code)] ++ VehicleBytes x ++
    [OneOr (x.ses.supply.map Fin.val), BitVec.ofNat 8 x.ses.control.code, BitVec.ofNat 8 x.ses.vent.code] ++
    Two x.cfg.freshnessTime ++ Four x.meter.metered ++ TwoOr x.meter.period ++ Two x.meter.flow ++
    [BitOf x.tmr.stall.isSome] ++ Four x.meter.stray

/-- HOLD in the order of R180. -/
def HoldBytes (k : Hold) : List Byte :=
  [BitVec.ofNat 8 k.state.code] ++ Four k.account ++ [BitVec.ofNat 8 k.permit.code, BitVec.ofNat 8 k.kind.code] ++
    Four k.limit ++ [BitVec.ofNat 8 k.plan.val] ++ FourOr k.price ++ FourOr k.massCeiling ++
    [OneOr (k.position.map Fin.val)] ++ Four k.mark ++ Four k.conditioning ++ Four k.sold ++ Four k.overrun ++
    Four k.amount ++ StampOf k.openStamp ++ StampOf k.bindStamp ++ StampOf k.settleStamp ++
    [OneOr (k.endReason.map EndReason.code)]

/-- The bytes of a record, its fields in the order of R180. -/
def RecordBytes (ref : RecordRef) (s : State) : List Byte :=
  match ref with
  | .station => StationBytes s
  | .bank b => BankBytes (s.bank b)
  | .comp k => CompBytes (s.comp k)
  | .loop l => LoopBytes l s
  | .position p => PositionBytes (s.pos p)
  | .hold h => HoldBytes (s.hold h)
  | .tariff n => Four (s.plan n).bus35 ++ Four (s.plan n).car70
  | .table 0 => s.rampTable.toList.flatMap Two
  | .table 1 => s.targetTable.toList.flatMap Two
  | .table 2 => s.fullTable.toList.flatMap Two
  | .notice => Two s.notices.requests.toNat ++ Two s.notices.enables.toNat ++ [OneOr s.notices.top]

/-- The codes of the enumerated fields (R178, R179). -/
def CodesAreListed : Prop :=
  [Phase.setup, .service].map Phase.code = [0, 1] ∧ [HaltState.running, .halted].map HaltState.code = [0, 1] ∧
  [PortMode.mode0, .mode3].map PortMode.code = [0, 3] ∧
  [Tier.unused, .t1, .t2, .t3].map Tier.code = [0, 1, 2, 3] ∧
  [BankState.unused, .ready, .serving, .refilling, .isolated].map BankState.code = [0, 1, 2, 3, 4] ∧
  (∀ p : PosId, (Claimant.pos p).code = p.val) ∧ [Claimant.comp 0, .comp 1].map Claimant.code = [16, 17] ∧
  [IsoReason.host, .sensor, .overpressure, .overtemp, .leak].map IsoReason.code = [0, 1, 2, 3, 4] ∧
  [CompState.stopped, .starting, .running, .unloading, .faulted].map CompState.code = [0, 1, 2, 3, 4] ∧
  [ChillerState.off, .waitingPower, .running].map ChillerState.code = [0, 1, 2] ∧
  [Band.cold, .cool, .lost].map Band.code = [0, 1, 2] ∧
  [PosClass.unused, .bus35, .car70].map PosClass.code = [0, 1, 2] ∧
  [SessionState.idle, .authorised, .cooling, .pulsing, .checking, .fuelling, .held, .venting, .done].map
    SessionState.code = [0, 1, 2, 3, 4, 5, 6, 7, 8] ∧
  [Mode.comm, .noncomm].map Mode.code = [0, 1] ∧ [Reaction.immediate, .atStep].map Reaction.code = [0, 1] ∧
  [VehCommand.run, .halt, .abort].map VehCommand.code = [0, 1, 2] ∧
  [Fallback.none, .deferred, .applied].map Fallback.code = [0, 1, 2] ∧
  [Valve.closed, .opened].map Valve.code = [0, 1] ∧
  [HoldState.free, .opened, .bound, .settled].map HoldState.code = [0, 1, 2, 3] ∧
  [Permit.bus35, .car70, .either].map Permit.code = [1, 2, 3] ∧ [LimitKind.mass, .money].map LimitKind.code = [0, 1] ∧
  [EndReason.fullPressure, .fullSoc, .limitMass, .limitMoney, .hostStop, .tankHot, .vehicleAbort, .vehicleHalt,
    .noSupply, .precoolTimeout, .precoolLost, .stall, .sensor, .leak, .lowStart, .stationHalt, .cleared, .heldTimeout,
    .uncoupled].map EndReason.code = List.range 19 ∧
  [Result.ok, .framing, .length, .noRecord, .noField, .noVerb, .readOnly, .range, .state, .busy, .phase, .halted,
    .noWindow].map Result.code = List.range 13

/-- O44. A poll of no bits, of one byte or of a header with operation NOOP in whole bytes clocks out the status byte,
the top notice, the requests and then zeros, and changes nothing; with bits left over a NOOP header is refused with
FRAMING. A LOOK of an existing record and field whose data bytes fit its count and the record's run clocks out those
four bytes, the gap 0 and the run's bytes, with result OK and nothing changed; a count past the run, or another number
of bytes, gives LENGTH, a field beyond the record's last NO_FIELD. A run is what the record's bytes hold from the
first byte of the named field on; the bytes of every kind of record are its fields in the order listed, numbers least
significant byte first, absent ones all ones, temperatures in offset form, enumerated ones by their codes, lists as a
count, the entries and unused ones (R158, R160, R161, R164, R178 to R180). -/
def Obligations.PollsAndLooksReadTheStation : Prop :=
  (∀ s : State, exec (.noop (.silent true)) s = .next { s with hostOut := [] }) ∧
  (∀ (first : Byte) (s : State), exec (.noop (.oneByte first true)) s = .next { s with hostOut := [Status s] }) ∧
  (∀ (cls : BitVec 4) (num field : Byte) (tail : Tail) (s : State), tail.served = true →
    (tail.extra = 0 → exec (.noop (.header cls num field tail)) s =
      .next { s with hostOut := FirstFour s ++ List.replicate tail.data.length 0 }) ∧
    (tail.extra ≠ 0 → exec (.noop (.header cls num field tail)) s =
      .next (s.refusedWith { op := 0, cls := cls, num := num, field := field, tail := tail } .framing))) ∧
  (∀ (cls : BitVec 4) (num field : Byte) (tail : Tail) (ref : RecordRef) (s : State), tail.served = true →
    tail.extra = 0 → (cls = 9 → s.port.window = some ref) → (cls ≠ 9 → recordOf cls.toNat num.toNat = some ref) →
    (tail.data.length = tail.count.toNat + 1 → field.toNat < ref.widths.length →
      (tail.count.toNat ≤ (ref.widths.drop field.toNat).sum → ListsFit s →
        exec (.look cls num field tail) s = .next { s with
          hostOut := FirstFour s ++ [0] ++ (runFrom ref field.toNat s).take tail.count.toNat,
          port := { s.port with lastResult := .ok } }) ∧
      ((ref.widths.drop field.toNat).sum < tail.count.toNat →
        exec (.look cls num field tail) s =
          .next (s.refusedWith { op := 1, cls := cls, num := num, field := field, tail := tail } .length))) ∧
    (tail.data.length = tail.count.toNat + 1 → ref.widths.length ≤ field.toNat →
      exec (.look cls num field tail) s =
        .next (s.refusedWith { op := 1, cls := cls, num := num, field := field, tail := tail } .noField)) ∧
    (tail.data.length ≠ tail.count.toNat + 1 →
      exec (.look cls num field tail) s =
        .next (s.refusedWith { op := 1, cls := cls, num := num, field := field, tail := tail } .length))) ∧
  (∀ (ref : RecordRef) (field : Nat) (s : State), ListsFit s →
    runFrom ref field s = (RecordBytes ref s).drop ((ref.widths.take field).sum)) ∧
  (∀ (ref : RecordRef) (s : State), ListsFit s → (RecordBytes ref s).length = ref.widths.sum) ∧
  CodesAreListed

/-- The transfer that a row with a whole header puts on the port; nothing for the other commands. -/
def RowRequest : Instr → Option Request
  | .look cls num field tail => some { op := 1, cls := cls, num := num, field := field, tail := tail }
  | .setFields cls num field tail => some { op := 2, cls := cls, num := num, field := field, tail := tail }
  | .clockWrite a tail => some (addrRequest a 2 0 0 tail)
  | .powerAllowanceWrite a tail => some (addrRequest a 2 0 6 tail)
  | .switchMarginWrite a tail => some (addrRequest a 2 0 8 tail)
  | .tierWrite a tail => some (addrRequest a 2 1 0 tail)
  | .ratedPressureWrite a tail => some (addrRequest a 2 1 1 tail)
  | .markWrite a .low tail => some (addrRequest a 2 1 2 tail)
  | .markWrite a .high tail => some (addrRequest a 2 1 3 tail)
  | .refillPriorityWrite a tail => some (addrRequest a 2 1 9 tail)
  | .capacityWrite a tail => some (addrRequest a 2 3 2 tail)
  | .classWrite a tail => some (addrRequest a 2 4 0 tail)
  | .rateLimitWrite a tail => some (addrRequest a 2 4 12 tail)
  | .strayMassClear a tail => some (addrRequest a 2 4 36 tail)
  | .errorCountClear a tail => some (addrRequest a 2 0 21 tail)
  | .enablesWrite a tail => some (addrRequest a 2 8 1 tail)
  | .start a tail => some (addrRequest a 3 0 0 tail)
  | .setup a tail => some (addrRequest a 3 0 1 tail)
  | .resume a tail => some (addrRequest a 3 0 2 tail)
  | .clear a tail => some (addrRequest a 3 0 3 tail)
  | .isolate a tail => some (addrRequest a 3 1 0 tail)
  | .restore a tail => some (addrRequest a 3 1 1 tail)
  | .refill a tail => some (addrRequest a 3 1 2 tail)
  | .cancelRefill a tail => some (addrRequest a 3 1 3 tail)
  | .withhold a tail => some (addrRequest a 3 2 0 tail)
  | .release a tail => some (addrRequest a 3 2 1 tail)
  | .clearFault a tail => some (addrRequest a 3 2 2 tail)
  | .authorise a tail => some (addrRequest a 3 4 0 tail)
  | .stop a tail => some (addrRequest a 3 4 1 tail)
  | .pause a tail => some (addrRequest a 3 4 2 tail)
  | .continue_ a tail => some (addrRequest a 3 4 3 tail)
  | .ack a tail => some (addrRequest a 3 8 0 tail)
  | .open_ a tail => some (addrRequest a 4 5 0 tail)
  | .retire a tail => some (addrRequest a 5 5 0 tail)
  | .select cls num field tail => some { op := 6, cls := cls, num := num, field := field, tail := tail }
  | _ => none

/-- Data bytes the count of a transfer asks for: one more on a LOOK, for the gap byte (R164). -/
def AskedBytes (r : Request) : Nat := if r.op = 1 then r.tail.count.toNat + 1 else r.tail.count.toNat

/-- O45. A served transfer with a whole header other than a poll is either taken, with result OK, or refused with one
other result: then nothing is written but the last result, the error count, up to 255, the first error code of a count
that was 0, and N1. Bits beyond whole bytes give FRAMING; else bytes after the header that differ from the count give
LENGTH; else a record number or class that names no record gives NO_RECORD, and class WINDOW with an empty window
NO_WINDOW, whenever the count is one its operation has. Bits that name no operation the part takes are refused: a
transfer with an incomplete last byte with FRAMING, a header cut short after two or three bytes with LENGTH; a whole
header whose operation code is 7 to 15, or whose ACT names a verb its class lacks, or whose OPEN or RETIRE a class
other than HOLD, with NO_VERB, when the count is right and the record exists. Nothing is written but the port's own
fields and N1 (R158, R159, R163 to R165, R167, R178). -/
def Obligations.FailingTransfersWriteNothing : Prop :=
  (∀ (c : Instr) (r : Request) (s : State), RowRequest c = some r → r.tail.served = true →
    ((∃ t, exec c s = .next t ∧ t.port.lastResult = .ok ∧ t.hostOut = s.reads r) ∨
      (∃ x : Result, x ≠ .ok ∧ exec c s = .next (s.refusedWith r x))) ∧
    (r.tail.extra ≠ 0 → exec c s = .next (s.refusedWith r .framing)) ∧
    (r.tail.extra = 0 → r.tail.data.length ≠ AskedBytes r → exec c s = .next (s.refusedWith r .length)) ∧
    (r.tail.extra = 0 → r.tail.data.length = AskedBytes r → (r.op = 2 → r.tail.count ≠ 0) →
      (r.op = 4 → r.tail.count = 11) → (r.op = 5 ∨ r.op = 6 → r.tail.count = 0) →
      (r.cls = 9 → s.port.window = none → exec c s = .next (s.refusedWith r .noWindow)) ∧
      (r.cls ≠ 9 → recordOf r.cls.toNat r.num.toNat = none → exec c s = .next (s.refusedWith r .noRecord)))) ∧
  (∀ (t : Transfer) (s : State), t.served = true →
    (t.isFailed = true → ∃ (x : Result) (out : List Byte), x ≠ .ok ∧ exec (.failedTransfer t) s =
      .next { s with
        hostOut := out,
        port := { s.port with
          lastResult := x, errorCount := min 255 (s.port.errorCount + 1),
          firstError := if s.port.errorCount = 0 then some x else s.port.firstError },
        notices := s.notices.raise 1 }) ∧
    (t.extra ≠ 0 → ∃ u, exec (.failedTransfer t) s = .next u ∧ u.port.lastResult = .framing) ∧
    (t.extra = 0 → t.bytes.length = 2 ∨ t.bytes.length = 3 →
      ∃ u, exec (.failedTransfer t) s = .next u ∧ u.port.lastResult = .length) ∧
    (∀ (b0 num field count : Byte) (data : List Byte) (ref : RecordRef), t.extra = 0 →
      t.bytes = b0 :: num :: field :: count :: data → data.length = count.toNat →
      recordOf (b0.toNat % 16) num.toNat = some ref →
      (7 ≤ b0.toNat / 16 ∨ (b0.toNat / 16 = 3 ∧ verbOf ref field.toNat = none) ∨
        (b0.toNat / 16 = 4 ∧ count = 11 ∧ b0.toNat % 16 ≠ 5) ∨ (b0.toNat / 16 = 5 ∧ count = 0 ∧ b0.toNat % 16 ≠ 5)) →
      ∃ u, exec (.failedTransfer t) s = .next u ∧ u.port.lastResult = .noVerb))

/-- O46. SELECT makes an existing record of any class but WINDOW the window and changes nothing else; on class WINDOW
it is refused with NO_VERB, or NO_WINDOW when the window is empty. Any other transfer of class WINDOW does exactly
what the same transfer of the windowed record's own class and number does (R167). -/
def Obligations.SelectAndTheWindow : Prop :=
  (∀ (cls : BitVec 4) (num field : Byte) (tail : Tail) (s : State), tail.Whole 0 →
    (∀ ref : RecordRef, cls ≠ 9 → recordOf cls.toNat num.toNat = some ref →
      exec (.select cls num field tail) s = .next { s with
        hostOut := s.reads { op := 6, cls := cls, num := num, field := field, tail := tail },
        port := { s.port with lastResult := .ok, window := some ref } }) ∧
    (cls ≠ 9 → recordOf cls.toNat num.toNat = none →
      exec (.select cls num field tail) s =
        .next (s.refusedWith { op := 6, cls := cls, num := num, field := field, tail := tail } .noRecord)) ∧
    (cls = 9 → exec (.select cls num field tail) s =
      .next (s.refusedWith { op := 6, cls := cls, num := num, field := field, tail := tail }
        (if s.port.window = none then .noWindow else .noVerb)))) ∧
  (∀ (r : Request) (ref : RecordRef) (s : State), r.cls = 9 → r.op ≠ 6 → s.port.window = some ref →
    portRequest r s =
      portRequest { r with cls := BitVec.ofNat 4 ref.codes.1, num := BitVec.ofNat 8 ref.codes.2 } s) ∧
  (∀ (c : Instr) (r : Request) (s : State), RowRequest c = some r → exec c s = .next (portRequest r s))

/-- O47. A served summary transfer clocks out, from one snapshot, the phase and halt flags, the session states of P0
to P7, the bank states of B0 to B11, the compressor states of K0 and K1, the bands of L0 and L1, the count of SETTLED
holds and granted power, and zeros beyond its 28 bytes; it changes no record. A transfer the port does not serve, its
select asserted while a summary transfer runs, has no result and applies nothing: the host reads bytes without defined
values (free, log 7) and nothing changes; a summary select asserted during a port transfer clocks out nothing (R168,
R169, R181). -/
def Obligations.SummariesAndUnservedTransfers : Prop :=
  (∀ (bytes : Nat) (extra : Fin 8) (s : State), ∃ out : List Byte,
    exec (.summaryTransfer bytes extra true) s = .next { s with hostOut := out } ∧
    out.take bytes =
      (([BitVec.ofNat 8 ((if s.station.phase = .service then 1 else 0) + (if s.station.halt = .halted then 2 else 0))] ++
        (List.finRange 8).map (fun p => BitVec.ofNat 8 (s.pos p).ses.state.code) ++
        (List.finRange 12).map (fun b => BitVec.ofNat 8 (s.bank b).state.code) ++
        (List.finRange 2).map (fun k => BitVec.ofNat 8 (s.comp k).state.code) ++
        (List.finRange 2).map (fun l => BitVec.ofNat 8 (s.loop l).band.code) ++
        [BitVec.ofNat 8 ((List.finRange 32).filter (fun h => decide ((s.hold h).state = .settled))).length,
         BitVec.ofNat 8 s.granted, BitVec.ofNat 8 (s.granted / 256)] ++
        List.replicate (bytes - 28) (0 : Byte)).take bytes) ∧
    out.length = bytes + (if extra = 0 then 0 else 1)) ∧
  ((∀ (c : Instr) (r : Request) (s : State), RowRequest c = some r → r.tail.served = false →
    ∃ (out : List Byte) (n : Nat), out.length = 4 + r.tail.data.length ∧
      exec c s = .next { s with hostOut := out, freeIndex := n }) ∧
  (∀ (t : Transfer) (s : State), t.served = false →
    ∃ (out : List Byte) (n : Nat), exec (.failedTransfer t) s = .next { s with hostOut := out, freeIndex := n }) ∧
  (∀ (bytes : Nat) (extra : Fin 8) (s : State), exec (.summaryTransfer bytes extra false) s = .next s))

/-! ### Station writes and notices -/

/-- O48. The clock takes any value written. The switch margin, 0.50 to 10.00 MPa, is set and every entry of the wait
list takes its position's hose pressure plus the new margin as need level. Suction minimum, leak allowance, leak
window, taper mass, grace mass, stall window and deferral limit are set within their ranges and change nothing else. A
value outside its range is refused with RANGE. A write of 0 to the error count clears it and the first error code; any
other value is refused with RANGE (R1, R2, R3, R35, R166). -/
def Obligations.StationWrites : Prop :=
  ∀ (a : Addr) (tail : Tail) (s : State), a.Names .station s.port.window →
    (∀ n : Nat, tail.Whole 4 → n = leValue tail.data →
      exec (.clockWrite a tail) s = .next { s.answered (addrRequest a 2 0 0 tail) with
        station := { s.station with clock := BitVec.ofNat 32 n } }) ∧
    (∀ n : Nat, tail.Whole 2 → n = leValue tail.data →
      (n < 50 ∨ 1000 < n →
        exec (.switchMarginWrite a tail) s = .next (s.refusedWith (addrRequest a 2 0 8 tail) .range)) ∧
      (50 ≤ n → n ≤ 1000 → (∀ e ∈ s.waitList, (s.pos e.pos).ses.hose.isSome = true) →
        exec (.switchMarginWrite a tail) s = .next { s.answered (addrRequest a 2 0 8 tail) with
          station := { s.station with switchMargin := n },
          waitList := s.waitList.map (fun e => { e with need := (s.pos e.pos).ses.hose.getD 0 + n }) })) ∧
    (∀ (field : Byte) (lo hi n : Nat) (st : Station), tail.Whole 2 → n = leValue tail.data →
      ((field = 9 ∧ lo = 50 ∧ hi = 2000 ∧ st = { s.station with suctionMin := n }) ∨
        (field = 12 ∧ lo = 10 ∧ hi = 500 ∧ st = { s.station with leakAllowance := n }) ∨
        (field = 13 ∧ lo = 60 ∧ hi = 3600 ∧ st = { s.station with leakWindow := n }) ∨
        (field = 14 ∧ lo = 0 ∧ hi = 5000 ∧ st = { s.station with taperMass := n }) ∨
        (field = 15 ∧ lo = 0 ∧ hi = 1000 ∧ st = { s.station with graceMass := n })) →
      (n < lo ∨ hi < n →
        exec (.setFields 0 0 field tail) s =
          .next (s.refusedWith { op := 2, cls := 0, num := 0, field := field, tail := tail } .range)) ∧
      (lo ≤ n → n ≤ hi →
        exec (.setFields 0 0 field tail) s =
          .next { s.answered { op := 2, cls := 0, num := 0, field := field, tail := tail } with station := st })) ∧
    (∀ (field : Byte) (lo hi n : Nat) (st : Station), tail.Whole 1 → n = leValue tail.data →
      ((field = 16 ∧ lo = 5 ∧ hi = 120 ∧ st = { s.station with stallWindow := n }) ∨
        (field = 17 ∧ lo = 1 ∧ hi = 30 ∧ st = { s.station with deferralLimit := n })) →
      (n < lo ∨ hi < n →
        exec (.setFields 0 0 field tail) s =
          .next (s.refusedWith { op := 2, cls := 0, num := 0, field := field, tail := tail } .range)) ∧
      (lo ≤ n → n ≤ hi →
        exec (.setFields 0 0 field tail) s =
          .next { s.answered { op := 2, cls := 0, num := 0, field := field, tail := tail } with station := st })) ∧
    (tail.Whole 1 →
      (leValue tail.data = 0 →
        exec (.errorCountClear a tail) s = .next { s.answered (addrRequest a 2 0 21 tail) with
          port := { s.port with lastResult := .ok, errorCount := 0, firstError := none } }) ∧
      (leValue tail.data ≠ 0 →
        exec (.errorCountClear a tail) s = .next (s.refusedWith (addrRequest a 2 0 21 tail) .range)))

/-- The read-only fields of a record (R180). -/
def ReadOnlyFields : RecordRef → List Nat
  | .station => [1, 2, 3, 4, 5, 7, 10, 11, 18, 19, 20, 22, 23]
  | .bank _ => [4, 5, 6, 7, 8, 10, 11, 12, 13]
  | .comp _ => [0, 5, 6, 7, 8]
  | .loop _ => [0, 6, 7, 8, 9, 10, 11, 12]
  | .position _ =>
    [7, 8, 9, 10, 11, 13, 14, 15, 16, 17, 18, 19, 20, 21, 22, 23, 24, 25, 26, 27, 28, 29, 30, 32, 33, 34, 35]
  | .hold _ => [0, 6, 7, 8, 9, 10, 11, 12, 13, 14, 15, 16, 17]
  | .tariff _ | .table _ => []
  | .notice => [0, 2]

/-- A SET of one field by its own number, judged: a SETUP-only field in SERVICE is refused with PHASE; else a record
not in a state that allows it with STATE; else a value outside `lo` to `hi` with RANGE; else the write leaves `t`
(R162, R164). -/
def SetJudged (s : State) (r : Request) (setupOnly : Bool) (allowed : Prop) (lo hi : Nat) (t : State) : Prop :=
  let answer := exec (.setFields r.cls r.num r.field r.tail) s
  (setupOnly = true ∧ s.station.phase = .service → answer = .next (s.refusedWith r .phase)) ∧
  (¬(setupOnly = true ∧ s.station.phase = .service) →
    (¬ allowed → answer = .next (s.refusedWith r .state)) ∧
    (allowed → leValue r.tail.data < lo ∨ hi < leValue r.tail.data → answer = .next (s.refusedWith r .range)) ∧
    (allowed → lo ≤ leValue r.tail.data → leValue r.tail.data ≤ hi → answer = .next t))

/-- SETs of the writable COMPRESSOR fields (R40, R42). -/
def CompressorSets (s : State) : Prop :=
  ∀ (k : CompId) (r : Request) (v : Nat), r.op = 2 → r.cls = 2 → r.num.toNat = k.val → v = leValue r.tail.data →
    (r.field = 1 → r.tail.Whole 1 → SetJudged s r true True 1 3 { s.answered r with
      comps := s.comps.set k { s.comp k with reach := if v = 1 then .t1 else if v = 2 then .t2 else .t3 } }) ∧
    (r.field = 2 → r.tail.Whole 2 → SetJudged s r true True 1 2000 { s.answered r with
      comps := s.comps.set k { s.comp k with draw := v } }) ∧
    (r.field = 3 → r.tail.Whole 1 → SetJudged s r false True 5 120 { s.answered r with
      comps := s.comps.set k { s.comp k with startTime := v } }) ∧
    (r.field = 4 → r.tail.Whole 1 → SetJudged s r false True 5 120 { s.answered r with
      comps := s.comps.set k { s.comp k with unloadTime := v } })

/-- SETs of LOOP fields 1, 3, 4 and 5, one at a time (R67, R68). -/
def LoopSets (s : State) : Prop :=
  ∀ (l : LoopId) (r : Request) (v : Nat), r.op = 2 → r.cls = 3 → r.num.toNat = l.val → v = leValue r.tail.data →
    r.tail.Whole 2 →
    (r.field = 1 → SetJudged s r true True 1 2000 { s.answered r with
      loops := s.loops.set l { s.loop l with draw := v } }) ∧
    (r.field = 3 → SetJudged s r false True 0 (min 60000 (s.loop l).capacity) { s.answered r with
      loops := s.loops.set l { s.loop l with floor := v } }) ∧
    (r.field = 4 → SetJudged s r true True 1 1000 { s.answered r with
      loops := s.loops.set l { s.loop l with recharge := v } }) ∧
    (r.field = 5 → SetJudged s r true True 1 1000 { s.answered r with
      loops := s.loops.set l { s.loop l with consumption := v } })

/-- `s` after a taken SET that leaves this configuration at a position. -/
def Reconfigured (s : State) (r : Request) (p : PosId) (cfg : PosConfig) : State :=
  { s.answered r with positions := s.positions.set p { s.pos p with cfg := cfg } }

/-- SETs of POSITION fields 1 to 6 and 31 (R86, R87, R127). -/
def PositionSets (s : State) : Prop :=
  ∀ (p : PosId) (r : Request) (v : Nat), r.op = 2 → r.cls = 4 → r.num.toNat = p.val → v = leValue r.tail.data →
    (r.tail.Whole 1 →
      (r.field = 1 → SetJudged s r true ((s.pos p).cfg.cls ≠ .unused) (if (s.pos p).cfg.cls = .car70 then 1 else 0) 1
        (Reconfigured s r p { (s.pos p).cfg with
          precool := decide (v = 1), loop := if v = 1 then (s.pos p).cfg.loop else none })) ∧
      (r.field = 2 → SetJudged s r true ((s.pos p).cfg.precool = true) 0 1
        (Reconfigured s r p { (s.pos p).cfg with loop := if v = 0 then some 0 else some 1 })) ∧
      (r.field = 3 → SetJudged s r true ((s.pos p).cfg.cls = .car70) 0 1
        (Reconfigured s r p { (s.pos p).cfg with receiver := decide (v = 1) })) ∧
      (r.field = 4 → SetJudged s r true True 0 1
        (Reconfigured s r p { (s.pos p).cfg with reaction := if v = 0 then .immediate else .atStep })) ∧
      (r.field = 5 → SetJudged s r true True 1 20 (Reconfigured s r p { (s.pos p).cfg with gramsPerPulse := v })) ∧
      (r.field = 6 → SetJudged s r false True 1 30 (Reconfigured s r p { (s.pos p).cfg with ventTime := v }))) ∧
    (r.tail.Whole 2 → r.field = 31 →
      SetJudged s r true True 500 5000 (Reconfigured s r p { (s.pos p).cfg with freshnessTime := v }))

/-- SETs of HOLD fields 1 to 5, taken while the hold is OPEN (R147, R148). -/
def HoldSets (s : State) : Prop :=
  ∀ (h : HoldId) (r : Request) (v : Nat), r.op = 2 → r.cls = 5 → r.num.toNat = h.val → v = leValue r.tail.data →
    (r.tail.Whole 4 →
      (r.field = 1 → SetJudged s r false ((s.hold h).state = .opened) 0 4294967295 { s.answered r with
        holds := s.holds.set h { s.hold h with account := v } }) ∧
      (r.field = 4 → SetJudged s r false ((s.hold h).state = .opened) 1 4294967295 { s.answered r with
        holds := s.holds.set h { s.hold h with limit := v } })) ∧
    (r.tail.Whole 1 →
      (r.field = 2 → SetJudged s r false ((s.hold h).state = .opened) 1 3 { s.answered r with
        holds := s.holds.set h { s.hold h with
          permit := if v = 1 then .bus35 else if v = 2 then .car70 else .either } }) ∧
      (r.field = 3 → SetJudged s r false ((s.hold h).state = .opened) 0 1 { s.answered r with
        holds := s.holds.set h { s.hold h with kind := if v = 0 then .mass else .money } }) ∧
      (r.field = 5 → SetJudged s r false ((s.hold h).state = .opened) 0 3 { s.answered r with
        holds := s.holds.set h { s.hold h with
          plan := if v = 0 then 0 else if v = 1 then 1 else if v = 2 then 2 else 3 } }))

/-- O49. A SET that covers a read-only field, of whatever record and wherever in its run, is refused with READ_ONLY. A
SET of one writable field of a TABLE, TARIFF, COMPRESSOR (fields 1 to 4), LOOP (1, 3, 4, 5), POSITION (1 to 6, 31) or
HOLD (1 to 5) record: PHASE in SERVICE where the field is SETUP-only; else STATE where the record's state forbids it
(precool required on an UNUSED position, the loop where precooling is not required, the receiver on a position not
CAR70, a hold that is not OPEN); else RANGE outside the field's range (precool cleared on CAR70, a floor above the
capacity); else the entry or field takes the value, clearing precool required makes the loop absent, and nothing else
changes (R40, R42, R67, R68, R86, R87, R127, R137, R146 to R148, R162, R164, R180). -/
def Obligations.TablesAndTariffsAreWritten : Prop :=
  (∀ (num field : Byte) (tail : Tail) (n : Fin 3) (s : State), num.toNat = n.val → tail.Whole 2 →
    field.toNat < ([7, 10, 8] : List Nat).getD n.val 0 →
    (s.station.phase = .service →
      exec (.setFields 7 num field tail) s =
        .next (s.refusedWith { op := 2, cls := 7, num := num, field := field, tail := tail } .phase)) ∧
    (∀ lo hi v : Nat, s.station.phase = .setup → v = leValue tail.data →
      ((n = 0 ∧ lo = 0 ∧ hi = 1000) ∨ (n = 1 ∧ field.toNat < 5 ∧ lo = 100 ∧ hi = 8750) ∨
        (n = 1 ∧ 5 ≤ field.toNat ∧ lo = 100 ∧ hi = 4375) ∨ (n = 2 ∧ lo = 100 ∧ hi = 8750)) →
      (v < lo ∨ hi < v →
        exec (.setFields 7 num field tail) s =
          .next (s.refusedWith { op := 2, cls := 7, num := num, field := field, tail := tail } .range)) ∧
      (lo ≤ v → v ≤ hi →
        ∃ t, exec (.setFields 7 num field tail) s = .next t ∧
          t = { s.answered { op := 2, cls := 7, num := num, field := field, tail := tail } with
            rampTable := t.rampTable, targetTable := t.targetTable, fullTable := t.fullTable } ∧
          (n = 0 → t.rampTable.toList = s.rampTable.toList.set field.toNat v) ∧
          (n ≠ 0 → t.rampTable = s.rampTable) ∧
          (n = 1 → t.targetTable.toList = s.targetTable.toList.set field.toNat v) ∧
          (n ≠ 1 → t.targetTable = s.targetTable) ∧
          (n = 2 → t.fullTable.toList = s.fullTable.toList.set field.toNat v) ∧
          (n ≠ 2 → t.fullTable = s.fullTable)))) ∧
  (∀ (num field : Byte) (tail : Tail) (n : PlanId) (v : Nat) (s : State), num.toNat = n.val → tail.Whole 4 →
    (field = 0 ∨ field = 1) → v = leValue tail.data →
    (v = 0 ∨ 1000000 < v →
      exec (.setFields 6 num field tail) s =
        .next (s.refusedWith { op := 2, cls := 6, num := num, field := field, tail := tail } .range)) ∧
    (1 ≤ v → v ≤ 1000000 →
      exec (.setFields 6 num field tail) s =
        .next { s.answered { op := 2, cls := 6, num := num, field := field, tail := tail } with
          plans := s.plans.set n
            { bus35 := if field = 0 then v else (s.plan n).bus35,
              car70 := if field = 1 then v else (s.plan n).car70 } })) ∧
  (∀ (cls : BitVec 4) (num field : Byte) (tail : Tail) (ref : RecordRef) (n f : Nat) (s : State),
    (cls = 9 → s.port.window = some ref) → (cls ≠ 9 → recordOf cls.toNat num.toNat = some ref) →
    field.toNat + n ≤ ref.widths.length → tail.Whole ((ref.widths.drop field.toNat).take n).sum →
    f ∈ ReadOnlyFields ref → field.toNat ≤ f → f < field.toNat + n →
    exec (.setFields cls num field tail) s =
      .next (s.refusedWith { op := 2, cls := cls, num := num, field := field, tail := tail } .readOnly)) ∧
  ∀ s : State, CompressorSets s ∧ LoopSets s ∧ PositionSets s ∧ HoldSets s

/-- O50. ACK clears exactly the requests its mask names and a SET of the enables sets them, with nothing else changed;
the notice line is active exactly while some request is set and enabled, and the top notice is the lowest such;
raising a request sets its flag alone (R170 to R173). -/
def Obligations.NoticesAreAcknowledgedAndEnabled : Prop :=
  (∀ (a : Addr) (tail : Tail) (lo hi : Byte) (s : State), a.Names .notice s.port.window → tail.Whole 2 →
    tail.data = [lo, hi] →
    exec (.ack a tail) s = .next { s.answered (addrRequest a 3 8 0 tail) with
      notices := { s.notices with requests := s.notices.requests &&& ~~~(hi ++ lo) } } ∧
    exec (.enablesWrite a tail) s = .next { s.answered (addrRequest a 2 8 1 tail) with
      notices := { s.notices with enables := hi ++ lo } }) ∧
  (∀ n : Notices,
    (n.line = true ↔ ∃ i : Fin 16, n.requests.getLsbD i.val = true ∧ n.enables.getLsbD i.val = true) ∧
    (n.line = false → n.top = none) ∧
    (∀ i : Fin 16, n.top = some i.val ↔
      (n.requests.getLsbD i.val = true ∧ n.enables.getLsbD i.val = true ∧
        ∀ j : Fin 16, j < i → ¬(n.requests.getLsbD j.val = true ∧ n.enables.getLsbD j.val = true)))) ∧
  (∀ (n : Notices) (i j : Fin 16),
    (n.raise i.val).requests.getLsbD j.val = (n.requests.getLsbD j.val || decide (i = j)) ∧
    (n.raise i.val).enables = n.enables)

/-! ### Phases, RESUME, CLEAR -/

/-- A loop as the start of its ticks leaves it: tick timer at 1 s, band computed at once (R73). -/
def TicksStarted (x : Loop) : Loop := { x with tick := some 1000, band := BandOf x.outlet x.reserve }

/-- A position that START lets into SERVICE (R176). -/
def Configured (s : State) (p : PosId) : Prop :=
  (s.pos p).cfg.cls = .unused ∨
  (¬((s.pos p).cfg.precool = true ∧ (s.pos p).cfg.loop = none) ∧
    ((s.pos p).cfg.cls = .bus35 → (∃ b, (s.bank b).tier = .t1) ∧ ∃ b, (s.bank b).tier = .t2) ∧
    ((s.pos p).cfg.cls = .car70 → (∃ b, (s.bank b).tier = .t2) ∧ ∃ b, (s.bank b).tier = .t3))

/-- SETUP may leave SERVICE: every session IDLE, no compressor busy, no hold BOUND (R177). -/
def SetupAllowed (s : State) : Prop :=
  (∀ p : PosId, (s.pos p).ses.state = .idle) ∧
  (∀ k : CompId, (s.comp k).state = .stopped ∨ (s.comp k).state = .faulted) ∧
  ∀ h : HoldId, (s.hold h).state ≠ .bound

/-- O51. START in SETUP and RUNNING with every position configured makes the phase SERVICE, starts the ticks, and an
evaluation is made; it is refused with PHASE in SERVICE, HALTED while HALTED, STATE with a position not configured.
SETUP in SERVICE with every session IDLE, no compressor busy and no hold BOUND makes the phase SETUP, stops the ticks,
turns the chillers OFF and takes the loss counts to 0; PHASE in SETUP, else STATE. RESUME while HALTED with ESD
released makes the station RUNNING, in SERVICE starts the ticks and makes an evaluation (in SETUP one does nothing);
else STATE (R17, R49 to R51, R73, R83, R176, R177). -/
def Obligations.PhaseVerbs : Prop :=
  ∀ (a : Addr) (tail : Tail) (s : State), a.Names .station s.port.window → tail.Whole 0 →
    (s.station.phase = .service →
      exec (.start a tail) s = .next (s.refusedWith (addrRequest a 3 0 0 tail) .phase)) ∧
    (s.station.phase = .setup → s.station.halt = .halted →
      exec (.start a tail) s = .next (s.refusedWith (addrRequest a 3 0 0 tail) .halted)) ∧
    (s.station.phase = .setup → s.station.halt = .running → ¬(∀ p : PosId, Configured s p) →
      exec (.start a tail) s = .next (s.refusedWith (addrRequest a 3 0 0 tail) .state)) ∧
    (s.station.phase = .setup → s.station.halt = .running → (∀ p : PosId, Configured s p) →
      ∃ t, exec (.start a tail) s = .next t ∧ s.Taken t (addrRequest a 3 0 0 tail) ∧
        t.station = { s.station with phase := .service } ∧ (∀ l : LoopId, t.loop l = TicksStarted (s.loop l)) ∧
        t.positions = s.positions ∧ t.holds = s.holds ∧ t.notices = s.notices ∧ t.waitList = s.waitList ∧
        (s.suction = .short → t.banks = s.banks ∧ t.comps = s.comps ∧ t.refillQueue = s.refillQueue) ∧
        EvaluationMade { s.answered (addrRequest a 3 0 0 tail) with
          station := { s.station with phase := .service }, loops := s.loops.map TicksStarted } t) ∧
    (s.station.phase = .setup → exec (.setup a tail) s = .next (s.refusedWith (addrRequest a 3 0 1 tail) .phase)) ∧
    (s.station.phase = .service → ¬ SetupAllowed s →
      exec (.setup a tail) s = .next (s.refusedWith (addrRequest a 3 0 1 tail) .state)) ∧
    (s.station.phase = .service → SetupAllowed s →
      ∃ t, exec (.setup a tail) s = .next t ∧
        t = { s.answered (addrRequest a 3 0 1 tail) with
          station := { s.station with phase := .setup }, powerQueue := [], loops := t.loops } ∧
        ∀ l : LoopId, t.loop l = { s.loop l with tick := none, chiller := .off, loss := 0 }) ∧
    (s.station.halt = .running ∨ s.station.inputs.esd = true →
      exec (.resume a tail) s = .next (s.refusedWith (addrRequest a 3 0 2 tail) .state)) ∧
    (s.station.halt = .halted → s.station.inputs.esd = false →
      (s.station.phase = .setup → exec (.resume a tail) s = .next { s.answered (addrRequest a 3 0 2 tail) with
        station := { s.station with halt := .running } }) ∧
      (s.station.phase = .service →
        ∃ t, exec (.resume a tail) s = .next t ∧ s.Taken t (addrRequest a 3 0 2 tail) ∧
          t.station = { s.station with halt := .running } ∧ (∀ l : LoopId, t.loop l = TicksStarted (s.loop l)) ∧
          t.positions = s.positions ∧ t.holds = s.holds ∧ t.notices = s.notices ∧ t.waitList = s.waitList ∧
          (s.suction = .short → t.banks = s.banks ∧ t.comps = s.comps ∧ t.refillQueue = s.refillQueue) ∧
          EvaluationMade { s.answered (addrRequest a 3 0 2 tail) with
            station := { s.station with halt := .running }, loops := s.loops.map TicksStarted } t))

/-- O52. CLEAR, in either phase and halt state: claimed banks are READY without a join or an offer, the wait list and
the refill queue empty; no compressor is STARTING, RUNNING or UNLOADING; grants, wait queues and loss counts are gone;
chillers and the waiting order stand, but the power the compressors release serves the order, once; every session is
IDLE, one that was not with reason CLEARED and the clock as end stamp, its bound hold settled with CLEARED; every
request is clear but N10, set when a hold was settled; the station record, the configuration and the link's channels
stand (R18, R38, R63, R65, R84, R106, R155, R171). -/
def Obligations.ClearTearsEverythingDown : Prop :=
  ∀ (a : Addr) (tail : Tail) (s : State), a.Names .station s.port.window → tail.Whole 0 → s.HoldsAgree →
    ∃ t, exec (.clear a tail) s = .next t ∧ s.Taken t (addrRequest a 3 0 3 tail) ∧ t.station = s.station ∧
      t.waitList = [] ∧ t.refillQueue = [] ∧
      (∀ b : BankId,
        ((s.bank b).state = .serving ∨ (s.bank b).state = .refilling →
          (t.bank b).state = .ready ∧ (t.bank b).claimant = none ∧ (t.bank b).leakRef = (s.bank b).pressure ∧
          (t.bank b).leakStamp = some s.station.clock ∧
          (t.bank b).leakTimer = some (s.station.leakWindow * 1000)) ∧
        (¬((s.bank b).state = .serving ∨ (s.bank b).state = .refilling) → t.bank b = s.bank b)) ∧
      (∀ k : CompId,
        ((s.comp k).state = .faulted ∨ (s.comp k).state = .stopped → t.comp k = s.comp k) ∧
        (¬((s.comp k).state = .faulted ∨ (s.comp k).state = .stopped) →
          t.comp k = { s.comp k with state := .stopped, bank := none, startTimer := none, unloadTimer := none })) ∧
      (∀ l : LoopId, t.loop l = { s.loop l with grants := [], queue := [], loss := 0, chiller := (t.loop l).chiller }) ∧
      ((∃ k : CompId, (s.comp k).active = true) →
        t.powerQueue = (ServedOrder { s with comps := t.comps }).powerQueue ∧
        ∀ l : LoopId, (t.loop l).chiller = ((ServedOrder { s with comps := t.comps }).loop l).chiller) ∧
      ((∀ k : CompId, (s.comp k).active = false) →
        t.powerQueue = s.powerQueue ∧ ∀ l : LoopId, (t.loop l).chiller = (s.loop l).chiller) ∧
      (∀ p : PosId,
        ((s.pos p).ses.state = .idle → t.pos p = s.pos p) ∧
        ((s.pos p).ses.state ≠ .idle →
          t.pos p = EnteredIdle { s.pos p with
            ses := { (s.pos p).ses with endReason := some .cleared, endStamp := some s.station.clock } })) ∧
      (∀ h : HoldId,
        ((s.hold h).state = .bound → (s.hold h).conditioning + (s.hold h).sold ≤ 4294967295 →
          t.hold h = SettledWith (s.hold h) .cleared s.station.graceMass s.station.clock) ∧
        ((s.hold h).state ≠ .bound → t.hold h = s.hold h)) ∧
      t.notices.enables = s.notices.enables ∧
      ((∃ h : HoldId, (s.hold h).state = .bound) → t.notices.requests = 1024) ∧
      ((∀ h : HoldId, (s.hold h).state ≠ .bound) → t.notices.requests = 0) ∧
      s.SameSettings t ∧ ∀ c : Channel, t.link.chan c = s.link.chan c ∧ t.reading c = s.reading c

/-! ### Invariants -/

/-- O53. Every step keeps granted power within the power allowance, and SETUP free of running compressors, chillers,
ticks and power waits (R62, R64, R175). -/
def Obligations.PowerStaysWithinTheAllowance : Prop :=
  ∀ s t : State, s.PowerFits → s.SetupQuiet → step s = .next t → t.PowerFits ∧ t.SetupQuiet

/-- O54. Every step keeps each compressor in its row, each bank in its row, and the waiting order agreeing with the
chillers (R19, R27, R41, R71). -/
def Obligations.RecordsStayInTheirRows : Prop :=
  ∀ s t : State, step s = .next t →
    (s.CompRows → t.CompRows) ∧ (s.BankRows → t.BankRows) ∧ (s.WaitingOrder → t.WaitingOrder)

/-- O55. Every step keeps the refill queue free of double entries and of banks that may not wait, and in priority
order; each loop's reserve, loss count, grant set and wait queue within their bounds; and, with the loops in their
bounds, every grant holder attached to the loop and live, every position of a wait queue attached to the loop and
COOLING, so that no position is in the grants or queues of both, and every session IDLE in SETUP (R43, R67, R69, R78,
R175). -/
def Obligations.QueuesStayInOrder : Prop :=
  ∀ s t : State, step s = .next t →
    (s.QueueLaw → t.QueueLaw) ∧ (s.LoopsInRange → t.LoopsInRange) ∧
    (s.LoopsInRange → s.HoldersAttached → t.HoldersAttached)

/-- O56. Every step keeps each BOUND hold named by exactly one position of a charged session, and the sold mass of a
BOUND or SETTLED hold within its mass ceiling (R142, R149). -/
def Obligations.HoldsStayWithTheirPositions : Prop :=
  ∀ s t : State, s.HoldsAgree → s.SoldWithinCeiling → step s = .next t → t.HoldsAgree ∧ t.SoldWithinCeiling

/-- O57. Every step keeps a silence timer on exactly the GOOD channels, no waiting route frame behind an idle link,
and the first error code agreeing with the error count (R8, R10, R165). -/
def Obligations.LinkAndPortStayConsistent : Prop :=
  ∀ s t : State, step s = .next t →
    (s.SilenceRuns → t.SilenceRuns) ∧ (s.FramesInOrder → t.FramesInOrder) ∧ (s.ErrorsAgree → t.ErrorsAgree)

/-- O58. Every step keeps each session naming at most one bank, where it may name one, with its pulse timer and
wait-list entry to match; the loops stand within their bounds, which every step keeps (O55) (R88, R94, R97, R115). -/
def Obligations.SessionsNameOneBank : Prop :=
  ∀ s t : State, s.BankNaming → s.LoopsInRange → step s = .next t → t.BankNaming

/-- O59. Custody of a bank: with the rows of banks and compressors, the naming of banks, a quiet SETUP and the loops
within their bounds, which every step keeps (O53, O54, O55, O58), every step keeps the claimant of a bank and the
party that names it the same, a supply route only to the current bank, and every session IDLE in SETUP; so no bank
ever serves two parties (R31, R88, R175). -/
def Obligations.ClaimsAgreeOnBothSides : Prop :=
  ∀ s t : State, s.BankNaming → s.CompRows → s.BankRows → s.ClaimsAgree → s.SetupQuiet → s.LoopsInRange →
    step s = .next t →
    t.BankNaming ∧ t.CompRows ∧ t.BankRows ∧ t.ClaimsAgree

/-- O60. Right after reset every law that a step keeps holds (the straps and levels of State.reset are the model's
choice, log 4), and State.reset is what a master reset with those straps leaves, whatever went before, the queue and
the free-value counter aside (log 22). -/
def Obligations.ResetObeysEveryLaw : Prop :=
  (State.reset.PowerFits ∧ State.reset.SetupQuiet ∧ State.reset.CompRows ∧ State.reset.WaitingOrder ∧
    State.reset.BankRows ∧ State.reset.QueueLaw ∧ State.reset.LoopsInRange ∧ State.reset.HoldersAttached ∧
    State.reset.HoldsAgree ∧ State.reset.SoldWithinCeiling ∧ State.reset.SilenceRuns ∧ State.reset.FramesInOrder ∧
    State.reset.ErrorsAgree ∧
    State.reset.BankNaming ∧ State.reset.ClaimsAgree) ∧
  ∀ s : State, exec (.masterReset Straps.low) s =
    .next { State.reset with pending := s.pending, freeIndex := s.freeIndex }
end

