-- ==== Sys2Proof/Laws/State.lean ====
section
/-! SUPPORT. Reading a field after an update: for every primary update of Work one lemma per field of State, each true by
rfl, and what the element changed by an update reads afterwards. -/
namespace Sys2Proof.Machine

/-! ### modBank -/

@[simp] theorem Work.modBank_station (w : Work) (b : BankId) (f : Bank → Bank) :
    (w.modBank b f).station = w.station := rfl
@[simp] theorem Work.modBank_link (w : Work) (b : BankId) (f : Bank → Bank) :
    (w.modBank b f).link = w.link := rfl
@[simp] theorem Work.modBank_waitList (w : Work) (b : BankId) (f : Bank → Bank) :
    (w.modBank b f).waitList = w.waitList := rfl
@[simp] theorem Work.modBank_comps (w : Work) (b : BankId) (f : Bank → Bank) :
    (w.modBank b f).comps = w.comps := rfl
@[simp] theorem Work.modBank_refillQueue (w : Work) (b : BankId) (f : Bank → Bank) :
    (w.modBank b f).refillQueue = w.refillQueue := rfl
@[simp] theorem Work.modBank_suction (w : Work) (b : BankId) (f : Bank → Bank) :
    (w.modBank b f).suction = w.suction := rfl
@[simp] theorem Work.modBank_powerQueue (w : Work) (b : BankId) (f : Bank → Bank) :
    (w.modBank b f).powerQueue = w.powerQueue := rfl
@[simp] theorem Work.modBank_loops (w : Work) (b : BankId) (f : Bank → Bank) :
    (w.modBank b f).loops = w.loops := rfl
@[simp] theorem Work.modBank_positions (w : Work) (b : BankId) (f : Bank → Bank) :
    (w.modBank b f).positions = w.positions := rfl
@[simp] theorem Work.modBank_holds (w : Work) (b : BankId) (f : Bank → Bank) :
    (w.modBank b f).holds = w.holds := rfl
@[simp] theorem Work.modBank_plans (w : Work) (b : BankId) (f : Bank → Bank) :
    (w.modBank b f).plans = w.plans := rfl
@[simp] theorem Work.modBank_rampTable (w : Work) (b : BankId) (f : Bank → Bank) :
    (w.modBank b f).rampTable = w.rampTable := rfl
@[simp] theorem Work.modBank_targetTable (w : Work) (b : BankId) (f : Bank → Bank) :
    (w.modBank b f).targetTable = w.targetTable := rfl
@[simp] theorem Work.modBank_fullTable (w : Work) (b : BankId) (f : Bank → Bank) :
    (w.modBank b f).fullTable = w.fullTable := rfl
@[simp] theorem Work.modBank_port (w : Work) (b : BankId) (f : Bank → Bank) :
    (w.modBank b f).port = w.port := rfl
@[simp] theorem Work.modBank_notices (w : Work) (b : BankId) (f : Bank → Bank) :
    (w.modBank b f).notices = w.notices := rfl
@[simp] theorem Work.modBank_hostOut (w : Work) (b : BankId) (f : Bank → Bank) :
    (w.modBank b f).hostOut = w.hostOut := rfl
@[simp] theorem Work.modBank_freeIndex (w : Work) (b : BankId) (f : Bank → Bank) :
    (w.modBank b f).freeIndex = w.freeIndex := rfl
@[simp] theorem Work.modBank_pending (w : Work) (b : BankId) (f : Bank → Bank) :
    (w.modBank b f).pending = w.pending := rfl
@[simp] theorem Work.modBank_comp (w : Work) (b : BankId) (f : Bank → Bank) (x : CompId) :
    (w.modBank b f).comp x = w.comp x := rfl
@[simp] theorem Work.modBank_loop (w : Work) (b : BankId) (f : Bank → Bank) (x : LoopId) :
    (w.modBank b f).loop x = w.loop x := rfl
@[simp] theorem Work.modBank_pos (w : Work) (b : BankId) (f : Bank → Bank) (x : PosId) :
    (w.modBank b f).pos x = w.pos x := rfl
@[simp] theorem Work.modBank_hold (w : Work) (b : BankId) (f : Bank → Bank) (x : HoldId) :
    (w.modBank b f).hold x = w.hold x := rfl
@[simp] theorem Work.modBank_serveDue (w : Work) (b : BankId) (f : Bank → Bank) :
    (w.modBank b f).serveDue = w.serveDue := rfl
@[simp] theorem Work.modBank_evalDue (w : Work) (b : BankId) (f : Bank → Bank) :
    (w.modBank b f).evalDue = w.evalDue := rfl
@[simp] theorem Work.modBank_passedOver (w : Work) (b : BankId) (f : Bank → Bank) :
    (w.modBank b f).passedOver = w.passedOver := rfl

/-! ### modComp -/

@[simp] theorem Work.modComp_station (w : Work) (k : CompId) (f : Compressor → Compressor) :
    (w.modComp k f).station = w.station := rfl
@[simp] theorem Work.modComp_link (w : Work) (k : CompId) (f : Compressor → Compressor) :
    (w.modComp k f).link = w.link := rfl
@[simp] theorem Work.modComp_banks (w : Work) (k : CompId) (f : Compressor → Compressor) :
    (w.modComp k f).banks = w.banks := rfl
@[simp] theorem Work.modComp_waitList (w : Work) (k : CompId) (f : Compressor → Compressor) :
    (w.modComp k f).waitList = w.waitList := rfl
@[simp] theorem Work.modComp_refillQueue (w : Work) (k : CompId) (f : Compressor → Compressor) :
    (w.modComp k f).refillQueue = w.refillQueue := rfl
@[simp] theorem Work.modComp_suction (w : Work) (k : CompId) (f : Compressor → Compressor) :
    (w.modComp k f).suction = w.suction := rfl
@[simp] theorem Work.modComp_powerQueue (w : Work) (k : CompId) (f : Compressor → Compressor) :
    (w.modComp k f).powerQueue = w.powerQueue := rfl
@[simp] theorem Work.modComp_loops (w : Work) (k : CompId) (f : Compressor → Compressor) :
    (w.modComp k f).loops = w.loops := rfl
@[simp] theorem Work.modComp_positions (w : Work) (k : CompId) (f : Compressor → Compressor) :
    (w.modComp k f).positions = w.positions := rfl
@[simp] theorem Work.modComp_holds (w : Work) (k : CompId) (f : Compressor → Compressor) :
    (w.modComp k f).holds = w.holds := rfl
@[simp] theorem Work.modComp_plans (w : Work) (k : CompId) (f : Compressor → Compressor) :
    (w.modComp k f).plans = w.plans := rfl
@[simp] theorem Work.modComp_rampTable (w : Work) (k : CompId) (f : Compressor → Compressor) :
    (w.modComp k f).rampTable = w.rampTable := rfl
@[simp] theorem Work.modComp_targetTable (w : Work) (k : CompId) (f : Compressor → Compressor) :
    (w.modComp k f).targetTable = w.targetTable := rfl
@[simp] theorem Work.modComp_fullTable (w : Work) (k : CompId) (f : Compressor → Compressor) :
    (w.modComp k f).fullTable = w.fullTable := rfl
@[simp] theorem Work.modComp_port (w : Work) (k : CompId) (f : Compressor → Compressor) :
    (w.modComp k f).port = w.port := rfl
@[simp] theorem Work.modComp_notices (w : Work) (k : CompId) (f : Compressor → Compressor) :
    (w.modComp k f).notices = w.notices := rfl
@[simp] theorem Work.modComp_hostOut (w : Work) (k : CompId) (f : Compressor → Compressor) :
    (w.modComp k f).hostOut = w.hostOut := rfl
@[simp] theorem Work.modComp_freeIndex (w : Work) (k : CompId) (f : Compressor → Compressor) :
    (w.modComp k f).freeIndex = w.freeIndex := rfl
@[simp] theorem Work.modComp_pending (w : Work) (k : CompId) (f : Compressor → Compressor) :
    (w.modComp k f).pending = w.pending := rfl
@[simp] theorem Work.modComp_bank (w : Work) (k : CompId) (f : Compressor → Compressor) (x : BankId) :
    (w.modComp k f).bank x = w.bank x := rfl
@[simp] theorem Work.modComp_loop (w : Work) (k : CompId) (f : Compressor → Compressor) (x : LoopId) :
    (w.modComp k f).loop x = w.loop x := rfl
@[simp] theorem Work.modComp_pos (w : Work) (k : CompId) (f : Compressor → Compressor) (x : PosId) :
    (w.modComp k f).pos x = w.pos x := rfl
@[simp] theorem Work.modComp_hold (w : Work) (k : CompId) (f : Compressor → Compressor) (x : HoldId) :
    (w.modComp k f).hold x = w.hold x := rfl
@[simp] theorem Work.modComp_serveDue (w : Work) (k : CompId) (f : Compressor → Compressor) :
    (w.modComp k f).serveDue = w.serveDue := rfl
@[simp] theorem Work.modComp_evalDue (w : Work) (k : CompId) (f : Compressor → Compressor) :
    (w.modComp k f).evalDue = w.evalDue := rfl
@[simp] theorem Work.modComp_passedOver (w : Work) (k : CompId) (f : Compressor → Compressor) :
    (w.modComp k f).passedOver = w.passedOver := rfl

/-! ### modLoop -/

@[simp] theorem Work.modLoop_station (w : Work) (l : LoopId) (f : Loop → Loop) :
    (w.modLoop l f).station = w.station := rfl
@[simp] theorem Work.modLoop_link (w : Work) (l : LoopId) (f : Loop → Loop) :
    (w.modLoop l f).link = w.link := rfl
@[simp] theorem Work.modLoop_banks (w : Work) (l : LoopId) (f : Loop → Loop) :
    (w.modLoop l f).banks = w.banks := rfl
@[simp] theorem Work.modLoop_waitList (w : Work) (l : LoopId) (f : Loop → Loop) :
    (w.modLoop l f).waitList = w.waitList := rfl
@[simp] theorem Work.modLoop_comps (w : Work) (l : LoopId) (f : Loop → Loop) :
    (w.modLoop l f).comps = w.comps := rfl
@[simp] theorem Work.modLoop_refillQueue (w : Work) (l : LoopId) (f : Loop → Loop) :
    (w.modLoop l f).refillQueue = w.refillQueue := rfl
@[simp] theorem Work.modLoop_suction (w : Work) (l : LoopId) (f : Loop → Loop) :
    (w.modLoop l f).suction = w.suction := rfl
@[simp] theorem Work.modLoop_powerQueue (w : Work) (l : LoopId) (f : Loop → Loop) :
    (w.modLoop l f).powerQueue = w.powerQueue := rfl
@[simp] theorem Work.modLoop_positions (w : Work) (l : LoopId) (f : Loop → Loop) :
    (w.modLoop l f).positions = w.positions := rfl
@[simp] theorem Work.modLoop_holds (w : Work) (l : LoopId) (f : Loop → Loop) :
    (w.modLoop l f).holds = w.holds := rfl
@[simp] theorem Work.modLoop_plans (w : Work) (l : LoopId) (f : Loop → Loop) :
    (w.modLoop l f).plans = w.plans := rfl
@[simp] theorem Work.modLoop_rampTable (w : Work) (l : LoopId) (f : Loop → Loop) :
    (w.modLoop l f).rampTable = w.rampTable := rfl
@[simp] theorem Work.modLoop_targetTable (w : Work) (l : LoopId) (f : Loop → Loop) :
    (w.modLoop l f).targetTable = w.targetTable := rfl
@[simp] theorem Work.modLoop_fullTable (w : Work) (l : LoopId) (f : Loop → Loop) :
    (w.modLoop l f).fullTable = w.fullTable := rfl
@[simp] theorem Work.modLoop_port (w : Work) (l : LoopId) (f : Loop → Loop) :
    (w.modLoop l f).port = w.port := rfl
@[simp] theorem Work.modLoop_notices (w : Work) (l : LoopId) (f : Loop → Loop) :
    (w.modLoop l f).notices = w.notices := rfl
@[simp] theorem Work.modLoop_hostOut (w : Work) (l : LoopId) (f : Loop → Loop) :
    (w.modLoop l f).hostOut = w.hostOut := rfl
@[simp] theorem Work.modLoop_freeIndex (w : Work) (l : LoopId) (f : Loop → Loop) :
    (w.modLoop l f).freeIndex = w.freeIndex := rfl
@[simp] theorem Work.modLoop_pending (w : Work) (l : LoopId) (f : Loop → Loop) :
    (w.modLoop l f).pending = w.pending := rfl
@[simp] theorem Work.modLoop_bank (w : Work) (l : LoopId) (f : Loop → Loop) (x : BankId) :
    (w.modLoop l f).bank x = w.bank x := rfl
@[simp] theorem Work.modLoop_comp (w : Work) (l : LoopId) (f : Loop → Loop) (x : CompId) :
    (w.modLoop l f).comp x = w.comp x := rfl
@[simp] theorem Work.modLoop_pos (w : Work) (l : LoopId) (f : Loop → Loop) (x : PosId) :
    (w.modLoop l f).pos x = w.pos x := rfl
@[simp] theorem Work.modLoop_hold (w : Work) (l : LoopId) (f : Loop → Loop) (x : HoldId) :
    (w.modLoop l f).hold x = w.hold x := rfl
@[simp] theorem Work.modLoop_serveDue (w : Work) (l : LoopId) (f : Loop → Loop) :
    (w.modLoop l f).serveDue = w.serveDue := rfl
@[simp] theorem Work.modLoop_evalDue (w : Work) (l : LoopId) (f : Loop → Loop) :
    (w.modLoop l f).evalDue = w.evalDue := rfl
@[simp] theorem Work.modLoop_passedOver (w : Work) (l : LoopId) (f : Loop → Loop) :
    (w.modLoop l f).passedOver = w.passedOver := rfl

/-! ### modPos -/

@[simp] theorem Work.modPos_station (w : Work) (p : PosId) (f : Position → Position) :
    (w.modPos p f).station = w.station := rfl
@[simp] theorem Work.modPos_link (w : Work) (p : PosId) (f : Position → Position) :
    (w.modPos p f).link = w.link := rfl
@[simp] theorem Work.modPos_banks (w : Work) (p : PosId) (f : Position → Position) :
    (w.modPos p f).banks = w.banks := rfl
@[simp] theorem Work.modPos_waitList (w : Work) (p : PosId) (f : Position → Position) :
    (w.modPos p f).waitList = w.waitList := rfl
@[simp] theorem Work.modPos_comps (w : Work) (p : PosId) (f : Position → Position) :
    (w.modPos p f).comps = w.comps := rfl
@[simp] theorem Work.modPos_refillQueue (w : Work) (p : PosId) (f : Position → Position) :
    (w.modPos p f).refillQueue = w.refillQueue := rfl
@[simp] theorem Work.modPos_suction (w : Work) (p : PosId) (f : Position → Position) :
    (w.modPos p f).suction = w.suction := rfl
@[simp] theorem Work.modPos_powerQueue (w : Work) (p : PosId) (f : Position → Position) :
    (w.modPos p f).powerQueue = w.powerQueue := rfl
@[simp] theorem Work.modPos_loops (w : Work) (p : PosId) (f : Position → Position) :
    (w.modPos p f).loops = w.loops := rfl
@[simp] theorem Work.modPos_holds (w : Work) (p : PosId) (f : Position → Position) :
    (w.modPos p f).holds = w.holds := rfl
@[simp] theorem Work.modPos_plans (w : Work) (p : PosId) (f : Position → Position) :
    (w.modPos p f).plans = w.plans := rfl
@[simp] theorem Work.modPos_rampTable (w : Work) (p : PosId) (f : Position → Position) :
    (w.modPos p f).rampTable = w.rampTable := rfl
@[simp] theorem Work.modPos_targetTable (w : Work) (p : PosId) (f : Position → Position) :
    (w.modPos p f).targetTable = w.targetTable := rfl
@[simp] theorem Work.modPos_fullTable (w : Work) (p : PosId) (f : Position → Position) :
    (w.modPos p f).fullTable = w.fullTable := rfl
@[simp] theorem Work.modPos_port (w : Work) (p : PosId) (f : Position → Position) :
    (w.modPos p f).port = w.port := rfl
@[simp] theorem Work.modPos_notices (w : Work) (p : PosId) (f : Position → Position) :
    (w.modPos p f).notices = w.notices := rfl
@[simp] theorem Work.modPos_hostOut (w : Work) (p : PosId) (f : Position → Position) :
    (w.modPos p f).hostOut = w.hostOut := rfl
@[simp] theorem Work.modPos_freeIndex (w : Work) (p : PosId) (f : Position → Position) :
    (w.modPos p f).freeIndex = w.freeIndex := rfl
@[simp] theorem Work.modPos_pending (w : Work) (p : PosId) (f : Position → Position) :
    (w.modPos p f).pending = w.pending := rfl
@[simp] theorem Work.modPos_bank (w : Work) (p : PosId) (f : Position → Position) (x : BankId) :
    (w.modPos p f).bank x = w.bank x := rfl
@[simp] theorem Work.modPos_comp (w : Work) (p : PosId) (f : Position → Position) (x : CompId) :
    (w.modPos p f).comp x = w.comp x := rfl
@[simp] theorem Work.modPos_loop (w : Work) (p : PosId) (f : Position → Position) (x : LoopId) :
    (w.modPos p f).loop x = w.loop x := rfl
@[simp] theorem Work.modPos_hold (w : Work) (p : PosId) (f : Position → Position) (x : HoldId) :
    (w.modPos p f).hold x = w.hold x := rfl
@[simp] theorem Work.modPos_serveDue (w : Work) (p : PosId) (f : Position → Position) :
    (w.modPos p f).serveDue = w.serveDue := rfl
@[simp] theorem Work.modPos_evalDue (w : Work) (p : PosId) (f : Position → Position) :
    (w.modPos p f).evalDue = w.evalDue := rfl
@[simp] theorem Work.modPos_passedOver (w : Work) (p : PosId) (f : Position → Position) :
    (w.modPos p f).passedOver = w.passedOver := rfl

/-! ### modHold -/

@[simp] theorem Work.modHold_station (w : Work) (h : HoldId) (f : Hold → Hold) :
    (w.modHold h f).station = w.station := rfl
@[simp] theorem Work.modHold_link (w : Work) (h : HoldId) (f : Hold → Hold) :
    (w.modHold h f).link = w.link := rfl
@[simp] theorem Work.modHold_banks (w : Work) (h : HoldId) (f : Hold → Hold) :
    (w.modHold h f).banks = w.banks := rfl
@[simp] theorem Work.modHold_waitList (w : Work) (h : HoldId) (f : Hold → Hold) :
    (w.modHold h f).waitList = w.waitList := rfl
@[simp] theorem Work.modHold_comps (w : Work) (h : HoldId) (f : Hold → Hold) :
    (w.modHold h f).comps = w.comps := rfl
@[simp] theorem Work.modHold_refillQueue (w : Work) (h : HoldId) (f : Hold → Hold) :
    (w.modHold h f).refillQueue = w.refillQueue := rfl
@[simp] theorem Work.modHold_suction (w : Work) (h : HoldId) (f : Hold → Hold) :
    (w.modHold h f).suction = w.suction := rfl
@[simp] theorem Work.modHold_powerQueue (w : Work) (h : HoldId) (f : Hold → Hold) :
    (w.modHold h f).powerQueue = w.powerQueue := rfl
@[simp] theorem Work.modHold_loops (w : Work) (h : HoldId) (f : Hold → Hold) :
    (w.modHold h f).loops = w.loops := rfl
@[simp] theorem Work.modHold_positions (w : Work) (h : HoldId) (f : Hold → Hold) :
    (w.modHold h f).positions = w.positions := rfl
@[simp] theorem Work.modHold_plans (w : Work) (h : HoldId) (f : Hold → Hold) :
    (w.modHold h f).plans = w.plans := rfl
@[simp] theorem Work.modHold_rampTable (w : Work) (h : HoldId) (f : Hold → Hold) :
    (w.modHold h f).rampTable = w.rampTable := rfl
@[simp] theorem Work.modHold_targetTable (w : Work) (h : HoldId) (f : Hold → Hold) :
    (w.modHold h f).targetTable = w.targetTable := rfl
@[simp] theorem Work.modHold_fullTable (w : Work) (h : HoldId) (f : Hold → Hold) :
    (w.modHold h f).fullTable = w.fullTable := rfl
@[simp] theorem Work.modHold_port (w : Work) (h : HoldId) (f : Hold → Hold) :
    (w.modHold h f).port = w.port := rfl
@[simp] theorem Work.modHold_notices (w : Work) (h : HoldId) (f : Hold → Hold) :
    (w.modHold h f).notices = w.notices := rfl
@[simp] theorem Work.modHold_hostOut (w : Work) (h : HoldId) (f : Hold → Hold) :
    (w.modHold h f).hostOut = w.hostOut := rfl
@[simp] theorem Work.modHold_freeIndex (w : Work) (h : HoldId) (f : Hold → Hold) :
    (w.modHold h f).freeIndex = w.freeIndex := rfl
@[simp] theorem Work.modHold_pending (w : Work) (h : HoldId) (f : Hold → Hold) :
    (w.modHold h f).pending = w.pending := rfl
@[simp] theorem Work.modHold_bank (w : Work) (h : HoldId) (f : Hold → Hold) (x : BankId) :
    (w.modHold h f).bank x = w.bank x := rfl
@[simp] theorem Work.modHold_comp (w : Work) (h : HoldId) (f : Hold → Hold) (x : CompId) :
    (w.modHold h f).comp x = w.comp x := rfl
@[simp] theorem Work.modHold_loop (w : Work) (h : HoldId) (f : Hold → Hold) (x : LoopId) :
    (w.modHold h f).loop x = w.loop x := rfl
@[simp] theorem Work.modHold_pos (w : Work) (h : HoldId) (f : Hold → Hold) (x : PosId) :
    (w.modHold h f).pos x = w.pos x := rfl
@[simp] theorem Work.modHold_serveDue (w : Work) (h : HoldId) (f : Hold → Hold) :
    (w.modHold h f).serveDue = w.serveDue := rfl
@[simp] theorem Work.modHold_evalDue (w : Work) (h : HoldId) (f : Hold → Hold) :
    (w.modHold h f).evalDue = w.evalDue := rfl
@[simp] theorem Work.modHold_passedOver (w : Work) (h : HoldId) (f : Hold → Hold) :
    (w.modHold h f).passedOver = w.passedOver := rfl

/-! ### modStation -/

@[simp] theorem Work.modStation_link (w : Work) (f : Station → Station) :
    (w.modStation f).link = w.link := rfl
@[simp] theorem Work.modStation_banks (w : Work) (f : Station → Station) :
    (w.modStation f).banks = w.banks := rfl
@[simp] theorem Work.modStation_waitList (w : Work) (f : Station → Station) :
    (w.modStation f).waitList = w.waitList := rfl
@[simp] theorem Work.modStation_comps (w : Work) (f : Station → Station) :
    (w.modStation f).comps = w.comps := rfl
@[simp] theorem Work.modStation_refillQueue (w : Work) (f : Station → Station) :
    (w.modStation f).refillQueue = w.refillQueue := rfl
@[simp] theorem Work.modStation_suction (w : Work) (f : Station → Station) :
    (w.modStation f).suction = w.suction := rfl
@[simp] theorem Work.modStation_powerQueue (w : Work) (f : Station → Station) :
    (w.modStation f).powerQueue = w.powerQueue := rfl
@[simp] theorem Work.modStation_loops (w : Work) (f : Station → Station) :
    (w.modStation f).loops = w.loops := rfl
@[simp] theorem Work.modStation_positions (w : Work) (f : Station → Station) :
    (w.modStation f).positions = w.positions := rfl
@[simp] theorem Work.modStation_holds (w : Work) (f : Station → Station) :
    (w.modStation f).holds = w.holds := rfl
@[simp] theorem Work.modStation_plans (w : Work) (f : Station → Station) :
    (w.modStation f).plans = w.plans := rfl
@[simp] theorem Work.modStation_rampTable (w : Work) (f : Station → Station) :
    (w.modStation f).rampTable = w.rampTable := rfl
@[simp] theorem Work.modStation_targetTable (w : Work) (f : Station → Station) :
    (w.modStation f).targetTable = w.targetTable := rfl
@[simp] theorem Work.modStation_fullTable (w : Work) (f : Station → Station) :
    (w.modStation f).fullTable = w.fullTable := rfl
@[simp] theorem Work.modStation_port (w : Work) (f : Station → Station) :
    (w.modStation f).port = w.port := rfl
@[simp] theorem Work.modStation_notices (w : Work) (f : Station → Station) :
    (w.modStation f).notices = w.notices := rfl
@[simp] theorem Work.modStation_hostOut (w : Work) (f : Station → Station) :
    (w.modStation f).hostOut = w.hostOut := rfl
@[simp] theorem Work.modStation_freeIndex (w : Work) (f : Station → Station) :
    (w.modStation f).freeIndex = w.freeIndex := rfl
@[simp] theorem Work.modStation_pending (w : Work) (f : Station → Station) :
    (w.modStation f).pending = w.pending := rfl
@[simp] theorem Work.modStation_bank (w : Work) (f : Station → Station) (x : BankId) :
    (w.modStation f).bank x = w.bank x := rfl
@[simp] theorem Work.modStation_comp (w : Work) (f : Station → Station) (x : CompId) :
    (w.modStation f).comp x = w.comp x := rfl
@[simp] theorem Work.modStation_loop (w : Work) (f : Station → Station) (x : LoopId) :
    (w.modStation f).loop x = w.loop x := rfl
@[simp] theorem Work.modStation_pos (w : Work) (f : Station → Station) (x : PosId) :
    (w.modStation f).pos x = w.pos x := rfl
@[simp] theorem Work.modStation_hold (w : Work) (f : Station → Station) (x : HoldId) :
    (w.modStation f).hold x = w.hold x := rfl
@[simp] theorem Work.modStation_serveDue (w : Work) (f : Station → Station) :
    (w.modStation f).serveDue = w.serveDue := rfl
@[simp] theorem Work.modStation_evalDue (w : Work) (f : Station → Station) :
    (w.modStation f).evalDue = w.evalDue := rfl
@[simp] theorem Work.modStation_passedOver (w : Work) (f : Station → Station) :
    (w.modStation f).passedOver = w.passedOver := rfl

/-! ### raise -/

@[simp] theorem Work.raise_station (w : Work) (i : Nat) :
    (w.raise i).station = w.station := rfl
@[simp] theorem Work.raise_link (w : Work) (i : Nat) :
    (w.raise i).link = w.link := rfl
@[simp] theorem Work.raise_banks (w : Work) (i : Nat) :
    (w.raise i).banks = w.banks := rfl
@[simp] theorem Work.raise_waitList (w : Work) (i : Nat) :
    (w.raise i).waitList = w.waitList := rfl
@[simp] theorem Work.raise_comps (w : Work) (i : Nat) :
    (w.raise i).comps = w.comps := rfl
@[simp] theorem Work.raise_refillQueue (w : Work) (i : Nat) :
    (w.raise i).refillQueue = w.refillQueue := rfl
@[simp] theorem Work.raise_suction (w : Work) (i : Nat) :
    (w.raise i).suction = w.suction := rfl
@[simp] theorem Work.raise_powerQueue (w : Work) (i : Nat) :
    (w.raise i).powerQueue = w.powerQueue := rfl
@[simp] theorem Work.raise_loops (w : Work) (i : Nat) :
    (w.raise i).loops = w.loops := rfl
@[simp] theorem Work.raise_positions (w : Work) (i : Nat) :
    (w.raise i).positions = w.positions := rfl
@[simp] theorem Work.raise_holds (w : Work) (i : Nat) :
    (w.raise i).holds = w.holds := rfl
@[simp] theorem Work.raise_plans (w : Work) (i : Nat) :
    (w.raise i).plans = w.plans := rfl
@[simp] theorem Work.raise_rampTable (w : Work) (i : Nat) :
    (w.raise i).rampTable = w.rampTable := rfl
@[simp] theorem Work.raise_targetTable (w : Work) (i : Nat) :
    (w.raise i).targetTable = w.targetTable := rfl
@[simp] theorem Work.raise_fullTable (w : Work) (i : Nat) :
    (w.raise i).fullTable = w.fullTable := rfl
@[simp] theorem Work.raise_port (w : Work) (i : Nat) :
    (w.raise i).port = w.port := rfl
@[simp] theorem Work.raise_hostOut (w : Work) (i : Nat) :
    (w.raise i).hostOut = w.hostOut := rfl
@[simp] theorem Work.raise_freeIndex (w : Work) (i : Nat) :
    (w.raise i).freeIndex = w.freeIndex := rfl
@[simp] theorem Work.raise_pending (w : Work) (i : Nat) :
    (w.raise i).pending = w.pending := rfl
@[simp] theorem Work.raise_bank (w : Work) (i : Nat) (x : BankId) :
    (w.raise i).bank x = w.bank x := rfl
@[simp] theorem Work.raise_comp (w : Work) (i : Nat) (x : CompId) :
    (w.raise i).comp x = w.comp x := rfl
@[simp] theorem Work.raise_loop (w : Work) (i : Nat) (x : LoopId) :
    (w.raise i).loop x = w.loop x := rfl
@[simp] theorem Work.raise_pos (w : Work) (i : Nat) (x : PosId) :
    (w.raise i).pos x = w.pos x := rfl
@[simp] theorem Work.raise_hold (w : Work) (i : Nat) (x : HoldId) :
    (w.raise i).hold x = w.hold x := rfl
@[simp] theorem Work.raise_serveDue (w : Work) (i : Nat) :
    (w.raise i).serveDue = w.serveDue := rfl
@[simp] theorem Work.raise_evalDue (w : Work) (i : Nat) :
    (w.raise i).evalDue = w.evalDue := rfl
@[simp] theorem Work.raise_passedOver (w : Work) (i : Nat) :
    (w.raise i).passedOver = w.passedOver := rfl

/-! ### oweEval -/

@[simp] theorem Work.oweEval_station (w : Work) :
    (w.oweEval).station = w.station := rfl
@[simp] theorem Work.oweEval_link (w : Work) :
    (w.oweEval).link = w.link := rfl
@[simp] theorem Work.oweEval_banks (w : Work) :
    (w.oweEval).banks = w.banks := rfl
@[simp] theorem Work.oweEval_waitList (w : Work) :
    (w.oweEval).waitList = w.waitList := rfl
@[simp] theorem Work.oweEval_comps (w : Work) :
    (w.oweEval).comps = w.comps := rfl
@[simp] theorem Work.oweEval_refillQueue (w : Work) :
    (w.oweEval).refillQueue = w.refillQueue := rfl
@[simp] theorem Work.oweEval_suction (w : Work) :
    (w.oweEval).suction = w.suction := rfl
@[simp] theorem Work.oweEval_powerQueue (w : Work) :
    (w.oweEval).powerQueue = w.powerQueue := rfl
@[simp] theorem Work.oweEval_loops (w : Work) :
    (w.oweEval).loops = w.loops := rfl
@[simp] theorem Work.oweEval_positions (w : Work) :
    (w.oweEval).positions = w.positions := rfl
@[simp] theorem Work.oweEval_holds (w : Work) :
    (w.oweEval).holds = w.holds := rfl
@[simp] theorem Work.oweEval_plans (w : Work) :
    (w.oweEval).plans = w.plans := rfl
@[simp] theorem Work.oweEval_rampTable (w : Work) :
    (w.oweEval).rampTable = w.rampTable := rfl
@[simp] theorem Work.oweEval_targetTable (w : Work) :
    (w.oweEval).targetTable = w.targetTable := rfl
@[simp] theorem Work.oweEval_fullTable (w : Work) :
    (w.oweEval).fullTable = w.fullTable := rfl
@[simp] theorem Work.oweEval_port (w : Work) :
    (w.oweEval).port = w.port := rfl
@[simp] theorem Work.oweEval_notices (w : Work) :
    (w.oweEval).notices = w.notices := rfl
@[simp] theorem Work.oweEval_hostOut (w : Work) :
    (w.oweEval).hostOut = w.hostOut := rfl
@[simp] theorem Work.oweEval_freeIndex (w : Work) :
    (w.oweEval).freeIndex = w.freeIndex := rfl
@[simp] theorem Work.oweEval_pending (w : Work) :
    (w.oweEval).pending = w.pending := rfl
@[simp] theorem Work.oweEval_bank (w : Work) (x : BankId) :
    (w.oweEval).bank x = w.bank x := rfl
@[simp] theorem Work.oweEval_comp (w : Work) (x : CompId) :
    (w.oweEval).comp x = w.comp x := rfl
@[simp] theorem Work.oweEval_loop (w : Work) (x : LoopId) :
    (w.oweEval).loop x = w.loop x := rfl
@[simp] theorem Work.oweEval_pos (w : Work) (x : PosId) :
    (w.oweEval).pos x = w.pos x := rfl
@[simp] theorem Work.oweEval_hold (w : Work) (x : HoldId) :
    (w.oweEval).hold x = w.hold x := rfl
@[simp] theorem Work.oweEval_passedOver (w : Work) :
    (w.oweEval).passedOver = w.passedOver := rfl

/-! ### releasedDraw -/

@[simp] theorem Work.releasedDraw_station (w : Work) :
    (w.releasedDraw).station = w.station := rfl
@[simp] theorem Work.releasedDraw_link (w : Work) :
    (w.releasedDraw).link = w.link := rfl
@[simp] theorem Work.releasedDraw_banks (w : Work) :
    (w.releasedDraw).banks = w.banks := rfl
@[simp] theorem Work.releasedDraw_waitList (w : Work) :
    (w.releasedDraw).waitList = w.waitList := rfl
@[simp] theorem Work.releasedDraw_comps (w : Work) :
    (w.releasedDraw).comps = w.comps := rfl
@[simp] theorem Work.releasedDraw_refillQueue (w : Work) :
    (w.releasedDraw).refillQueue = w.refillQueue := rfl
@[simp] theorem Work.releasedDraw_suction (w : Work) :
    (w.releasedDraw).suction = w.suction := rfl
@[simp] theorem Work.releasedDraw_powerQueue (w : Work) :
    (w.releasedDraw).powerQueue = w.powerQueue := rfl
@[simp] theorem Work.releasedDraw_loops (w : Work) :
    (w.releasedDraw).loops = w.loops := rfl
@[simp] theorem Work.releasedDraw_positions (w : Work) :
    (w.releasedDraw).positions = w.positions := rfl
@[simp] theorem Work.releasedDraw_holds (w : Work) :
    (w.releasedDraw).holds = w.holds := rfl
@[simp] theorem Work.releasedDraw_plans (w : Work) :
    (w.releasedDraw).plans = w.plans := rfl
@[simp] theorem Work.releasedDraw_rampTable (w : Work) :
    (w.releasedDraw).rampTable = w.rampTable := rfl
@[simp] theorem Work.releasedDraw_targetTable (w : Work) :
    (w.releasedDraw).targetTable = w.targetTable := rfl
@[simp] theorem Work.releasedDraw_fullTable (w : Work) :
    (w.releasedDraw).fullTable = w.fullTable := rfl
@[simp] theorem Work.releasedDraw_port (w : Work) :
    (w.releasedDraw).port = w.port := rfl
@[simp] theorem Work.releasedDraw_notices (w : Work) :
    (w.releasedDraw).notices = w.notices := rfl
@[simp] theorem Work.releasedDraw_hostOut (w : Work) :
    (w.releasedDraw).hostOut = w.hostOut := rfl
@[simp] theorem Work.releasedDraw_freeIndex (w : Work) :
    (w.releasedDraw).freeIndex = w.freeIndex := rfl
@[simp] theorem Work.releasedDraw_pending (w : Work) :
    (w.releasedDraw).pending = w.pending := rfl
@[simp] theorem Work.releasedDraw_bank (w : Work) (x : BankId) :
    (w.releasedDraw).bank x = w.bank x := rfl
@[simp] theorem Work.releasedDraw_comp (w : Work) (x : CompId) :
    (w.releasedDraw).comp x = w.comp x := rfl
@[simp] theorem Work.releasedDraw_loop (w : Work) (x : LoopId) :
    (w.releasedDraw).loop x = w.loop x := rfl
@[simp] theorem Work.releasedDraw_pos (w : Work) (x : PosId) :
    (w.releasedDraw).pos x = w.pos x := rfl
@[simp] theorem Work.releasedDraw_hold (w : Work) (x : HoldId) :
    (w.releasedDraw).hold x = w.hold x := rfl
@[simp] theorem Work.releasedDraw_passedOver (w : Work) :
    (w.releasedDraw).passedOver = w.passedOver := rfl

/-! ### leaveQueue -/

@[simp] theorem Work.leaveQueue_station (w : Work) (b : BankId) :
    (w.leaveQueue b).station = w.station := rfl
@[simp] theorem Work.leaveQueue_link (w : Work) (b : BankId) :
    (w.leaveQueue b).link = w.link := rfl
@[simp] theorem Work.leaveQueue_banks (w : Work) (b : BankId) :
    (w.leaveQueue b).banks = w.banks := rfl
@[simp] theorem Work.leaveQueue_waitList (w : Work) (b : BankId) :
    (w.leaveQueue b).waitList = w.waitList := rfl
@[simp] theorem Work.leaveQueue_comps (w : Work) (b : BankId) :
    (w.leaveQueue b).comps = w.comps := rfl
@[simp] theorem Work.leaveQueue_suction (w : Work) (b : BankId) :
    (w.leaveQueue b).suction = w.suction := rfl
@[simp] theorem Work.leaveQueue_powerQueue (w : Work) (b : BankId) :
    (w.leaveQueue b).powerQueue = w.powerQueue := rfl
@[simp] theorem Work.leaveQueue_loops (w : Work) (b : BankId) :
    (w.leaveQueue b).loops = w.loops := rfl
@[simp] theorem Work.leaveQueue_positions (w : Work) (b : BankId) :
    (w.leaveQueue b).positions = w.positions := rfl
@[simp] theorem Work.leaveQueue_holds (w : Work) (b : BankId) :
    (w.leaveQueue b).holds = w.holds := rfl
@[simp] theorem Work.leaveQueue_plans (w : Work) (b : BankId) :
    (w.leaveQueue b).plans = w.plans := rfl
@[simp] theorem Work.leaveQueue_rampTable (w : Work) (b : BankId) :
    (w.leaveQueue b).rampTable = w.rampTable := rfl
@[simp] theorem Work.leaveQueue_targetTable (w : Work) (b : BankId) :
    (w.leaveQueue b).targetTable = w.targetTable := rfl
@[simp] theorem Work.leaveQueue_fullTable (w : Work) (b : BankId) :
    (w.leaveQueue b).fullTable = w.fullTable := rfl
@[simp] theorem Work.leaveQueue_port (w : Work) (b : BankId) :
    (w.leaveQueue b).port = w.port := rfl
@[simp] theorem Work.leaveQueue_notices (w : Work) (b : BankId) :
    (w.leaveQueue b).notices = w.notices := rfl
@[simp] theorem Work.leaveQueue_hostOut (w : Work) (b : BankId) :
    (w.leaveQueue b).hostOut = w.hostOut := rfl
@[simp] theorem Work.leaveQueue_freeIndex (w : Work) (b : BankId) :
    (w.leaveQueue b).freeIndex = w.freeIndex := rfl
@[simp] theorem Work.leaveQueue_pending (w : Work) (b : BankId) :
    (w.leaveQueue b).pending = w.pending := rfl
@[simp] theorem Work.leaveQueue_bank (w : Work) (b : BankId) (x : BankId) :
    (w.leaveQueue b).bank x = w.bank x := rfl
@[simp] theorem Work.leaveQueue_comp (w : Work) (b : BankId) (x : CompId) :
    (w.leaveQueue b).comp x = w.comp x := rfl
@[simp] theorem Work.leaveQueue_loop (w : Work) (b : BankId) (x : LoopId) :
    (w.leaveQueue b).loop x = w.loop x := rfl
@[simp] theorem Work.leaveQueue_pos (w : Work) (b : BankId) (x : PosId) :
    (w.leaveQueue b).pos x = w.pos x := rfl
@[simp] theorem Work.leaveQueue_hold (w : Work) (b : BankId) (x : HoldId) :
    (w.leaveQueue b).hold x = w.hold x := rfl
@[simp] theorem Work.leaveQueue_serveDue (w : Work) (b : BankId) :
    (w.leaveQueue b).serveDue = w.serveDue := rfl
@[simp] theorem Work.leaveQueue_evalDue (w : Work) (b : BankId) :
    (w.leaveQueue b).evalDue = w.evalDue := rfl
@[simp] theorem Work.leaveQueue_passedOver (w : Work) (b : BankId) :
    (w.leaveQueue b).passedOver = w.passedOver := rfl

/-! ### frontQueue -/

@[simp] theorem Work.frontQueue_station (w : Work) (b : BankId) :
    (w.frontQueue b).station = w.station := rfl
@[simp] theorem Work.frontQueue_link (w : Work) (b : BankId) :
    (w.frontQueue b).link = w.link := rfl
@[simp] theorem Work.frontQueue_banks (w : Work) (b : BankId) :
    (w.frontQueue b).banks = w.banks := rfl
@[simp] theorem Work.frontQueue_waitList (w : Work) (b : BankId) :
    (w.frontQueue b).waitList = w.waitList := rfl
@[simp] theorem Work.frontQueue_comps (w : Work) (b : BankId) :
    (w.frontQueue b).comps = w.comps := rfl
@[simp] theorem Work.frontQueue_suction (w : Work) (b : BankId) :
    (w.frontQueue b).suction = w.suction := rfl
@[simp] theorem Work.frontQueue_powerQueue (w : Work) (b : BankId) :
    (w.frontQueue b).powerQueue = w.powerQueue := rfl
@[simp] theorem Work.frontQueue_loops (w : Work) (b : BankId) :
    (w.frontQueue b).loops = w.loops := rfl
@[simp] theorem Work.frontQueue_positions (w : Work) (b : BankId) :
    (w.frontQueue b).positions = w.positions := rfl
@[simp] theorem Work.frontQueue_holds (w : Work) (b : BankId) :
    (w.frontQueue b).holds = w.holds := rfl
@[simp] theorem Work.frontQueue_plans (w : Work) (b : BankId) :
    (w.frontQueue b).plans = w.plans := rfl
@[simp] theorem Work.frontQueue_rampTable (w : Work) (b : BankId) :
    (w.frontQueue b).rampTable = w.rampTable := rfl
@[simp] theorem Work.frontQueue_targetTable (w : Work) (b : BankId) :
    (w.frontQueue b).targetTable = w.targetTable := rfl
@[simp] theorem Work.frontQueue_fullTable (w : Work) (b : BankId) :
    (w.frontQueue b).fullTable = w.fullTable := rfl
@[simp] theorem Work.frontQueue_port (w : Work) (b : BankId) :
    (w.frontQueue b).port = w.port := rfl
@[simp] theorem Work.frontQueue_notices (w : Work) (b : BankId) :
    (w.frontQueue b).notices = w.notices := rfl
@[simp] theorem Work.frontQueue_hostOut (w : Work) (b : BankId) :
    (w.frontQueue b).hostOut = w.hostOut := rfl
@[simp] theorem Work.frontQueue_freeIndex (w : Work) (b : BankId) :
    (w.frontQueue b).freeIndex = w.freeIndex := rfl
@[simp] theorem Work.frontQueue_pending (w : Work) (b : BankId) :
    (w.frontQueue b).pending = w.pending := rfl
@[simp] theorem Work.frontQueue_bank (w : Work) (b : BankId) (x : BankId) :
    (w.frontQueue b).bank x = w.bank x := rfl
@[simp] theorem Work.frontQueue_comp (w : Work) (b : BankId) (x : CompId) :
    (w.frontQueue b).comp x = w.comp x := rfl
@[simp] theorem Work.frontQueue_loop (w : Work) (b : BankId) (x : LoopId) :
    (w.frontQueue b).loop x = w.loop x := rfl
@[simp] theorem Work.frontQueue_pos (w : Work) (b : BankId) (x : PosId) :
    (w.frontQueue b).pos x = w.pos x := rfl
@[simp] theorem Work.frontQueue_hold (w : Work) (b : BankId) (x : HoldId) :
    (w.frontQueue b).hold x = w.hold x := rfl
@[simp] theorem Work.frontQueue_passedOver (w : Work) (b : BankId) :
    (w.frontQueue b).passedOver = w.passedOver := rfl

/-! ### leaveWaitList -/

@[simp] theorem Work.leaveWaitList_station (w : Work) (p : PosId) :
    (w.leaveWaitList p).station = w.station := rfl
@[simp] theorem Work.leaveWaitList_link (w : Work) (p : PosId) :
    (w.leaveWaitList p).link = w.link := rfl
@[simp] theorem Work.leaveWaitList_banks (w : Work) (p : PosId) :
    (w.leaveWaitList p).banks = w.banks := rfl
@[simp] theorem Work.leaveWaitList_comps (w : Work) (p : PosId) :
    (w.leaveWaitList p).comps = w.comps := rfl
@[simp] theorem Work.leaveWaitList_refillQueue (w : Work) (p : PosId) :
    (w.leaveWaitList p).refillQueue = w.refillQueue := rfl
@[simp] theorem Work.leaveWaitList_suction (w : Work) (p : PosId) :
    (w.leaveWaitList p).suction = w.suction := rfl
@[simp] theorem Work.leaveWaitList_powerQueue (w : Work) (p : PosId) :
    (w.leaveWaitList p).powerQueue = w.powerQueue := rfl
@[simp] theorem Work.leaveWaitList_loops (w : Work) (p : PosId) :
    (w.leaveWaitList p).loops = w.loops := rfl
@[simp] theorem Work.leaveWaitList_positions (w : Work) (p : PosId) :
    (w.leaveWaitList p).positions = w.positions := rfl
@[simp] theorem Work.leaveWaitList_holds (w : Work) (p : PosId) :
    (w.leaveWaitList p).holds = w.holds := rfl
@[simp] theorem Work.leaveWaitList_plans (w : Work) (p : PosId) :
    (w.leaveWaitList p).plans = w.plans := rfl
@[simp] theorem Work.leaveWaitList_rampTable (w : Work) (p : PosId) :
    (w.leaveWaitList p).rampTable = w.rampTable := rfl
@[simp] theorem Work.leaveWaitList_targetTable (w : Work) (p : PosId) :
    (w.leaveWaitList p).targetTable = w.targetTable := rfl
@[simp] theorem Work.leaveWaitList_fullTable (w : Work) (p : PosId) :
    (w.leaveWaitList p).fullTable = w.fullTable := rfl
@[simp] theorem Work.leaveWaitList_port (w : Work) (p : PosId) :
    (w.leaveWaitList p).port = w.port := rfl
@[simp] theorem Work.leaveWaitList_notices (w : Work) (p : PosId) :
    (w.leaveWaitList p).notices = w.notices := rfl
@[simp] theorem Work.leaveWaitList_hostOut (w : Work) (p : PosId) :
    (w.leaveWaitList p).hostOut = w.hostOut := rfl
@[simp] theorem Work.leaveWaitList_freeIndex (w : Work) (p : PosId) :
    (w.leaveWaitList p).freeIndex = w.freeIndex := rfl
@[simp] theorem Work.leaveWaitList_pending (w : Work) (p : PosId) :
    (w.leaveWaitList p).pending = w.pending := rfl
@[simp] theorem Work.leaveWaitList_bank (w : Work) (p : PosId) (x : BankId) :
    (w.leaveWaitList p).bank x = w.bank x := rfl
@[simp] theorem Work.leaveWaitList_comp (w : Work) (p : PosId) (x : CompId) :
    (w.leaveWaitList p).comp x = w.comp x := rfl
@[simp] theorem Work.leaveWaitList_loop (w : Work) (p : PosId) (x : LoopId) :
    (w.leaveWaitList p).loop x = w.loop x := rfl
@[simp] theorem Work.leaveWaitList_pos (w : Work) (p : PosId) (x : PosId) :
    (w.leaveWaitList p).pos x = w.pos x := rfl
@[simp] theorem Work.leaveWaitList_hold (w : Work) (p : PosId) (x : HoldId) :
    (w.leaveWaitList p).hold x = w.hold x := rfl
@[simp] theorem Work.leaveWaitList_serveDue (w : Work) (p : PosId) :
    (w.leaveWaitList p).serveDue = w.serveDue := rfl
@[simp] theorem Work.leaveWaitList_evalDue (w : Work) (p : PosId) :
    (w.leaveWaitList p).evalDue = w.evalDue := rfl
@[simp] theorem Work.leaveWaitList_passedOver (w : Work) (p : PosId) :
    (w.leaveWaitList p).passedOver = w.passedOver := rfl

/-! ### renewNeed -/

@[simp] theorem Work.renewNeed_station (w : Work) (p : PosId) :
    (w.renewNeed p).station = w.station := rfl
@[simp] theorem Work.renewNeed_link (w : Work) (p : PosId) :
    (w.renewNeed p).link = w.link := rfl
@[simp] theorem Work.renewNeed_banks (w : Work) (p : PosId) :
    (w.renewNeed p).banks = w.banks := rfl
@[simp] theorem Work.renewNeed_comps (w : Work) (p : PosId) :
    (w.renewNeed p).comps = w.comps := rfl
@[simp] theorem Work.renewNeed_refillQueue (w : Work) (p : PosId) :
    (w.renewNeed p).refillQueue = w.refillQueue := rfl
@[simp] theorem Work.renewNeed_suction (w : Work) (p : PosId) :
    (w.renewNeed p).suction = w.suction := rfl
@[simp] theorem Work.renewNeed_powerQueue (w : Work) (p : PosId) :
    (w.renewNeed p).powerQueue = w.powerQueue := rfl
@[simp] theorem Work.renewNeed_loops (w : Work) (p : PosId) :
    (w.renewNeed p).loops = w.loops := rfl
@[simp] theorem Work.renewNeed_positions (w : Work) (p : PosId) :
    (w.renewNeed p).positions = w.positions := rfl
@[simp] theorem Work.renewNeed_holds (w : Work) (p : PosId) :
    (w.renewNeed p).holds = w.holds := rfl
@[simp] theorem Work.renewNeed_plans (w : Work) (p : PosId) :
    (w.renewNeed p).plans = w.plans := rfl
@[simp] theorem Work.renewNeed_rampTable (w : Work) (p : PosId) :
    (w.renewNeed p).rampTable = w.rampTable := rfl
@[simp] theorem Work.renewNeed_targetTable (w : Work) (p : PosId) :
    (w.renewNeed p).targetTable = w.targetTable := rfl
@[simp] theorem Work.renewNeed_fullTable (w : Work) (p : PosId) :
    (w.renewNeed p).fullTable = w.fullTable := rfl
@[simp] theorem Work.renewNeed_port (w : Work) (p : PosId) :
    (w.renewNeed p).port = w.port := rfl
@[simp] theorem Work.renewNeed_notices (w : Work) (p : PosId) :
    (w.renewNeed p).notices = w.notices := rfl
@[simp] theorem Work.renewNeed_hostOut (w : Work) (p : PosId) :
    (w.renewNeed p).hostOut = w.hostOut := rfl
@[simp] theorem Work.renewNeed_freeIndex (w : Work) (p : PosId) :
    (w.renewNeed p).freeIndex = w.freeIndex := rfl
@[simp] theorem Work.renewNeed_pending (w : Work) (p : PosId) :
    (w.renewNeed p).pending = w.pending := rfl
@[simp] theorem Work.renewNeed_bank (w : Work) (p : PosId) (x : BankId) :
    (w.renewNeed p).bank x = w.bank x := rfl
@[simp] theorem Work.renewNeed_comp (w : Work) (p : PosId) (x : CompId) :
    (w.renewNeed p).comp x = w.comp x := rfl
@[simp] theorem Work.renewNeed_loop (w : Work) (p : PosId) (x : LoopId) :
    (w.renewNeed p).loop x = w.loop x := rfl
@[simp] theorem Work.renewNeed_pos (w : Work) (p : PosId) (x : PosId) :
    (w.renewNeed p).pos x = w.pos x := rfl
@[simp] theorem Work.renewNeed_hold (w : Work) (p : PosId) (x : HoldId) :
    (w.renewNeed p).hold x = w.hold x := rfl
@[simp] theorem Work.renewNeed_serveDue (w : Work) (p : PosId) :
    (w.renewNeed p).serveDue = w.serveDue := rfl
@[simp] theorem Work.renewNeed_evalDue (w : Work) (p : PosId) :
    (w.renewNeed p).evalDue = w.evalDue := rfl
@[simp] theorem Work.renewNeed_passedOver (w : Work) (p : PosId) :
    (w.renewNeed p).passedOver = w.passedOver := rfl

/-! ### claimBank -/

@[simp] theorem Work.claimBank_station (w : Work) (c : Claimant) (b : BankId) :
    (w.claimBank c b).station = w.station := rfl
@[simp] theorem Work.claimBank_link (w : Work) (c : Claimant) (b : BankId) :
    (w.claimBank c b).link = w.link := rfl
@[simp] theorem Work.claimBank_waitList (w : Work) (c : Claimant) (b : BankId) :
    (w.claimBank c b).waitList = w.waitList := rfl
@[simp] theorem Work.claimBank_comps (w : Work) (c : Claimant) (b : BankId) :
    (w.claimBank c b).comps = w.comps := rfl
@[simp] theorem Work.claimBank_refillQueue (w : Work) (c : Claimant) (b : BankId) :
    (w.claimBank c b).refillQueue = w.refillQueue := rfl
@[simp] theorem Work.claimBank_suction (w : Work) (c : Claimant) (b : BankId) :
    (w.claimBank c b).suction = w.suction := rfl
@[simp] theorem Work.claimBank_powerQueue (w : Work) (c : Claimant) (b : BankId) :
    (w.claimBank c b).powerQueue = w.powerQueue := rfl
@[simp] theorem Work.claimBank_loops (w : Work) (c : Claimant) (b : BankId) :
    (w.claimBank c b).loops = w.loops := rfl
@[simp] theorem Work.claimBank_positions (w : Work) (c : Claimant) (b : BankId) :
    (w.claimBank c b).positions = w.positions := rfl
@[simp] theorem Work.claimBank_holds (w : Work) (c : Claimant) (b : BankId) :
    (w.claimBank c b).holds = w.holds := rfl
@[simp] theorem Work.claimBank_plans (w : Work) (c : Claimant) (b : BankId) :
    (w.claimBank c b).plans = w.plans := rfl
@[simp] theorem Work.claimBank_rampTable (w : Work) (c : Claimant) (b : BankId) :
    (w.claimBank c b).rampTable = w.rampTable := rfl
@[simp] theorem Work.claimBank_targetTable (w : Work) (c : Claimant) (b : BankId) :
    (w.claimBank c b).targetTable = w.targetTable := rfl
@[simp] theorem Work.claimBank_fullTable (w : Work) (c : Claimant) (b : BankId) :
    (w.claimBank c b).fullTable = w.fullTable := rfl
@[simp] theorem Work.claimBank_port (w : Work) (c : Claimant) (b : BankId) :
    (w.claimBank c b).port = w.port := rfl
@[simp] theorem Work.claimBank_notices (w : Work) (c : Claimant) (b : BankId) :
    (w.claimBank c b).notices = w.notices := rfl
@[simp] theorem Work.claimBank_hostOut (w : Work) (c : Claimant) (b : BankId) :
    (w.claimBank c b).hostOut = w.hostOut := rfl
@[simp] theorem Work.claimBank_freeIndex (w : Work) (c : Claimant) (b : BankId) :
    (w.claimBank c b).freeIndex = w.freeIndex := rfl
@[simp] theorem Work.claimBank_pending (w : Work) (c : Claimant) (b : BankId) :
    (w.claimBank c b).pending = w.pending := rfl
@[simp] theorem Work.claimBank_comp (w : Work) (c : Claimant) (b : BankId) (x : CompId) :
    (w.claimBank c b).comp x = w.comp x := rfl
@[simp] theorem Work.claimBank_loop (w : Work) (c : Claimant) (b : BankId) (x : LoopId) :
    (w.claimBank c b).loop x = w.loop x := rfl
@[simp] theorem Work.claimBank_pos (w : Work) (c : Claimant) (b : BankId) (x : PosId) :
    (w.claimBank c b).pos x = w.pos x := rfl
@[simp] theorem Work.claimBank_hold (w : Work) (c : Claimant) (b : BankId) (x : HoldId) :
    (w.claimBank c b).hold x = w.hold x := rfl
@[simp] theorem Work.claimBank_serveDue (w : Work) (c : Claimant) (b : BankId) :
    (w.claimBank c b).serveDue = w.serveDue := rfl
@[simp] theorem Work.claimBank_evalDue (w : Work) (c : Claimant) (b : BankId) :
    (w.claimBank c b).evalDue = w.evalDue := rfl
@[simp] theorem Work.claimBank_passedOver (w : Work) (c : Claimant) (b : BankId) :
    (w.claimBank c b).passedOver = w.passedOver := rfl

/-! ### makeReady -/

@[simp] theorem Work.makeReady_station (w : Work) (b : BankId) :
    (w.makeReady b).station = w.station := rfl
@[simp] theorem Work.makeReady_link (w : Work) (b : BankId) :
    (w.makeReady b).link = w.link := rfl
@[simp] theorem Work.makeReady_waitList (w : Work) (b : BankId) :
    (w.makeReady b).waitList = w.waitList := rfl
@[simp] theorem Work.makeReady_comps (w : Work) (b : BankId) :
    (w.makeReady b).comps = w.comps := rfl
@[simp] theorem Work.makeReady_refillQueue (w : Work) (b : BankId) :
    (w.makeReady b).refillQueue = w.refillQueue := rfl
@[simp] theorem Work.makeReady_suction (w : Work) (b : BankId) :
    (w.makeReady b).suction = w.suction := rfl
@[simp] theorem Work.makeReady_powerQueue (w : Work) (b : BankId) :
    (w.makeReady b).powerQueue = w.powerQueue := rfl
@[simp] theorem Work.makeReady_loops (w : Work) (b : BankId) :
    (w.makeReady b).loops = w.loops := rfl
@[simp] theorem Work.makeReady_positions (w : Work) (b : BankId) :
    (w.makeReady b).positions = w.positions := rfl
@[simp] theorem Work.makeReady_holds (w : Work) (b : BankId) :
    (w.makeReady b).holds = w.holds := rfl
@[simp] theorem Work.makeReady_plans (w : Work) (b : BankId) :
    (w.makeReady b).plans = w.plans := rfl
@[simp] theorem Work.makeReady_rampTable (w : Work) (b : BankId) :
    (w.makeReady b).rampTable = w.rampTable := rfl
@[simp] theorem Work.makeReady_targetTable (w : Work) (b : BankId) :
    (w.makeReady b).targetTable = w.targetTable := rfl
@[simp] theorem Work.makeReady_fullTable (w : Work) (b : BankId) :
    (w.makeReady b).fullTable = w.fullTable := rfl
@[simp] theorem Work.makeReady_port (w : Work) (b : BankId) :
    (w.makeReady b).port = w.port := rfl
@[simp] theorem Work.makeReady_notices (w : Work) (b : BankId) :
    (w.makeReady b).notices = w.notices := rfl
@[simp] theorem Work.makeReady_hostOut (w : Work) (b : BankId) :
    (w.makeReady b).hostOut = w.hostOut := rfl
@[simp] theorem Work.makeReady_freeIndex (w : Work) (b : BankId) :
    (w.makeReady b).freeIndex = w.freeIndex := rfl
@[simp] theorem Work.makeReady_pending (w : Work) (b : BankId) :
    (w.makeReady b).pending = w.pending := rfl
@[simp] theorem Work.makeReady_comp (w : Work) (b : BankId) (x : CompId) :
    (w.makeReady b).comp x = w.comp x := rfl
@[simp] theorem Work.makeReady_loop (w : Work) (b : BankId) (x : LoopId) :
    (w.makeReady b).loop x = w.loop x := rfl
@[simp] theorem Work.makeReady_pos (w : Work) (b : BankId) (x : PosId) :
    (w.makeReady b).pos x = w.pos x := rfl
@[simp] theorem Work.makeReady_hold (w : Work) (b : BankId) (x : HoldId) :
    (w.makeReady b).hold x = w.hold x := rfl
@[simp] theorem Work.makeReady_serveDue (w : Work) (b : BankId) :
    (w.makeReady b).serveDue = w.serveDue := rfl
@[simp] theorem Work.makeReady_evalDue (w : Work) (b : BankId) :
    (w.makeReady b).evalDue = w.evalDue := rfl
@[simp] theorem Work.makeReady_passedOver (w : Work) (b : BankId) :
    (w.makeReady b).passedOver = w.passedOver := rfl

/-! ### The element an update changes -/

/-- Reading a vector of the machine after one element is replaced. -/
theorem get_set_eq {α : Type} {n : Nat} (v : Vector α n) (i j : Fin n) (x : α) :
    (v.set i x).get j = if j = i then x else v.get j := by
  show (v.set i.val x)[j.val] = if j = i then x else v[j.val]
  rw [Vector.getElem_set]
  by_cases h : j = i
  · simp [h]
  · have h2 : ¬ i.val = j.val := fun e => h (Fin.ext e.symm)
    simp [h, h2]

theorem Work.modBank_bank (w : Work) (b c : BankId) (f : Bank → Bank) :
    (w.modBank b f).bank c = if c = b then f (w.bank b) else w.bank c := get_set_eq _ _ _ _
theorem Work.modComp_comp (w : Work) (k c : CompId) (f : Compressor → Compressor) :
    (w.modComp k f).comp c = if c = k then f (w.comp k) else w.comp c := get_set_eq _ _ _ _
theorem Work.modLoop_loop (w : Work) (l c : LoopId) (f : Loop → Loop) :
    (w.modLoop l f).loop c = if c = l then f (w.loop l) else w.loop c := get_set_eq _ _ _ _
theorem Work.modPos_pos (w : Work) (p c : PosId) (f : Position → Position) :
    (w.modPos p f).pos c = if c = p then f (w.pos p) else w.pos c := get_set_eq _ _ _ _
theorem Work.modHold_hold (w : Work) (h c : HoldId) (f : Hold → Hold) :
    (w.modHold h f).hold c = if c = h then f (w.hold h) else w.hold c := get_set_eq _ _ _ _
@[simp] theorem Work.modStation_station (w : Work) (f : Station → Station) :
    (w.modStation f).station = f w.station := rfl
@[simp] theorem Work.raise_notices (w : Work) (i : Nat) : (w.raise i).notices = w.notices.raise i := rfl
@[simp] theorem Work.modBank_bank_self (w : Work) (b : BankId) (f : Bank → Bank) :
    (w.modBank b f).bank b = f (w.bank b) := by simp [Work.modBank_bank]
@[simp] theorem Work.modComp_comp_self (w : Work) (k : CompId) (f : Compressor → Compressor) :
    (w.modComp k f).comp k = f (w.comp k) := by simp [Work.modComp_comp]
@[simp] theorem Work.modLoop_loop_self (w : Work) (l : LoopId) (f : Loop → Loop) :
    (w.modLoop l f).loop l = f (w.loop l) := by simp [Work.modLoop_loop]
@[simp] theorem Work.modPos_pos_self (w : Work) (p : PosId) (f : Position → Position) :
    (w.modPos p f).pos p = f (w.pos p) := by simp [Work.modPos_pos]
@[simp] theorem Work.modHold_hold_self (w : Work) (h : HoldId) (f : Hold → Hold) :
    (w.modHold h f).hold h = f (w.hold h) := by simp [Work.modHold_hold]
theorem Work.modBank_bank_ne (w : Work) {b c : BankId} (f : Bank → Bank) (h : c ≠ b) :
    (w.modBank b f).bank c = w.bank c := by simp [Work.modBank_bank, h]
theorem Work.modComp_comp_ne (w : Work) {k c : CompId} (f : Compressor → Compressor) (h : c ≠ k) :
    (w.modComp k f).comp c = w.comp c := by simp [Work.modComp_comp, h]
theorem Work.modLoop_loop_ne (w : Work) {l c : LoopId} (f : Loop → Loop) (h : c ≠ l) :
    (w.modLoop l f).loop c = w.loop c := by simp [Work.modLoop_loop, h]
theorem Work.modPos_pos_ne (w : Work) {p c : PosId} (f : Position → Position) (h : c ≠ p) :
    (w.modPos p f).pos c = w.pos c := by simp [Work.modPos_pos, h]
theorem Work.modHold_hold_ne (w : Work) {h c : HoldId} (f : Hold → Hold) (e : c ≠ h) :
    (w.modHold h f).hold c = w.hold c := by simp [Work.modHold_hold, e]

/-- Beginning a rule changes nothing. -/
@[simp] theorem State.begin_toState (s : State) : s.begin.toState = s := rfl

/-! ### Lists done in turn -/

@[simp] theorem Work.each_nil {α : Type} (f : α → Work → Work) (w : Work) : Work.each f [] w = w := rfl
@[simp] theorem Work.each_cons {α : Type} (f : α → Work → Work) (x : α) (xs : List α) (w : Work) :
    Work.each f (x :: xs) w = Work.each f xs (f x w) := rfl

/-- What every single action keeps, doing the actions in turn keeps. -/
theorem Work.each_keeps {α : Type} (R : Work → Work → Prop) (refl : ∀ w, R w w)
    (trans : ∀ {a b c}, R a b → R b c → R a c) (f : α → Work → Work) (step : ∀ x w, R w (f x w)) :
    ∀ (xs : List α) (w : Work), R w (Work.each f xs w)
  | [], w => refl w
  | x :: xs, w => trans (step x w) (Work.each_keeps R refl trans f step xs (f x w))

/-! ### Membership in the lists of all records -/

theorem mem_allBanks (b : BankId) : b ∈ allBanks := by revert b; decide
theorem mem_allPositions (p : PosId) : p ∈ allPositions := by revert p; decide
theorem mem_allComps (k : CompId) : k ∈ allComps := by revert k; decide
theorem mem_allLoops (l : LoopId) : l ∈ allLoops := by revert l; decide
theorem mem_allHolds (h : HoldId) : h ∈ allHolds := by revert h; decide

end Sys2Proof.Machine
end

