-- ==== Sys2Proof/Laws/Frame.lean ====
section
/-! SUPPORT. What the shared operations of a rule can do: `State.Evolves s t` says what of `s` still stands in `t`. One
lemma per operation of Ops, Sequencer and Compression; `State.Settles` says the same of the end of a rule, where draws may
be granted. -/
namespace Sys2Proof.Machine

/-! ### The relation, record by record -/

/-- A bank keeps its configuration, its readings and its refill priority; a bank out of service keeps everything but its
yield count. -/
structure Bank.Keeps (k t : Bank) : Prop where
  tier : t.tier = k.tier
  rated : t.rated = k.rated
  low : t.low = k.low
  high : t.high = k.high
  pressure : t.pressure = k.pressure
  temperature : t.temperature = k.temperature
  priority : t.priority = k.priority
  outOfService : k.inService = false → t = { k with yields := t.yields }

/-- A compressor keeps its configuration and its withheld flag. -/
structure Compressor.Keeps (k t : Compressor) : Prop where
  reach : t.reach = k.reach
  draw : t.draw = k.draw
  startTime : t.startTime = k.startTime
  unloadTime : t.unloadTime = k.unloadTime
  withheld : t.withheld = k.withheld

/-- A loop keeps its configuration, its readings and its tick timer. -/
structure Loop.Keeps (l t : Loop) : Prop where
  draw : t.draw = l.draw
  capacity : t.capacity = l.capacity
  floor : t.floor = l.floor
  recharge : t.recharge = l.recharge
  consumption : t.consumption = l.consumption
  reserve : t.reserve = l.reserve
  outlet : t.outlet = l.outlet
  band : t.band = l.band
  tick : t.tick = l.tick

/-- A position keeps its configuration, meter, hose pressure, holds and rate limits, and the frame it is receiving. -/
structure Position.Keeps (p t : Position) : Prop where
  cfg : t.cfg = p.cfg
  meter : t.meter = p.meter
  rx : t.rx = p.rx
  hose : t.ses.hose = p.ses.hose
  boundHold : t.ses.boundHold = p.ses.boundHold
  lastHold : t.ses.lastHold = p.ses.lastHold
  rateLimit : t.ses.rateLimit = p.ses.rateLimit
  pendingRate : t.ses.pendingRate = p.ses.pendingRate
  taper : t.ses.taper = p.ses.taper
  coupledStamp : t.ses.coupledStamp = p.ses.coupledStamp
  fuelStamp : t.ses.fuelStamp = p.ses.fuelStamp

/-- What stands through the shared operations and the end of a rule. -/
structure State.Settles (s t : State) : Prop where
  station : t.station = s.station
  suction : t.suction = s.suction
  holds : t.holds = s.holds
  plans : t.plans = s.plans
  rampTable : t.rampTable = s.rampTable
  targetTable : t.targetTable = s.targetTable
  fullTable : t.fullTable = s.fullTable
  port : t.port = s.port
  hostOut : t.hostOut = s.hostOut
  freeIndex : t.freeIndex = s.freeIndex
  pending : t.pending = s.pending
  enables : t.notices.enables = s.notices.enables
  requests : s.notices.requests &&& t.notices.requests = s.notices.requests
  bank : ∀ b, (s.bank b).Keeps (t.bank b)
  comp : ∀ k, (s.comp k).Keeps (t.comp k)
  loop : ∀ l, (s.loop l).Keeps (t.loop l)
  pos : ∀ p, (s.pos p).Keeps (t.pos p)

/-- What stands through the shared operations before the end of a rule: besides, the link's channels and frames, and a
draw is only ever released. -/
structure State.Evolves (s t : State) : Prop extends State.Settles s t where
  link : t.link = s.link
  active : ∀ k, (t.comp k).active = true → (s.comp k).active = true
  running : ∀ l, (t.loop l).chiller = .running → (s.loop l).chiller = .running

theorem Bank.Keeps.refl (k : Bank) : k.Keeps k := ⟨rfl, rfl, rfl, rfl, rfl, rfl, rfl, fun _ => rfl⟩
theorem Compressor.Keeps.refl (k : Compressor) : k.Keeps k := ⟨rfl, rfl, rfl, rfl, rfl⟩
theorem Loop.Keeps.refl (l : Loop) : l.Keeps l := ⟨rfl, rfl, rfl, rfl, rfl, rfl, rfl, rfl, rfl⟩
theorem Position.Keeps.refl (p : Position) : p.Keeps p := ⟨rfl, rfl, rfl, rfl, rfl, rfl, rfl, rfl, rfl, rfl, rfl⟩

theorem Bank.Keeps.trans {a b c : Bank} (h : a.Keeps b) (g : b.Keeps c) : a.Keeps c where
  tier := g.tier.trans h.tier
  rated := g.rated.trans h.rated
  low := g.low.trans h.low
  high := g.high.trans h.high
  pressure := g.pressure.trans h.pressure
  temperature := g.temperature.trans h.temperature
  priority := g.priority.trans h.priority
  outOfService := fun o => by
    have hb := h.outOfService o
    have ob : b.inService = false := by rw [hb]; exact o
    have hc := g.outOfService ob
    rw [hc, hb]

theorem Compressor.Keeps.trans {a b c : Compressor} (h : a.Keeps b) (g : b.Keeps c) : a.Keeps c :=
  ⟨g.reach.trans h.reach, g.draw.trans h.draw, g.startTime.trans h.startTime, g.unloadTime.trans h.unloadTime,
    g.withheld.trans h.withheld⟩

theorem Loop.Keeps.trans {a b c : Loop} (h : a.Keeps b) (g : b.Keeps c) : a.Keeps c :=
  ⟨g.draw.trans h.draw, g.capacity.trans h.capacity, g.floor.trans h.floor, g.recharge.trans h.recharge,
    g.consumption.trans h.consumption, g.reserve.trans h.reserve, g.outlet.trans h.outlet, g.band.trans h.band,
    g.tick.trans h.tick⟩

theorem Position.Keeps.trans {a b c : Position} (h : a.Keeps b) (g : b.Keeps c) : a.Keeps c :=
  ⟨g.cfg.trans h.cfg, g.meter.trans h.meter, g.rx.trans h.rx, g.hose.trans h.hose, g.boundHold.trans h.boundHold,
    g.lastHold.trans h.lastHold, g.rateLimit.trans h.rateLimit, g.pendingRate.trans h.pendingRate,
    g.taper.trans h.taper, g.coupledStamp.trans h.coupledStamp, g.fuelStamp.trans h.fuelStamp⟩

theorem and_requests_trans {a b c : BitVec 16} (h : a &&& b = a) (g : b &&& c = b) : a &&& c = a := by
  rw [← h, BitVec.and_assoc, g]

theorem State.Settles.refl (s : State) : s.Settles s where
  station := rfl
  suction := rfl
  holds := rfl
  plans := rfl
  rampTable := rfl
  targetTable := rfl
  fullTable := rfl
  port := rfl
  hostOut := rfl
  freeIndex := rfl
  pending := rfl
  enables := rfl
  requests := BitVec.and_self
  bank := fun _ => .refl _
  comp := fun _ => .refl _
  loop := fun _ => .refl _
  pos := fun _ => .refl _

theorem State.Settles.trans {a b c : State} (h : a.Settles b) (g : b.Settles c) : a.Settles c where
  station := g.station.trans h.station
  suction := g.suction.trans h.suction
  holds := g.holds.trans h.holds
  plans := g.plans.trans h.plans
  rampTable := g.rampTable.trans h.rampTable
  targetTable := g.targetTable.trans h.targetTable
  fullTable := g.fullTable.trans h.fullTable
  port := g.port.trans h.port
  hostOut := g.hostOut.trans h.hostOut
  freeIndex := g.freeIndex.trans h.freeIndex
  pending := g.pending.trans h.pending
  enables := g.enables.trans h.enables
  requests := and_requests_trans h.requests g.requests
  bank := fun x => (h.bank x).trans (g.bank x)
  comp := fun x => (h.comp x).trans (g.comp x)
  loop := fun x => (h.loop x).trans (g.loop x)
  pos := fun x => (h.pos x).trans (g.pos x)

theorem State.Evolves.refl (s : State) : s.Evolves s :=
  { State.Settles.refl s with link := rfl, active := fun _ h => h, running := fun _ h => h }

theorem State.Evolves.trans {a b c : State} (h : a.Evolves b) (g : b.Evolves c) : a.Evolves c :=
  { h.toSettles.trans g.toSettles with
    link := g.link.trans h.link
    active := fun k x => h.active k (g.active k x)
    running := fun l x => h.running l (g.running l x) }

/-- The same between the states of two works. -/
abbrev Work.Evolves (w t : Work) : Prop := State.Evolves w.toState t.toState
/-- The same between the states of two works. -/
abbrev Work.Settles (w t : Work) : Prop := State.Settles w.toState t.toState

/-! ### The primary updates -/

theorem Work.Evolves.modBank {w : Work} {b : BankId} {f : Bank → Bank} (h : (w.bank b).Keeps (f (w.bank b))) :
    w.Evolves (w.modBank b f) :=
  { State.Evolves.refl w.toState with
    bank := fun c => by
      rw [Work.modBank_bank]
      split
      · next e => subst e; exact h
      · exact .refl _ }

theorem Work.Evolves.modComp {w : Work} {k : CompId} {f : Compressor → Compressor}
    (h : (w.comp k).Keeps (f (w.comp k))) (a : (f (w.comp k)).active = true → (w.comp k).active = true) :
    w.Evolves (w.modComp k f) :=
  { State.Evolves.refl w.toState with
    comp := fun c => by
      rw [Work.modComp_comp]
      split
      · next e => subst e; exact h
      · exact .refl _
    active := fun c => by
      rw [Work.modComp_comp]
      split
      · next e => subst e; exact a
      · exact id }

theorem Work.Evolves.modLoop {w : Work} {l : LoopId} {f : Loop → Loop} (h : (w.loop l).Keeps (f (w.loop l)))
    (a : (f (w.loop l)).chiller = .running → (w.loop l).chiller = .running) : w.Evolves (w.modLoop l f) :=
  { State.Evolves.refl w.toState with
    loop := fun c => by
      rw [Work.modLoop_loop]
      split
      · next e => subst e; exact h
      · exact .refl _
    running := fun c => by
      rw [Work.modLoop_loop]
      split
      · next e => subst e; exact a
      · exact id }

theorem Work.Evolves.modPos {w : Work} {p : PosId} {f : Position → Position} (h : (w.pos p).Keeps (f (w.pos p))) :
    w.Evolves (w.modPos p f) :=
  { State.Evolves.refl w.toState with
    pos := fun c => by
      rw [Work.modPos_pos]
      split
      · next e => subst e; exact h
      · exact .refl _ }

theorem Work.evolves_raise (w : Work) (i : Nat) : w.Evolves (w.raise i) :=
  { State.Evolves.refl w.toState with
    requests := by
      show w.notices.requests &&& (w.notices.requests ||| BitVec.twoPow 16 i) = w.notices.requests
      ext j
      simp only [BitVec.getElem_and, BitVec.getElem_or]
      cases w.notices.requests[j] <;> simp }

theorem Work.evolves_oweEval (w : Work) : w.Evolves w.oweEval := State.Evolves.refl w.toState
theorem Work.evolves_releasedDraw (w : Work) : w.Evolves w.releasedDraw := State.Evolves.refl w.toState

/-- The refill queue, the wait list and the waiting order are free to change. -/
theorem State.evolves_lists (s : State) (q : List QueueEntry) (l : List WaitEntry) (o : List LoopId) :
    s.Evolves { s with refillQueue := q, waitList := l, powerQueue := o } :=
  { State.Evolves.refl s with }

theorem Work.evolves_leaveQueue (w : Work) (b : BankId) : w.Evolves (w.leaveQueue b) :=
  State.evolves_lists w.toState _ w.waitList w.powerQueue

theorem Work.evolves_joinQueue (w : Work) (b : BankId) : w.Evolves (w.joinQueue b) := by
  unfold Work.joinQueue
  split
  · exact .refl _
  · exact State.evolves_lists w.toState _ w.waitList w.powerQueue

theorem Work.evolves_frontQueue (w : Work) (b : BankId) : w.Evolves (w.frontQueue b) :=
  State.evolves_lists w.toState _ w.waitList w.powerQueue

theorem Work.evolves_replaceEntry (w : Work) (b : BankId) : w.Evolves (w.replaceEntry b) := by
  unfold Work.replaceEntry
  split
  · exact .refl _
  · exact State.evolves_lists w.toState _ w.waitList w.powerQueue

theorem Work.evolves_leaveWaitList (w : Work) (p : PosId) : w.Evolves (w.leaveWaitList p) :=
  State.evolves_lists w.toState w.refillQueue _ w.powerQueue

theorem Work.evolves_renewNeed (w : Work) (p : PosId) : w.Evolves (w.renewNeed p) :=
  State.evolves_lists w.toState w.refillQueue _ w.powerQueue

theorem Work.evolves_joinWaitList (w : Work) (p : PosId) (t : List Tier) : w.Evolves (w.joinWaitList p t) := by
  unfold Work.joinWaitList
  split
  · exact State.evolves_lists w.toState w.refillQueue _ w.powerQueue
  · unfold Work.raisePos
    dsimp only
    refine State.Evolves.trans ?_ (Work.evolves_raise _ _)
    exact State.evolves_lists w.toState w.refillQueue _ w.powerQueue

/-- What doing an action to each in turn keeps. -/
theorem Work.evolves_each {α : Type} (f : α → Work → Work) (h : ∀ x w, Work.Evolves w (f x w)) (xs : List α)
    (w : Work) : w.Evolves (Work.each f xs w) :=
  Work.each_keeps Work.Evolves (fun w => State.Evolves.refl w.toState) (fun a b => State.Evolves.trans a b) f h xs w

/-! ### Claims, releases and offers -/

theorem Bank.withFlags_keeps (k : Bank) (h : k.inService = true) : k.Keeps k.withFlags := by
  unfold Bank.withFlags
  split
  · exact .refl _
  · exact ⟨rfl, rfl, rfl, rfl, rfl, rfl, rfl, fun o => by rw [h] at o; cases o⟩

theorem Bank.enterReady_keeps (k : Bank) (c : Clock) (n : Nat) (h : k.inService = true) :
    k.Keeps (k.enterReady c n) := by
  have a := k.withFlags_keeps h
  exact ⟨a.tier, a.rated, a.low, a.high, a.pressure, a.temperature, a.priority, fun o => by rw [h] at o; cases o⟩

theorem Bank.claim_keeps (c : Claimant) (k : Bank) : k.Keeps (k.claim c) := by
  unfold Bank.claim
  split
  · next h => exact ⟨rfl, rfl, rfl, rfl, rfl, rfl, rfl, fun o => by simp [Bank.inService, h] at o⟩
  · exact .refl _

theorem Bank.claim_inService (c : Claimant) (k : Bank) (h : k.inService = true) : (k.claim c).inService = true := by
  unfold Bank.claim
  split
  · cases c <;> rfl
  · exact h

theorem Work.evolves_claimBank (w : Work) (c : Claimant) (b : BankId) : w.Evolves (w.claimBank c b) :=
  Work.Evolves.modBank (Bank.claim_keeps c _)

theorem Work.evolves_makeReady (w : Work) (b : BankId) (h : (w.bank b).inService = true) : w.Evolves (w.makeReady b) :=
  Work.Evolves.modBank (Bank.enterReady_keeps _ _ _ h)

theorem Work.evolves_freeBank (w : Work) (b : BankId) (h : (w.bank b).inService = true) : w.Evolves (w.freeBank b) := by
  have a := w.evolves_makeReady b h
  unfold Work.freeBank
  dsimp only
  split <;> split
  · exact (a.trans (Work.evolves_joinQueue _ _)).trans (Work.evolves_oweEval _)
  · exact a.trans (Work.evolves_joinQueue _ _)
  · exact a.trans (Work.evolves_oweEval _)
  · exact a

/-- Joining the refill queue touches no bank. -/
@[simp] theorem Work.joinQueue_bank (w : Work) (b c : BankId) : (w.joinQueue b).bank c = w.bank c := by
  unfold Work.joinQueue; split <;> rfl

/-- A freed bank is READY. -/
theorem Work.freeBank_ready (w : Work) (b : BankId) : ((w.freeBank b).bank b).state = .ready := by
  have h : ((w.makeReady b).bank b).state = .ready := by
    show ((w.modBank b (Bank.enterReady w.station.clock w.station.leakWindow)).bank b).state = .ready
    rw [Work.modBank_bank_self]; rfl
  unfold Work.freeBank
  dsimp only
  split <;> split <;> simpa using h

theorem Position.startPulse_keeps (b : BankId) (p : Position) : p.Keeps (p.startPulse b) :=
  ⟨rfl, rfl, rfl, rfl, rfl, rfl, rfl, rfl, rfl, rfl, rfl⟩

theorem Position.resumeWith_keeps (n : Nat) (b : BankId) (t : Tier) (p : Position) : p.Keeps (p.resumeWith n b t) :=
  ⟨rfl, rfl, rfl, rfl, rfl, rfl, rfl, rfl, rfl, rfl, rfl⟩

theorem Work.evolves_takeOffer (w : Work) (p : PosId) (b : BankId) : w.Evolves (w.takeOffer p b).2 := by
  unfold Work.takeOffer
  dsimp only
  split
  · exact Work.Evolves.modPos (Position.startPulse_keeps _ _)
  · split
    · exact Work.Evolves.modPos (Position.resumeWith_keeps _ _ _ _)
    · split
      · exact Work.Evolves.modPos ⟨rfl, rfl, rfl, rfl, rfl, rfl, rfl, rfl, rfl, rfl, rfl⟩
      · exact .refl _

/-- Taking or handing back an offer touches no bank. -/
@[simp] theorem Work.takeOffer_bank (w : Work) (p : PosId) (b c : BankId) :
    ((w.takeOffer p b).2).bank c = w.bank c := by
  unfold Work.takeOffer
  dsimp only
  split
  · rfl
  · split
    · rfl
    · split <;> rfl

theorem Work.evolves_offer (n : Nat) (b : BankId) (w : Work) (h : (w.bank b).inService = true) :
    w.Evolves (Work.offer n b w) := by
  induction n generalizing w with
  | zero => exact .refl _
  | succ n ih =>
    unfold Work.offer
    split
    · exact .refl _
    · next e _ =>
      have a := ((w.evolves_leaveWaitList e.pos).trans (Work.evolves_claimBank _ (.pos e.pos) b)).trans
        (Work.evolves_takeOffer _ e.pos b)
      dsimp only
      split
      · exact a
      · have s : ((((w.leaveWaitList e.pos).claimBank (.pos e.pos) b).takeOffer e.pos b).2.bank b).inService = true := by
          rw [Work.takeOffer_bank]
          show (((w.leaveWaitList e.pos).modBank b (Bank.claim (.pos e.pos))).bank b).inService = true
          rw [Work.modBank_bank_self]
          exact Bank.claim_inService _ _ h
        refine (a.trans (Work.evolves_freeBank _ b s)).trans (ih _ ?_)
        unfold Bank.inService
        rw [Work.freeBank_ready]; rfl

theorem Work.evolves_offerBank (w : Work) (b : BankId) : w.Evolves (w.offerBank b) := by
  unfold Work.offerBank
  split
  · next h => exact Work.evolves_offer _ b w (by unfold Bank.inService; rw [h]; rfl)
  · exact .refl _

/-- A bank held by a party is in service. -/
theorem State.heldBy_inService {s : State} {c : Claimant} {b : BankId} (h : s.heldBy c b = true) :
    (s.bank b).inService = true := by
  unfold State.heldBy at h
  unfold Bank.inService
  revert h
  cases (s.bank b).state <;> simp

theorem Work.evolves_releaseBank (w : Work) (c : Claimant) (b : BankId) : w.Evolves (w.releaseBank c b) := by
  unfold Work.releaseBank
  split
  · next h => exact (w.evolves_freeBank b (State.heldBy_inService h)).trans (Work.evolves_offerBank _ _)
  · exact .refl _

theorem Work.evolves_giveBack (w : Work) (k : CompId) (b : BankId) : w.Evolves (w.giveBack k b) := by
  unfold Work.giveBack
  split
  · next h =>
    exact ((w.evolves_makeReady b (State.heldBy_inService h)).trans (Work.evolves_frontQueue _ _)).trans
      (Work.evolves_offerBank _ _)
  · exact .refl _

theorem Work.evolves_pulsingSelect (w : Work) (p : PosId) : w.Evolves (w.pulsingSelect p) := by
  unfold Work.pulsingSelect
  dsimp only
  split
  · exact (w.evolves_claimBank _ _).trans (Work.Evolves.modPos (Position.startPulse_keeps _ _))
  · exact (w.evolves_joinWaitList p _).trans (Work.Evolves.modPos ⟨rfl, rfl, rfl, rfl, rfl, rfl, rfl, rfl, rfl, rfl, rfl⟩)

/-! ### Grants of a loop -/

theorem Work.evolves_grantGiven (w : Work) (p : PosId) : w.Evolves (w.grantGiven p) := by
  unfold Work.grantGiven
  dsimp only
  have a : w.Evolves (w.modPos p (fun x => { x with ses.band := .cold })) :=
    Work.Evolves.modPos ⟨rfl, rfl, rfl, rfl, rfl, rfl, rfl, rfl, rfl, rfl, rfl⟩
  split
  · exact (a.trans (Work.Evolves.modPos ⟨rfl, rfl, rfl, rfl, rfl, rfl, rfl, rfl, rfl, rfl, rfl⟩)).trans
      (Work.evolves_pulsingSelect _ p)
  · exact a

theorem Work.evolves_serveQueueN (n : Nat) (l : LoopId) (w : Work) : w.Evolves (Work.serveQueueN n l w) := by
  induction n generalizing w with
  | zero => exact .refl _
  | succ n ih =>
    unfold Work.serveQueueN
    split
    · exact .refl _
    · split
      · refine State.Evolves.trans ?_ (ih _)
        refine State.Evolves.trans ?_ (Work.evolves_grantGiven _ _)
        exact Work.Evolves.modLoop ⟨rfl, rfl, rfl, rfl, rfl, rfl, rfl, rfl, rfl⟩ id
      · exact .refl _

theorem Work.evolves_serveQueue (w : Work) (l : LoopId) : w.Evolves (w.serveQueue l) := Work.evolves_serveQueueN 2 l w

theorem Work.evolves_requestGrant (w : Work) (p : PosId) (l : LoopId) : w.Evolves (w.requestGrant p l) := by
  unfold Work.requestGrant
  split
  · exact .refl _
  · refine State.Evolves.trans ?_ (Work.evolves_serveQueue _ _)
    exact Work.Evolves.modLoop ⟨rfl, rfl, rfl, rfl, rfl, rfl, rfl, rfl, rfl⟩ id

theorem Work.evolves_leaveLoop (w : Work) (p : PosId) : w.Evolves (w.leaveLoop p) := by
  unfold Work.leaveLoop
  split
  · exact .refl _
  · split
    · refine State.Evolves.trans ?_ (Work.evolves_serveQueue _ _)
      exact Work.Evolves.modLoop ⟨rfl, rfl, rfl, rfl, rfl, rfl, rfl, rfl, rfl⟩ id
    · split
      · refine State.Evolves.trans ?_ (Work.evolves_serveQueue _ _)
        exact Work.Evolves.modLoop ⟨rfl, rfl, rfl, rfl, rfl, rfl, rfl, rfl, rfl⟩ id
      · exact .refl _

/-! ### The end of a fill, HELD, fallback, steps -/

/-- Writing only fields of the session, its timers or its valves that a rule may change keeps the position. -/
theorem Work.evolves_modPos (w : Work) (p : PosId) (f : Position → Position) (h : ∀ x : Position, x.Keeps (f x)) :
    w.Evolves (w.modPos p f) := Work.Evolves.modPos (h _)

theorem Work.evolves_releaseNamed (w : Work) (p : PosId) : w.Evolves (w.releaseNamed p) := by
  unfold Work.releaseNamed
  dsimp only
  have a : w.Evolves (w.modPos p (fun y => { y with ses := { y.ses with current := none, staged := none } })) :=
    Work.Evolves.modPos ⟨rfl, rfl, rfl, rfl, rfl, rfl, rfl, rfl, rfl, rfl, rfl⟩
  split <;> split
  · exact (a.trans (Work.evolves_releaseBank _ _ _)).trans (Work.evolves_releaseBank _ _ _)
  · exact a.trans (Work.evolves_releaseBank _ _ _)
  · exact a.trans (Work.evolves_releaseBank _ _ _)
  · exact a

theorem Work.evolves_endCore (w : Work) (p : PosId) (r : EndReason) : w.Evolves (w.endCore p r) := by
  unfold Work.endCore
  dsimp only
  refine State.Evolves.trans ?_ (Work.evolves_modPos _ p _ fun _ => ⟨rfl, rfl, rfl, rfl, rfl, rfl, rfl, rfl, rfl, rfl, rfl⟩)
  refine State.Evolves.trans ?_ (Work.evolves_leaveLoop _ p)
  refine State.Evolves.trans ?_ (Work.evolves_leaveWaitList _ p)
  refine State.Evolves.trans ?_ (Work.evolves_releaseNamed _ p)
  exact Work.evolves_modPos _ p _ fun _ => ⟨rfl, rfl, rfl, rfl, rfl, rfl, rfl, rfl, rfl, rfl, rfl⟩

theorem Work.evolves_endFill (w : Work) (p : PosId) (r : EndReason) : w.Evolves (w.endFill p r) := by
  unfold Work.endFill
  split
  · exact w.evolves_endCore p r
  · exact .refl _

theorem Work.evolves_fuellingSelect (w : Work) (p : PosId) : w.Evolves (w.fuellingSelect p).2 := by
  unfold Work.fuellingSelect
  dsimp only
  split
  · exact (w.evolves_claimBank _ _).trans (Work.Evolves.modPos ⟨rfl, rfl, rfl, rfl, rfl, rfl, rfl, rfl, rfl, rfl, rfl⟩)
  · exact .refl _

theorem Position.openControl_keeps (n : Nat) (p : Position) : p.Keeps (p.openControl n) := by
  unfold Position.openControl
  split
  · exact .refl _
  · exact ⟨rfl, rfl, rfl, rfl, rfl, rfl, rfl, rfl, rfl, rfl, rfl⟩

theorem Work.evolves_judgeValve (w : Work) (p : PosId) : w.Evolves (w.judgeValve p) := by
  unfold Work.judgeValve
  dsimp only
  split
  · split
    · exact Work.Evolves.modPos (Position.openControl_keeps _ _)
    · exact Work.Evolves.modPos ⟨rfl, rfl, rfl, rfl, rfl, rfl, rfl, rfl, rfl, rfl, rfl⟩
  · exact .refl _

theorem Work.evolves_enterHeld (w : Work) (p : PosId) (c : Cause) : w.Evolves (w.enterHeld p c) := by
  unfold Work.enterHeld
  dsimp only
  refine State.Evolves.trans ?_ (Work.evolves_modPos _ p _ fun _ => ⟨rfl, rfl, rfl, rfl, rfl, rfl, rfl, rfl, rfl, rfl, rfl⟩)
  refine State.Evolves.trans ?_ (Work.evolves_releaseNamed _ p)
  exact Work.evolves_modPos _ p _ fun _ => ⟨rfl, rfl, rfl, rfl, rfl, rfl, rfl, rfl, rfl, rfl, rfl⟩

theorem Work.evolves_addCause (w : Work) (p : PosId) (c : Cause) : w.Evolves (w.addCause p c) := by
  unfold Work.addCause
  split
  · exact w.evolves_enterHeld p c
  · exact Work.Evolves.modPos ⟨rfl, rfl, rfl, rfl, rfl, rfl, rfl, rfl, rfl, rfl, rfl⟩
  · exact .refl _

theorem Work.evolves_noBankHold (w : Work) (p : PosId) : w.Evolves (w.noBankHold p) :=
  (w.evolves_joinWaitList p _).trans (Work.evolves_enterHeld _ p .noBank)

theorem Work.evolves_selectOrHold (w : Work) (p : PosId) : w.Evolves (w.selectOrHold p) := by
  unfold Work.selectOrHold
  dsimp only
  split
  · exact w.evolves_fuellingSelect p
  · exact (w.evolves_fuellingSelect p).trans (Work.evolves_noBankHold _ p)

theorem Work.evolves_leaveHeld (w : Work) (p : PosId) : w.Evolves (w.leaveHeld p) := by
  unfold Work.leaveHeld
  dsimp only
  have a : w.Evolves (w.modPos p (fun x =>
      { x with ses.ceiling := min (w.hoseOf p) x.ses.target, tmr.held := none })) :=
    Work.Evolves.modPos ⟨rfl, rfl, rfl, rfl, rfl, rfl, rfl, rfl, rfl, rfl, rfl⟩
  have b := a.trans (Work.evolves_fuellingSelect _ p)
  split
  · exact b.trans (Work.Evolves.modPos ⟨rfl, rfl, rfl, rfl, rfl, rfl, rfl, rfl, rfl, rfl, rfl⟩)
  · exact (b.trans (Work.evolves_joinWaitList _ p _)).trans
      (Work.Evolves.modPos ⟨rfl, rfl, rfl, rfl, rfl, rfl, rfl, rfl, rfl, rfl, rfl⟩)

theorem Work.evolves_removeCause (w : Work) (p : PosId) (c : Cause) : w.Evolves (w.removeCause p c) := by
  unfold Work.removeCause
  dsimp only
  split
  · have a : w.Evolves (w.modPos p (fun y => { y with ses.causes := y.ses.causes.put c false })) :=
      Work.Evolves.modPos ⟨rfl, rfl, rfl, rfl, rfl, rfl, rfl, rfl, rfl, rfl, rfl⟩
    split
    · exact a.trans (Work.evolves_leaveHeld _ p)
    · exact a
  · exact .refl _

/-- A fallback leaves the ceiling at or below the target (06, R113). -/
theorem Position.fallBack_ceiling_le_target (v : Nat) (p : Position) :
    (p.fallBack v).ses.ceiling ≤ (p.fallBack v).ses.target := Nat.min_le_right _ _

/-- A fallback never raises the target (07, R133). -/
theorem Position.fallBack_target_le (v : Nat) (p : Position) : (p.fallBack v).ses.target ≤ p.ses.target :=
  Nat.min_le_left _ _

theorem Work.evolves_applyFallback (w : Work) (p : PosId) : w.Evolves (w.applyFallback p) := by
  unfold Work.applyFallback
  dsimp only
  have a : w.Evolves (w.modPos p (Position.fallBack (w.noncommTarget p))) :=
    Work.Evolves.modPos ⟨rfl, rfl, rfl, rfl, rfl, rfl, rfl, rfl, rfl, rfl, rfl⟩
  split
  · exact a.trans (Work.evolves_endFill _ p _)
  · exact a.trans (Work.evolves_judgeValve _ p)

theorem Work.evolves_stepOn (w : Work) (p : PosId) : w.Evolves (w.stepOn p) := by
  unfold Work.stepOn
  dsimp only
  have a : w.Evolves (w.modPos p (fun x => { x with ses.steps := min 255 (x.ses.steps + 1) })) :=
    Work.Evolves.modPos ⟨rfl, rfl, rfl, rfl, rfl, rfl, rfl, rfl, rfl, rfl, rfl⟩
  split
  · have b := a.trans (Work.evolves_applyFallback _ p)
    split
    · exact b.trans (Work.evolves_selectOrHold _ p)
    · exact b
  · split
    · exact a.trans (Work.evolves_selectOrHold _ p)
    · exact a

theorem Work.evolves_stepFill (w : Work) (p : PosId) : w.Evolves (w.stepFill p) := by
  unfold Work.stepFill
  dsimp only
  have a : w.Evolves (w.modPos p (fun x => { x.closeRoute with ses := { x.closeRoute.ses with current := none } })) :=
    Work.Evolves.modPos ⟨rfl, rfl, rfl, rfl, rfl, rfl, rfl, rfl, rfl, rfl, rfl⟩
  split
  · exact (a.trans (Work.evolves_releaseBank _ _ _)).trans (Work.evolves_stepOn _ p)
  · exact a.trans (Work.evolves_stepOn _ p)

theorem Work.evolves_enterChecking (w : Work) (p : PosId) : w.Evolves (w.enterChecking p) :=
  Work.Evolves.modPos ⟨rfl, rfl, rfl, rfl, rfl, rfl, rfl, rfl, rfl, rfl, rfl⟩

theorem Work.evolves_bankLost (w : Work) (p : PosId) (b : BankId) : w.Evolves (w.bankLost p b) := by
  have a : w.Evolves (w.modPos p (fun y =>
      { y.closeRoute with ses := { y.closeRoute.ses with current := none, staged := none } })) :=
    Work.Evolves.modPos ⟨rfl, rfl, rfl, rfl, rfl, rfl, rfl, rfl, rfl, rfl, rfl⟩
  unfold Work.bankLost
  dsimp only
  split
  · exact a.trans (Work.evolves_enterChecking _ p)
  · split
    · exact a.trans (Work.evolves_stepOn _ p)
    · exact .refl _

/-! ### Compressors, isolation, shedding -/

theorem Work.evolves_unloadComp (w : Work) (k : CompId) : w.Evolves (w.unloadComp k) :=
  Work.Evolves.modComp ⟨rfl, rfl, rfl, rfl, rfl⟩ (fun h => by cases h)

theorem Work.evolves_loseRefill (w : Work) (k : CompId) : w.Evolves (w.loseRefill k) := by
  unfold Work.loseRefill
  dsimp only
  split
  · exact (w.evolves_unloadComp k).trans (Work.evolves_giveBack _ _ _)
  · exact w.evolves_unloadComp k

theorem Bank.yields_keeps (k : Bank) (n : Nat) : k.Keeps { k with yields := n } :=
  ⟨rfl, rfl, rfl, rfl, rfl, rfl, rfl, fun _ => rfl⟩

theorem Work.evolves_completeRefill (w : Work) (k : CompId) : w.Evolves (w.completeRefill k) := by
  unfold Work.completeRefill
  dsimp only
  have a : w.Evolves ((w.unloadComp k).modComp k (fun c => { c with refills := c.refills + 1 })) :=
    (w.evolves_unloadComp k).trans (Work.Evolves.modComp ⟨rfl, rfl, rfl, rfl, rfl⟩ id)
  split
  · exact (a.trans (Work.Evolves.modBank (Bank.yields_keeps _ 0))).trans (Work.evolves_releaseBank _ _ _)
  · exact a

theorem Work.evolves_yieldBank (w : Work) (k : CompId) (b : BankId) : w.Evolves (w.yieldBank k b) := by
  refine State.Evolves.trans ?_ (Work.evolves_loseRefill _ k)
  exact Work.Evolves.modBank (Bank.yields_keeps _ _)

theorem Work.evolves_yieldAtPressure (w : Work) (k : CompId) (b : BankId) : w.Evolves (w.yieldAtPressure k b) := by
  unfold Work.yieldAtPressure
  split
  · exact .refl _
  · split
    · exact w.evolves_yieldBank k b
    · exact .refl _

theorem Work.evolves_yieldAtExpiry (w : Work) (e : WaitEntry) : w.Evolves (w.yieldAtExpiry e) := by
  unfold Work.yieldAtExpiry
  split
  · exact .refl _
  · split
    · exact w.evolves_yieldBank _ _
    · exact .refl _

theorem Work.evolves_pressureToComp (w : Work) (k : CompId) (b : BankId) : w.Evolves (w.pressureToComp k b) := by
  unfold Work.pressureToComp
  dsimp only
  split
  · exact w.evolves_completeRefill k
  · split
    · exact w.evolves_yieldAtPressure k b
    · exact .refl _

theorem Bank.isolateWith_keeps (r : IsoReason) (k : Bank) (h : k.inService = true) : k.Keeps (k.isolateWith r) :=
  ⟨rfl, rfl, rfl, rfl, rfl, rfl, rfl, fun o => by rw [h] at o; cases o⟩

theorem Work.evolves_isolateBank (w : Work) (b : BankId) (r : IsoReason) : w.Evolves (w.isolateBank b r) := by
  unfold Work.isolateBank
  dsimp only
  split
  · next h =>
    refine State.Evolves.trans ?_ (Work.evolves_raise _ 11)
    refine State.Evolves.trans ?_ (Work.evolves_leaveQueue _ b)
    have a : w.Evolves (w.modBank b (Bank.isolateWith r)) := Work.Evolves.modBank (Bank.isolateWith_keeps r _ h)
    split
    · exact a.trans (Work.evolves_bankLost _ _ b)
    · split
      · exact a.trans (Work.evolves_unloadComp _ _)
      · exact a
    · exact a
  · exact .refl _

theorem Work.evolves_shedLoop (w : Work) (l : LoopId) : w.Evolves (w.shedLoop l) := by
  unfold Work.shedLoop
  have a : w.Evolves (w.modLoop l (fun x => { x with chiller := .waitingPower })) :=
    Work.Evolves.modLoop ⟨rfl, rfl, rfl, rfl, rfl, rfl, rfl, rfl, rfl⟩ (fun h => by cases h)
  exact a.trans (State.evolves_lists _ _ _ _)

theorem Work.evolves_shedNext (w : Work) : w.Evolves w.shedNext := by
  unfold Work.shedNext
  split
  · exact w.evolves_loseRefill _
  · split
    · exact w.evolves_loseRefill _
    · split
      · exact w.evolves_shedLoop _
      · split
        · exact w.evolves_shedLoop _
        · exact .refl _

theorem Work.evolves_shed (n : Nat) (w : Work) : w.Evolves (Work.shed n w) := by
  induction n generalizing w with
  | zero => exact .refl _
  | succ n ih =>
    unfold Work.shed
    split
    · exact .refl _
    · exact (w.evolves_shedNext).trans (ih _)

/-! ### The end of a rule -/

theorem Work.settles_grantChiller (w : Work) (l : LoopId) : w.Settles (w.grantChiller l) :=
  { State.Settles.refl w.toState with
    loop := fun c => by
      unfold Work.grantChiller
      dsimp only
      rw [Work.modLoop_loop]
      split
      · next e => subst e; exact ⟨rfl, rfl, rfl, rfl, rfl, rfl, rfl, rfl, rfl⟩
      · exact .refl _ }

theorem Work.settles_each {α : Type} (f : α → Work → Work) (h : ∀ x w, Work.Settles w (f x w)) (xs : List α)
    (w : Work) : w.Settles (Work.each f xs w) :=
  Work.each_keeps Work.Settles (fun w => State.Settles.refl w.toState) (fun a b => State.Settles.trans a b) f h xs w

theorem Work.settles_serveWaiting (w : Work) : w.Settles w.serveWaiting := by
  refine Work.settles_each _ (fun l w => ?_) _ w
  unfold Work.serveOne
  split
  · exact .refl _
  · split
    · exact w.settles_grantChiller l
    · exact .refl _

theorem Work.settles_assign (w : Work) (k : CompId) (b : BankId) : w.Settles (w.assign k b) := by
  have a := ((w.evolves_leaveQueue b).trans (Work.evolves_claimBank _ (.comp k) b)).toSettles
  refine a.trans ?_
  exact
    { State.Settles.refl _ with
      comp := fun c => by
        unfold Work.assign
        rw [Work.modComp_comp]
        split
        · next e => subst e; exact ⟨rfl, rfl, rfl, rfl, rfl⟩
        · exact .refl _ }

theorem Work.settles_evaluate (w : Work) : w.Settles w.evaluate := by
  unfold Work.evaluate
  split
  · refine Work.settles_each _ (fun e w => ?_) _ w
    unfold Work.visit
    dsimp only
    split
    · split
      · exact (w.evolves_leaveQueue _).toSettles
      · split
        · exact w.settles_assign _ _
        · exact .refl _
    · exact .refl _
  · exact .refl _

/-- Replacing the link changes nothing else. -/
theorem State.settles_link (s : State) (f : FieldLink) : s.Settles { s with link := f } := { State.Settles.refl s with }

/-- The end of a rule keeps what the shared operations keep, but for the link's frames and the draws it grants. -/
theorem Work.settles_close (w : Work) (s0 : State) : State.Settles w.toState (w.close s0) := by
  unfold Work.close
  dsimp only
  have a : ∀ b : Bool, w.Settles (if b then w.serveWaiting else w) := by
    intro b; cases b
    · exact .refl _
    · exact w.settles_serveWaiting
  have c : ∀ (b : Bool) (v : Work), v.Settles (if b then v.evaluate else v) := by
    intro b v; cases b
    · exact .refl _
    · exact v.settles_evaluate
  have d := (a w.serveDue).trans (c w.evalDue _)
  revert d
  generalize (if w.evalDue = true then _ else _ : Work) = v
  intro d
  split
  · exact d
  · exact d.trans (State.settles_link _ _)

end Sys2Proof.Machine
end

