-- ==== Sys2Proof/Tests/Slice0.lean ====
section
/-! SUPPORT. Small tests on fixed values: the well-formedness smoke, worked examples of the spec, and for every statement
a state and operands that meet its premises. -/
namespace Sys2Proof.Tests
open Sys2Proof Sys2Proof.Machine
set_option Elab.async false

/-! ### Building small states -/

/-- The state that a command leaves. -/
def after (c : Instr) (s : State) : State :=
  match exec c s with
  | .next t => t
  | _ => s

/-- The checksum byte that makes the sum of some bytes 0. -/
def ck (bytes : List Byte) : Byte := 0 - bytes.foldl (· + ·) 0

/-- A sample frame of a kind, index and raw value. -/
def sample (kind index lo hi quality : Byte) : Instr :=
  .sampleFrame [0x5A, kind, index, lo, hi, quality, ck [kind, index, lo, hi, quality]]

/-- A record named by its own number, and one named by the window. -/
def num (n : Byte) : Addr := { window := false, num := n }
def windowed : Addr := { window := true, num := 0 }

/-- A whole served transfer with these data bytes. -/
def tail (data : List Byte) : Tail :=
  { count := BitVec.ofNat 8 data.length, data := data, extra := 0, served := true }

/-- A LOOK's tail: one clocked byte more than the count. -/
def lookTail (n : Nat) : Tail :=
  { count := BitVec.ofNat 8 n, data := List.replicate (n + 1) 0, extra := 0, served := true }

def withBank (b : BankId) (x : Bank) (s : State) : State := { s with banks := s.banks.set b x }
def withComp (k : CompId) (x : Compressor) (s : State) : State := { s with comps := s.comps.set k x }
def withLoop (l : LoopId) (x : Loop) (s : State) : State := { s with loops := s.loops.set l x }
def withPos (p : PosId) (x : Position) (s : State) : State := { s with positions := s.positions.set p x }
def withHold (h : HoldId) (x : Hold) (s : State) : State := { s with holds := s.holds.set h x }

/-- A station in SERVICE and RUNNING with power to grant, nothing being sent on the link, suction SHORT. -/
def served : State :=
  { State.reset with
    station := { State.reset.station with phase := .service, allowance := 500, clock := 1000 },
    link := { State.reset.link with sending := none } }

/-- The same with suction SUFFICIENT, so that an evaluation does something. -/
def sucking : State := { served with suction := .sufficient }

/-- A READY bank at a pressure, its leak watch running. -/
def ready (tier : Tier) (rated low high v : Nat) : Bank :=
  { Bank.reset with
    tier := tier, rated := rated, low := low, high := high, pressure := some v, temperature := some 200,
    state := .ready, belowLow := decide (v < low), atHigh := decide (high ≤ v), leakRef := some v,
    leakStamp := some 0, leakTimer := some 600000 }

/-- A READY T2 bank with the marks of mark profile 0. -/
def readyT2 (v : Nat) : Bank := ready .t2 5000 3000 4750 v

/-- A bank of a claimant. -/
def claimed (st : BankState) (c : Claimant) (x : Bank) : Bank :=
  { x with state := st, claimant := some c, leakRef := none, leakStamp := none, leakTimer := none }

/-- An isolated bank. -/
def isolated (r : IsoReason) (x : Bank) : Bank :=
  { x with state := .isolated, isolation := some r, leakRef := none, leakStamp := none, leakTimer := none }

/-- A compressor at work on a bank. -/
def working (st : CompState) (b : BankId) (start : Timer) : Compressor :=
  { Compressor.reset .t2 160 with state := st, bank := some b, startTimer := start }

/-- A position of class BUS35, or CAR70 with precooling on L1 and a receiver, in a session state at a hose pressure,
with H31 bound. -/
def bus (st : SessionState) (hose : Nat) : Position :=
  { Position.reset with
    cfg := { PosConfig.reset with cls := .bus35 },
    ses := { Session.reset with
      state := st, boundHold := some 31, lastHold := some 31, hose := some hose, target := 4200,
      mode := some .noncomm } }
def car (st : SessionState) (hose : Nat) : Position :=
  { Position.reset with
    cfg := { PosConfig.reset with cls := .car70, precool := true, loop := some 1, receiver := true },
    ses := { Session.reset with
      state := st, boundHold := some 31, lastHold := some 31, hose := some hose, target := 8000, cursor := .t2,
      mode := some .comm } }

/-- A BOUND hold of 20.00 at 14.50 a kilogram. -/
def charged : Hold :=
  { Hold.free with
    state := .bound, kind := .money, limit := 2000, price := some 1450, massCeiling := some 1379, position := some 0 }

/-- A loop that serves: COLD, its reserve at the floor, ticking. -/
def cold : Loop :=
  { Loop.reset with reserve := 6000, outlet := some (-330), band := .cold, tick := some 1000 }

/-! ### Well-formedness -/

theorem test_wellFormed_refuses_a_second_spelling_of_a_set :
    (Instr.setFields 0 0 0 (tail [0, 0, 0, 0])).wellFormed = false ∧
    (Instr.setFields 0 0 9 (tail [0, 1])).wellFormed = true := by decide +kernel

theorem test_wellFormed_refuses_bits_that_name_an_operation :
    (Instr.failedTransfer { bytes := [0x30, 0, 0, 0], extra := 0, served := true }).wellFormed = false ∧
    (Instr.failedTransfer { bytes := [], extra := 0, served := true }).wellFormed = false ∧
    (Instr.failedTransfer { bytes := [], extra := 7, served := true }).wellFormed = true ∧
    (Instr.failedTransfer { bytes := [0x70, 0, 0, 0], extra := 0, served := true }).wellFormed = true := by
  decide +kernel

theorem test_wellFormed_refuses_bytes_of_an_unserved_summary :
    (Instr.summaryTransfer 1 0 false).wellFormed = false ∧ (Instr.summaryTransfer 0 0 false).wellFormed = true ∧
    (Instr.summaryTransfer 28 0 true).wellFormed = true := by decide +kernel

/-! ### Premises met: machine, link, lines -/

theorem test_premises_EveryCommandAnswersANextState : State.reset.pending = [] := rfl

theorem test_premises_SampleFramesReachTheirOwnerOrAreDiscarded :
    (served.link.rx = none ∧
      ((0 : Byte).toNat = (channelCodes (.bankP 11)).1 ∧ (11 : Byte).toNat = (channelCodes (.bankP 11)).2 ∧
        (0 : Byte) + 11 + 0xF8 + 0x2A + ck [0, 11, 0xF8, 0x2A] = 0 ∧ channelIsTemperature (.bankP 11) = false ∧
        (11000 : Int) = (0xF8 : Byte).toNat + 256 * (0x2A : Byte).toNat ∧
        (channelBounds (.bankP 11)).1 ≤ 11000 ∧ 11000 ≤ (channelBounds (.bankP 11)).2) ∧
      ((5 : Byte).toNat = (channelCodes (.loopT 1)).1 ∧ (1 : Byte).toNat = (channelCodes (.loopT 1)).2 ∧
        (5 : Byte) + 1 + 0xA8 + 0x7D + ck [5, 1, 0xA8, 0x7D] = 0 ∧ channelIsTemperature (.loopT 1) = true ∧
        (-600 : Int) = (0xA8 : Byte).toNat + 256 * (0x7D : Byte).toNat - 32768 ∧
        (channelBounds (.loopT 1)).1 ≤ -600 ∧ (-600) ≤ (channelBounds (.loopT 1)).2)) ∧
    ((0 : Byte) + 0 + 0 + 0 + 0 + 1 ≠ 0 ∧ 1 < (2 : Byte).toNat ∧
      ¬((0 : Byte).toNat ≤ 1 ∧ (12 : Byte).toNat < 12) ∧ (12 : Byte) ≠ 0x5A) := by decide +kernel

theorem test_a_sample_reaches_its_owner :
    (after (sample 0 11 0xF8 0x2A 0) served).reading (.bankP 11) = some 11000 ∧
    (after (sample 5 1 0xA8 0x7D 0) served).reading (.loopT 1) = some (-600) ∧
    after (sample 0 12 0 0 0) served = served ∧ after (sample 0 0 0 0 2) served = served := by decide +kernel

/-- A GOOD channel of B3 on `served`. -/
def goodB3 : State :=
  { withBank 3 (readyT2 4000) served with
    link := { served.link with
      bankP := served.link.bankP.set 3 { quality := .good, value := some 4000, silence := some 2000 } } }

theorem test_premises_ChannelGoesBadAndItsOwnerIsTold :
    (goodB3.link.rx = none ∧ (goodB3.link.chan (.bankP 3)).quality = .good ∧
      (goodB3.link.chan (.bankP 3)).silence.isSome = true ∧ (served.link.chan (.bankP 3)).quality = .bad ∧
      (served.link.chan (.bankP 3)).silence = none) ∧
    ((0 : Byte).toNat = (channelCodes (.bankP 3)).1 ∧ (3 : Byte).toNat = (channelCodes (.bankP 3)).2 ∧
      (0 : Byte) + 3 + 0xF9 + 0x2A + 0 + ck [3, 0xF9, 0x2A] = 0 ∧
      ¬((channelBounds (.bankP 3)).1 ≤ 11001 ∧ (11001 : Int) ≤ (channelBounds (.bankP 3)).2) ∧
      (11001 : Int) = (0xF9 : Byte).toNat + 256 * (0x2A : Byte).toNat ∧
      (0 : Byte) + 3 + 0 + 0 + 1 + ck [3, 1] = 0) ∧
    ((after (.silenceTimerExpiry (.bankP 3)) goodB3).bank 3).isolation = some .sensor := by decide +kernel

/-- A venting session at P0, its vent open. -/
def venting : State :=
  withHold 31 charged (withPos 0
    { bus .venting 4000 with
      ses := { (bus .venting 4000).ses with endReason := some .hostStop, vent := .opened },
      tmr := { PosTimers.stopped with vent := some 3000 } } served)

theorem test_premises_RouteFramesFollowTheRouteRecord :
    (exec .clockSecond served = .next (after .clockSecond served) ∧
      (after .clockSecond served).routes = served.routes) ∧
    (exec (.ventTimerExpiry 0) venting = .next (after (.ventTimerExpiry 0) venting) ∧
      (after (.ventTimerExpiry 0) venting).routes ≠ venting.routes ∧ venting.link.sending = none ∧
      OnlyRoutesTheLink (.ventTimerExpiry 0) = true ∧
      { venting with link := State.reset.link }.link.sending.isSome = true) := by
  refine ⟨⟨rfl, ?_⟩, rfl, ?_, ?_⟩ <;> decide +kernel

/-- The same premises behind a link that is sending. -/
theorem test_premises_RouteFrames_behind_a_sending_link :
    exec (.ventTimerExpiry 0) { venting with link := State.reset.link } =
      .next (after (.ventTimerExpiry 0) { venting with link := State.reset.link }) ∧
    (after (.ventTimerExpiry 0) { venting with link := State.reset.link }).link.waiting.isSome = true := by
  refine ⟨rfl, ?_⟩; decide +kernel

/-- A station at work: an AUTHORISED session at P0, a FUELLING one at P7 on B4, K1 refilling B5, both loops on. -/
def atWork : State :=
  withHold 31 charged <| withPos 0 (bus .authorised 1000) <|
  withPos 7
    { car .fuelling 3000 with
      ses := { (car .fuelling 3000).ses with
        boundHold := some 30, current := some 4, supply := some 4, control := .opened, ceiling := 3100 },
      tmr := { PosTimers.stopped with ramp := some 1000, stall := some 20000 } } <|
  withHold 30 { charged with position := some 7 } <|
  withBank 4 (claimed .serving (.pos 7) (readyT2 4600)) <|
  withBank 5 (claimed .refilling (.comp 1) (readyT2 2000)) <|
  withComp 1 (working .running 5 none) <|
  withLoop 1 { cold with grants := [7], chiller := .running } served

theorem test_premises_EmergencyStopHaltsEveryBlock :
    atWork.station.halt = .running ∧ (atWork.pos 0).ses.state = .authorised ∧
    (atWork.pos 0).ses.boundHold = some 31 ∧ (atWork.pos 7).ses.state.live = true ∧
    (atWork.pos 3).ses.state = .idle ∧ (after .esdAsserted atWork).station.halt = .halted ∧
    (atWork.bank 4).state = .serving ∧ (atWork.comp 1).active = true := by decide +kernel

/-! ### Premises met: banks -/

/-- B3 READY at 40.00 MPa. -/
def oneReady : State := withBank 3 (readyT2 4000) served

theorem test_premises_BanksAreWatched :
    (oneReady.link.rx = none ∧ (oneReady.bank 3).inService = true ∧ (oneReady.bank 3).state = .ready ∧
      (oneReady.bank 3).leakTimer.isSome = true ∧
      (5001 : Nat) = (0x89 : Byte).toNat + 256 * (0x13 : Byte).toNat ∧ (oneReady.bank 3).rated < 5001 ∧
      BitVec.ofNat 8 (3 : BankId).val + 0x89 + 0x13 + ck [3, 0x89, 0x13] = 0) ∧
    ((3949 : Nat) = (0x6D : Byte).toNat + 256 * (0x0F : Byte).toNat ∧ 3949 ≤ (oneReady.bank 3).rated ∧
      (oneReady.bank 3).leakRef = some 4000 ∧ 3949 + oneReady.station.leakAllowance < 4000) ∧
    (32768 + 850 ≤ (0x52 : Byte).toNat + 256 * (0x83 : Byte).toNat ∧
      (0x52 : Byte).toNat + 256 * (0x83 : Byte).toNat = 32768 + 850 ∧
      (0xB0 : Byte).toNat + 256 * (0x84 : Byte).toNat = 32768 + 1200 ∧
      1 + BitVec.ofNat 8 (3 : BankId).val + 0x52 + 0x83 + ck [1, 3, 0x52, 0x83] = 0) ∧
    ((State.reset.bank 3).leakTimer = none) := by decide +kernel

theorem test_a_leak_is_more_than_the_allowance :
    ((after (sample 0 3 0x6D 0x0F 0) oneReady).bank 3).isolation = some .leak ∧
    ((after (sample 0 3 0x6E 0x0F 0) oneReady).bank 3).state = .ready ∧
    ((after (sample 0 3 0x89 0x13 0) oneReady).bank 3).isolation = some .overpressure ∧
    ((after (sample 0 3 0x88 0x13 0) oneReady).bank 3).state = .ready ∧
    ((after (sample 1 3 0x52 0x83 0) oneReady).bank 3).isolation = some .overtemp ∧
    ((after (sample 1 3 0x51 0x83 0) oneReady).bank 3).state = .ready := by decide +kernel

/-- B3 READY at its low mark, its leak reference there too. -/
def atLow : State := withBank 3 (readyT2 3000) served

theorem test_premises_PressureSampleSetsTheLevelFlags :
    (atLow.link.rx = none ∧ (atLow.bank 3).state = .ready ∧ (atLow.bank 3).belowLow = false ∧
      (2999 : Nat) = (0xB7 : Byte).toNat + 256 * (0x0B : Byte).toNat ∧ 2999 < (atLow.bank 3).low ∧
      (atLow.bank 3).low < (atLow.bank 3).high ∧ 2999 ≤ (atLow.bank 3).rated ∧
      BitVec.ofNat 8 (3 : BankId).val + 0xB7 + 0x0B + ck [3, 0xB7, 0x0B] = 0 ∧
      (atLow.bank 3).leakRef = some 3000 ∧ 3000 ≤ 2999 + atLow.station.leakAllowance) ∧
    (after (sample 0 3 0xB7 0x0B 0) atLow).queued 3 = true := by decide +kernel

/-- A PULSING session at P0 on B4. -/
def pulsing : State :=
  withHold 31 charged <| withPos 0
    { bus .pulsing 1000 with
      ses := { (bus .pulsing 1000).ses with current := some 4, supply := some 4, control := .opened },
      tmr := { PosTimers.stopped with pulse := some 1000 } } <|
  withBank 4 (claimed .serving (.pos 0) (readyT2 4600)) served

theorem test_premises_IsolateTakesABankOutOfService :
    (num 4).Names (.bank 4) none ∧ windowed.Names (.bank 4) (some (.bank 4)) ∧ (tail []).Whole 0 ∧
    ((pulsing.bank 4).state = .serving ∧ (pulsing.bank 4).claimant = some (.pos 0) ∧
      (pulsing.pos 0).ses.state = .pulsing ∧ (pulsing.pos 0).ses.current = some 4 ∧
      (pulsing.pos 0).ses.hose = some 1000) ∧
    ((atWork.bank 4).claimant = some (.pos 7) ∧ (atWork.pos 7).ses.state = .fuelling ∧
      (atWork.pos 7).ses.names 4) ∧
    ((atWork.bank 5).claimant = some (.comp 1) ∧ (atWork.comp 1).active = true ∧
      (atWork.bank 5).state = .refilling) ∧
    (atWork.bank 0).state = .unused := by
  unfold Addr.Names Tail.Whole Session.names; decide +kernel

/-- B3 isolated, its readings sound at the bounds RESTORE allows: rated pressure, just below 85.0 degrees. -/
def mended : State :=
  withBank 3 { isolated .sensor (readyT2 5000) with temperature := some 849 } served

theorem test_premises_RestoreReturnsASoundBank :
    (num 3).Names (.bank 3) none ∧ (tail []).Whole 0 ∧
    ((mended.bank 3).state = .isolated ∧ (mended.bank 3).pressure = some 5000 ∧ 5000 ≤ (mended.bank 3).rated ∧
      (mended.bank 3).temperature = some 849 ∧ mended.waitList = [] ∧ ¬ Evaluates mended) ∧
    (oneReady.bank 3).state ≠ .isolated ∧
    ((after (.restore (num 3) (tail [])) mended).bank 3).state = .ready := by
  unfold Addr.Names Tail.Whole Evaluates; decide +kernel

/-- A SETUP station with B1 READY, B2 isolated and B3 UNUSED with readings at the bounds of the T1 default. -/
def inSetup : State :=
  withBank 1 (readyT2 2500) <| withBank 2 (isolated .host (readyT2 4000)) <|
  withBank 3 { Bank.reset with pressure := some 2500, temperature := some 849 } <|
  withBank 4 { Bank.reset with pressure := some 2501, temperature := some 850 } State.reset

theorem test_premises_TierWriteConfiguresTheBank :
    (num 3).Names (.bank 3) none ∧ (tail [3]).Whole 1 ∧ (tail [3]).data = [3] ∧ inSetup.station.phase = .setup ∧
    served.station.phase = .service ∧ 3 < (4 : Byte).toNat ∧
    ((inSetup.bank 3).state = .unused ∧ (inSetup.bank 1).state = .ready ∧ (inSetup.bank 2).state = .isolated) ∧
    ((1 : Byte), Tier.t1) ∈ [(1, Tier.t1), (2, Tier.t2), (3, Tier.t3)] ∧
    ((3 : Byte), Tier.t3) ∈ [((1 : Byte), Tier.t1), (2, Tier.t2), (3, Tier.t3)] ∧
    ((inSetup.bank 0).pressure = none ∧ (inSetup.bank 3).pressure = some 2500 ∧
      2500 ≤ defaultRatedOf .t1 ∧ (inSetup.bank 3).temperature = some 849 ∧
      (inSetup.bank 4).pressure = some 2501 ∧ defaultRatedOf .t1 < 2501 ∧ 2501 ≤ defaultRatedOf .t2 ∧
      (inSetup.bank 4).temperature = some 850 ∧ (inSetup.bank 1).pressure = some 2500) := by
  unfold Addr.Names Tail.Whole; decide +kernel

theorem test_tier_writes :
    ((after (.tierWrite (num 3) (tail [1])) inSetup).bank 3).state = .ready ∧
    ((after (.tierWrite (num 4) (tail [1])) inSetup).bank 4).isolation = some .overpressure ∧
    ((after (.tierWrite (num 4) (tail [2])) inSetup).bank 4).isolation = some .overtemp ∧
    ((after (.tierWrite (num 0) (tail [2])) inSetup).bank 0).isolation = some .sensor ∧
    ((after (.tierWrite (num 1) (tail [0])) inSetup).bank 1).state = .unused ∧
    (after (.tierWrite (num 1) (tail [4])) inSetup).port.lastResult = .range := by decide +kernel

theorem test_premises_RatedAndMarkWritesSetTheMarks :
    (num 1).Names (.bank 1) none ∧ (tail [0xE8, 0x03]).Whole 2 ∧ (tail [0xB8, 0x0B, 0x88, 0x13]).Whole 4 ∧
    (leValue [0xE8, 0x03] = 1000 ∧ leValue [0xE7, 0x03] = 999 ∧ leValue [0xF8, 0x2A] = 11000 ∧
      leValue [0xF9, 0x2A] = 11001 ∧ leValue [0xB8, 0x0B] = 3000 ∧ leValue [0x88, 0x13] = 5000 ∧
      leValue [0x89, 0x13] = 5001) ∧
    ((inSetup.bank 1).tier ≠ .unused ∧ (inSetup.bank 1).state = .ready ∧ (inSetup.bank 2).state = .isolated ∧
      (inSetup.bank 3).tier = .unused ∧ (inSetup.bank 1).rated = 5000 ∧ (1000 : Nat) < 2500) ∧
    ((atLow.bank 3).belowLow = false ∧ (3000 : Nat) < 3001 ∧ (3001 : Nat) < 5000) := by
  unfold Addr.Names Tail.Whole; decide +kernel

theorem test_mark_writes :
    (after (.markWrite (num 1) .low (tail [0xB8, 0x0B, 0x88, 0x13])) inSetup).port.lastResult = .ok ∧
    (after (.markWrite (num 1) .low (tail [0xB8, 0x0B, 0x89, 0x13])) inSetup).port.lastResult = .range ∧
    (after (.markWrite (num 1) .low (tail [0x8E, 0x12])) inSetup).port.lastResult = .range ∧
    (after (.markWrite (num 1) .low (tail [0x8D, 0x12])) inSetup).port.lastResult = .ok ∧
    (after (.markWrite (num 3) .high (tail [0x88, 0x13])) inSetup).port.lastResult = .state ∧
    (after (.ratedPressureWrite (num 1) (tail [0xE7, 0x03])) inSetup).port.lastResult = .range ∧
    ((after (.ratedPressureWrite (num 1) (tail [0xE8, 0x03])) inSetup).bank 1).isolation = some .overpressure := by
  decide +kernel

/-- B3 and B5 on the refill queue. -/
def queueing : State :=
  { withBank 3 (readyT2 2000) (withBank 5 (readyT2 2500) served) with
    refillQueue := [{ bank := 5, stamp := 7 }, { bank := 3, stamp := 9 }] }

theorem test_premises_PriorityWriteReplacesTheEntry :
    (num 3).Names (.bank 3) none ∧ (tail [3]).Whole 1 ∧ (3 : Byte).toNat ≤ 3 ∧ 3 < (4 : Byte).toNat ∧
    queueing.QueueLaw ∧ { bank := 3, stamp := 9 } ∈ queueing.refillQueue ∧ queueing.queued 0 = false ∧
    (after (.refillPriorityWrite (num 3) (tail [3])) queueing).refillQueue =
      [{ bank := 3, stamp := 9 }, { bank := 5, stamp := 7 }] := by
  unfold Addr.Names Tail.Whole State.QueueLaw; decide +kernel

theorem test_premises_SelectionTakesTheLowestPressure :
    (withBank 7 (readyT2 4000) oneReady).select 4000 [.t1, .t2] = some 3 ∧
    (withBank 7 (readyT2 4000) oneReady).select 4001 [.t1, .t2] = none ∧
    (withBank 1 (readyT2 4500) oneReady).select 3000 [.t2] = some 3 := by decide +kernel

/-- P0 in PULSING waits for a bank of T1 or T2 at 12.00 MPa; older, P6 waits for T3. -/
def waiting : State :=
  { withPos 6 (car .pulsing 1000) <|
      withPos 0 { bus .pulsing 1000 with tmr := { PosTimers.stopped with bankWait := some 60000 } } oneReady with
    waitList :=
      [{ pos := 6, tiers := [.t3], need := 100, stamp := 1, yieldTimer := none, waited := false },
       { pos := 0, tiers := [.t1, .t2], need := 4000, stamp := 2, yieldTimer := some 10000, waited := false }] }

/-- P0 in HELD for want of a bank, and nothing else. -/
def holding : State :=
  { withPos 0
      { bus .held 1000 with
        ses := { (bus .held 1000).ses with causes := { Causes.empty with noBank := true } },
        tmr := { PosTimers.stopped with held := some 120000 } } oneReady with
    waitList :=
      [{ pos := 0, tiers := [.t1, .t2], need := 1200, stamp := 2, yieldTimer := some 10000, waited := false }] }

theorem test_premises_OfferServesTheOldestEligibleEntry :
    ((waiting.begin.bank 3).state = .ready ∧ (waiting.begin.bank 3).pressure = some 4000 ∧
      waiting.begin.waitList =
        [{ pos := 6, tiers := [.t3], need := 100, stamp := 1, yieldTimer := none, waited := false }] ++
          [{ pos := 0, tiers := [.t1, .t2], need := 4000, stamp := 2, yieldTimer := some 10000, waited := false }] ∧
      ¬((waiting.begin.bank 3).tier ∈ [Tier.t3] ∧ 100 ≤ 4000) ∧
      (waiting.begin.bank 3).tier ∈ [Tier.t1, Tier.t2] ∧ 4000 ≤ 4000 ∧
      (waiting.begin.pos 0).ses.state = .pulsing ∧ (waiting.begin.pos 0).ses.current = none) ∧
    ((holding.begin.pos 0).ses.state = .held ∧ (holding.begin.pos 0).ses.hose = some 1000 ∧
      (holding.begin.pos 0).ses.causes = { noBank := true, precool := false, vehicle := false, host := false }) ∧
    (∀ e ∈ (oneReady.begin).waitList, ¬((oneReady.begin.bank 3).tier ∈ e.tiers ∧ e.need ≤ 4000)) := by
  decide +kernel

theorem test_an_offer_serves_past_an_older_entry :
    ((waiting.begin.offerBank 3).pos 0).ses.current = some 3 ∧
    ((holding.begin.offerBank 3).pos 0).ses.staged = some 3 := by decide +kernel

/-! ### Premises met: the refill queue and the compressors -/

/-- `queueing` with suction SUFFICIENT. -/
def evaluating : State := { queueing with suction := .sufficient }

theorem test_premises_EvaluationWalksTheQueueOnce :
    Evaluates evaluating.begin.toState ∧ ¬ Evaluates queueing.begin.toState ∧
    ((evaluating.begin.bank 0).state ≠ .ready ∧ (evaluating.begin.bank 3).state = .ready ∧
      (evaluating.begin.bank 3).pressure = some 2000 ∧ 2000 < (evaluating.begin.bank 3).high) ∧
    (((withBank 3 (readyT2 4750) evaluating).begin.bank 3).pressure = some 4750 ∧
      ((withBank 3 (readyT2 4750) evaluating).begin.bank 3).high ≤ 4750) ∧
    (CanTake evaluating.begin.toState 0 .t2 ∧ CanTake evaluating.begin.toState 1 .t2 ∧
      ((evaluating.begin.comp 0).reach.rank < (evaluating.begin.comp 1).reach.rank)) ∧
    (∀ k : CompId, ¬ CanTake { evaluating with station.allowance := 159 }.begin.toState k .t2) ∧
    CanTake { evaluating with station.allowance := 160 }.begin.toState 0 .t2 := by
  unfold Evaluates CanTake; decide +kernel

theorem test_an_evaluation_takes_the_lowest_reach :
    ((evaluating.begin.evaluate).comp 0).bank = some 5 ∧ ((evaluating.begin.evaluate).comp 1).bank = some 3 ∧
    (evaluating.begin.evaluate).refillQueue = [] ∧ (evaluating.begin.evaluate).granted = 380 := by decide +kernel

theorem test_premises_RefillAndCancelMoveTheEntry :
    (num 3).Names (.bank 3) none ∧ (tail []).Whole 0 ∧ queueing.QueueLaw ∧
    ((queueing.bank 3).state = .ready ∧ (queueing.bank 3).atHigh = false ∧ queueing.queued 3 = true) ∧
    (oneReady.queued 3 = false ∧ oneReady.QueueLaw ∧ ¬ Evaluates oneReady ∧ (oneReady.bank 3).atHigh = false) ∧
    (Evaluates { oneReady with suction := .sufficient } ∧
      ({ oneReady with suction := .sufficient }.bank 3).pressure = some 4000 ∧ 4000 < (oneReady.bank 3).high) ∧
    (atWork.bank 4).state = .serving ∧ (atWork.bank 0).state = .unused := by
  unfold Addr.Names Tail.Whole State.QueueLaw Evaluates; decide +kernel

/-- K0 withheld, K1 FAULTED with its line released. -/
def idleComps : State :=
  withComp 0 { Compressor.reset .t2 160 with withheld := true } <|
  withComp 1 { Compressor.reset .t3 220 with state := .faulted } queueing

theorem test_premises_CompressorVerbs :
    (num 0).Names (.comp 0) none ∧ (num 1).Names (.comp 1) none ∧ (tail []).Whole 0 ∧
    (idleComps.comp 0).withheld = true ∧ (idleComps.comp 1).withheld = false ∧ (idleComps.comp 1).state = .faulted ∧
    idleComps.station.inputs.fault.get 1 = false ∧ (idleComps.comp 0).state ≠ .faulted ∧ ¬ Evaluates idleComps ∧
    Evaluates { idleComps with suction := .sufficient } ∧
    ((after (.clearFault (num 1) (tail [])) { idleComps with suction := .sufficient }).comp 1).state = .starting := by
  unfold Addr.Names Tail.Whole Evaluates; decide +kernel

theorem test_premises_FaultMakesTheCompressorFaulted :
    ((idleComps.comp 0).active = false ∧ (idleComps.comp 0).bank = none) ∧
    ((atWork.comp 1).active = true ∧ (atWork.comp 1).bank = some 5 ∧
      (atWork.bank 5).claimant = some (.comp 1) ∧ (atWork.bank 5).state = .refilling ∧ atWork.waitList = [] ∧
      ¬ Evaluates atWork ∧ atWork.QueueLaw) ∧
    ((after (.faultActive 1) atWork).bank 5).state = .ready := by
  unfold State.QueueLaw Evaluates; decide +kernel

/-- K0 STARTING on B5 below its high mark, K1 STARTING on B3 at it. -/
def starting : State :=
  withComp 0 (working .starting 5 (some 20000)) <| withComp 1 (working .starting 3 (some 20000)) <|
  withBank 5 (claimed .refilling (.comp 0) (readyT2 4749)) <|
  withBank 3 (claimed .refilling (.comp 1) (readyT2 4750)) served

/-- K0 UNLOADING. -/
def unloading : State :=
  withComp 0 { Compressor.reset .t2 160 with state := .unloading, unloadTimer := some 15000 } served

theorem test_premises_CompressorTimersExpire :
    ((starting.comp 0).startTimer.isSome = true ∧ (starting.comp 0).state = .starting ∧
      (starting.comp 0).bank = some 5 ∧ (starting.bank 5).pressure = some 4749 ∧ 4749 < (starting.bank 5).high) ∧
    ((starting.comp 1).startTimer.isSome = true ∧ (starting.comp 1).bank = some 3 ∧
      (starting.bank 3).pressure = some 4750 ∧ (starting.bank 3).high ≤ 4750 ∧
      (starting.bank 3).claimant = some (.comp 1) ∧ (starting.bank 3).state = .refilling ∧
      starting.waitList = [] ∧ ¬ Evaluates starting) ∧
    ((unloading.comp 0).unloadTimer.isSome = true ∧ (unloading.comp 0).state = .unloading ∧
      ¬ Evaluates unloading ∧ (unloading.comp 0).startTimer = none ∧ (unloading.comp 1).unloadTimer = none) := by
  unfold Evaluates; decide +kernel

theorem test_a_start_completes_at_the_high_mark :
    ((after (.startTimerExpiry 0) starting).comp 0).state = .running ∧
    ((after (.startTimerExpiry 1) starting).comp 1).state = .unloading ∧
    ((after (.startTimerExpiry 1) starting).bank 3).state = .ready := by decide +kernel

/-- The head of the list waits in PULSING (or in HELD), K1 refills B5 at just what it needs. -/
def yielding (x : Position) : State :=
  { withPos 0 x <| withComp 1 (working .running 5 none) <|
      withBank 5 { claimed .refilling (.comp 1) (readyT2 1200) with yields := 1 } served with
    waitList :=
      [{ pos := 0, tiers := [.t1, .t2], need := 1200, stamp := 2, yieldTimer := some 10000, waited := false },
       { pos := 6, tiers := [.t3], need := 100, stamp := 1, yieldTimer := some 10000, waited := false }] }

theorem test_B5_is_the_only_bank_to_yield :
    CanYield (yielding (waiting.pos 0))
      { pos := 0, tiers := [.t1, .t2], need := 1200, stamp := 2, yieldTimer := some 10000, waited := false } 5 1200 ∧
    ∀ (c : BankId) (u : Nat), CanYield (yielding (waiting.pos 0))
      { pos := 0, tiers := [.t1, .t2], need := 1200, stamp := 2, yieldTimer := some 10000, waited := false } c u →
      (1200 : Nat) < u ∨ ((1200 : Nat) = u ∧ (5 : BankId) ≤ c) := by
  unfold CanYield
  refine ⟨by decide +kernel, ?_⟩
  intro c u h
  have only : ∀ d : BankId, ((yielding (waiting.pos 0)).bank d).state = .refilling → d = 5 := by decide +kernel
  have here := only c h.1
  subst here
  have level : ((yielding (waiting.pos 0)).bank 5).pressure = some 1200 := by decide +kernel
  have same : some u = some 1200 := by rw [← h.2.2.1, level]
  cases same
  exact Or.inr ⟨rfl, Nat.le_refl _⟩

theorem test_premises_YieldWaitExpiryYieldsABank :
    (((yielding (waiting.pos 0)).bank 5).claimant = some (.comp 1) ∧
      ((yielding (waiting.pos 0)).comp 1).bank = some 5 ∧
      ((yielding (waiting.pos 0)).pos 0).ses.state = .pulsing ∧
      ((yielding (waiting.pos 0)).pos 0).ses.current = none) ∧
    (((yielding (holding.pos 0)).pos 0).ses.state = .held ∧
      ((yielding (holding.pos 0)).pos 0).ses.causes =
        { noBank := true, precool := false, vehicle := false, host := false }) ∧
    (∃ e ∈ (yielding (waiting.pos 0)).waitList, e.pos = 6 ∧ e.yieldTimer.isSome = true) ∧
    (∀ e ∈ waiting.waitList, e.pos = 6 → e.yieldTimer = none) ∧
    ((after (.yieldWaitExpiry 0) (yielding (waiting.pos 0))).pos 0).ses.current = some 5 ∧
    ((after (.yieldWaitExpiry 0) (yielding (holding.pos 0))).pos 0).ses.staged = some 5 := by decide +kernel

/-- K0 STARTING, K1 RUNNING, both chillers RUNNING: 560 kW granted of 560. -/
def loaded : State :=
  { withComp 0 (working .starting 4 (some 20000)) <|
      withComp 1 { working .running 5 none with draw := 220 } <|
      withBank 4 (claimed .refilling (.comp 0) (readyT2 2000)) <|
      withBank 5 (claimed .refilling (.comp 1) (readyT2 2000)) <|
      withLoop 0 { cold with chiller := .running } <| withLoop 1 { cold with chiller := .running } served with
    station := { served.station with allowance := 560 } }

theorem test_premises_AllowanceWriteSheds :
    (num 0).Names .station none ∧ windowed.Names .station (some .station) ∧ (tail [0xD0, 0x07]).Whole 2 ∧
    ((0xD0 : Byte).toNat + 256 * (0x07 : Byte).toNat = 2000 ∧ 2000 < (0xD1 : Byte).toNat + 256 * (0x07 : Byte).toNat) ∧
    (loaded.granted = 560 ∧ loaded.station.allowance = 560) ∧
    ((0x2F : Byte).toNat + 256 * (0x02 : Byte).toNat = 559) ∧
    ((0 : Nat) ≤ loaded.station.allowance ∧ 0 < loaded.granted) ∧
    ((loaded.comp 0).state = .starting ∧ (loaded.comp 1).state = .running ∧ (loaded.loop 1).chiller = .running ∧
      loaded.powerQueue = [] ∧ ¬ Evaluates loaded) := by
  unfold Addr.Names Tail.Whole Evaluates; decide +kernel

theorem test_the_order_of_shedding :
    ((after (.powerAllowanceWrite (num 0) (tail [0x2F, 0x02])) loaded).comp 0).state = .unloading ∧
    ((after (.powerAllowanceWrite (num 0) (tail [0x2F, 0x02])) loaded).comp 1).state = .running ∧
    ((after (.powerAllowanceWrite (num 0) (tail [0x5A, 0])) loaded).loop 1).chiller = .waitingPower ∧
    ((after (.powerAllowanceWrite (num 0) (tail [0x5A, 0])) loaded).loop 0).chiller = .running ∧
    (after (.powerAllowanceWrite (num 0) (tail [0xD1, 0x07])) loaded).port.lastResult = .range := by decide +kernel

/-- L0 waits for power. -/
def poor : State :=
  { withLoop 0 { cold with chiller := .waitingPower } served with
    station := { served.station with allowance := 89 }, powerQueue := [0] }

theorem test_a_raised_allowance_serves_the_chiller :
    poor.powerQueue = [0] ∧ poor.granted + (poor.loop 0).draw ≤ 90 ∧ poor.station.allowance < 90 ∧
    ((after (.powerAllowanceWrite (num 0) (tail [90, 0])) poor).loop 0).chiller = .running := by decide +kernel

/-! ### Premises met: precooling -/

/-- L1 loses its band at the tenth tick while P7 fuels; L0 grants its queue. -/
def ticking : State :=
  withLoop 1
    { Loop.reset with
      reserve := 30, outlet := some (-330), band := .cold, loss := 9, grants := [7], chiller := .running,
      recharge := 10, tick := some 1000 } <|
  withLoop 0 { cold with queue := [1, 2, 3], chiller := .off } <|
  withPos 7 (atWork.pos 7) <|
  withPos 1 { car .cooling 1000 with cfg := { (car .cooling 1000).cfg with loop := some 0 } } <|
  withBank 4 (atWork.bank 4) { served with station := { served.station with allowance := 179 } }

theorem test_premises_PrecoolTickRunsTheLoop :
    ((ticking.loop 1).tick.isSome = true ∧ (State.reset.loop 0).tick = none ∧ ticking.WaitingOrder ∧
      ticking.LoopsInRange) ∧
    (0 = min ((ticking.loop 1).reserve + 10 - (ticking.loop 1).consumption * 1) (ticking.loop 1).capacity ∧
      Band.lost = BandOf (ticking.loop 1).outlet 0 ∧ 9 ≤ (ticking.loop 1).loss ∧
      (ticking.pos 7).ses.state = .fuelling ∧ FuellingHolders ticking 1 = 1) ∧
    ((ticking.loop 0).chiller = .off ∧ (ticking.loop 0).queue ≠ [] ∧
      ticking.station.allowance < ticking.granted + (ticking.loop 0).draw ∧
      Band.cold = BandOf (ticking.loop 0).outlet 6000 ∧ GrantsAt ticking 0 .cold 6000 = 2 ∧
      GrantsAt ticking 0 .cold 5999 = 0) ∧
    ({ ticking with station.allowance := 180 }.granted + (ticking.loop 0).draw ≤ 180 ∧
      BandOf (some (-330)) 1 = .cold ∧ BandOf (some (-329)) 1 = .cool ∧ BandOf (some (-175)) 1 = .cool ∧
      BandOf (some (-174)) 1 = .lost ∧ BandOf none 1 = .lost) := by
  unfold State.WaitingOrder State.LoopsInRange; decide +kernel

theorem test_a_precool_tick :
    ((after (.precoolTick 1) ticking).pos 7).ses.causes.precool = true ∧
    (after (.precoolTick 1) ticking).notices.requests = 8192 ∧
    ((after (.precoolTick 0) ticking).loop 0).grants = [1, 2] ∧
    ((after (.precoolTick 0) ticking).pos 1).ses.state = .pulsing ∧
    (after (.precoolTick 0) ticking).powerQueue = [0] := by decide +kernel

/-- L1 at its capacity, with nothing asked of it: a RUNNING chiller goes OFF. -/
def full (c : ChillerState) : State :=
  withLoop 1 { cold with reserve := 36000, chiller := c } served

theorem test_a_full_loop_needs_no_chiller :
    ((full .running).loop 1).chiller ≠ .off ∧ ((full .running).loop 1).grants = [] ∧
    ((full .off).loop 1).capacity * 9 / 10 < 36000 ∧
    ((after (.precoolTick 1) (full .running)).loop 1).chiller = .off ∧
    ((after (.precoolTick 1) (full .off)).loop 1).chiller = .off := by decide +kernel

/-! ### Premises met: sessions -/

/-- P0 AUTHORISED on H31 without precooling, P7 with it; B3 meets the need of 12.00 MPa exactly or not. -/
def arriving (v : Nat) (loop : Loop) : State :=
  withHold 31 charged <| withHold 30 { charged with position := some 7 } <|
  withPos 0 (bus .authorised 1000) <|
  withPos 7 { car .authorised 1000 with ses := { (car .authorised 1000).ses with boundHold := some 30 } } <|
  withPos 5 { bus .authorised 1000 with ses := { (bus .authorised 1000).ses with hose := none } } <|
  withBank 3 (readyT2 v) <| withLoop 1 loop served

theorem test_premises_CoupledArrivalIsTheCoupling :
    (((arriving 1200 cold).pos 0).ses.state = .authorised ∧ ((arriving 1200 cold).pos 0).ses.current = none ∧
      ((arriving 1200 cold).pos 0).ses.staged = none ∧ (arriving 1200 cold).waits 0 = false ∧
      (arriving 1200 cold).select (1000 + 200) [.t1, .t2] = some 3 ∧
      (arriving 1199 cold).select (1000 + 200) [.t1, .t2] = none) ∧
    (((arriving 1200 cold).pos 7).cfg.precool = true ∧ ((arriving 1200 cold).pos 7).cfg.loop = some 1 ∧
      (7 : PosId) ∉ cold.grants ∧ (7 : PosId) ∉ cold.queue ∧ cold.band = .cold ∧ cold.floor ≤ cold.reserve ∧
      cold.grants.length < 2 ∧ cold.queue = []) ∧
    (({ cold with reserve := 5999 } : Loop).reserve < cold.floor ∧ ((arriving 1200 cold).pos 5).ses.hose = none ∧
      ((arriving 1200 cold).pos 1).ses.state ≠ .authorised) := by decide +kernel

theorem test_a_coupling :
    ((after (.coupledArrival 0) (arriving 1200 cold)).pos 0).ses.current = some 3 ∧
    (after (.coupledArrival 0) (arriving 1199 cold)).waits 0 = true ∧
    (after (.coupledArrival 0) (arriving 1199 cold)).notices.requests = 4 ∧
    ((after (.coupledArrival 7) (arriving 1200 cold)).pos 7).ses.state = .pulsing ∧
    ((after (.coupledArrival 7) (arriving 1200 { cold with reserve := 5999 })).pos 7).ses.state = .cooling ∧
    ((after (.coupledArrival 5) (arriving 1200 cold)).pos 5).ses.endReason = some .sensor := by decide +kernel

/-- H0 OPEN for BUS35 and H31 BOUND; P0 of BUS35 and P7 of CAR70 IDLE, P0 perhaps coupled. -/
def opened (coupled : Bool) : State :=
  withHold 0 { Hold.free with state := .opened, permit := .bus35, limit := 1000 } <| withHold 31 charged <|
  withPos 0 { Position.reset with cfg := (bus .idle 0).cfg } <|
  withPos 7 { Position.reset with cfg := (car .idle 0).cfg }
    { served with
      station := { served.station with
        inputs := { served.station.inputs with coupled := served.station.inputs.coupled.set 0 coupled } } }

theorem test_premises_AuthoriseBindsOrIsRefused :
    (num 0).Names (.position 0) none ∧ (tail [0]).Whole 1 ∧
    ((opened false).station.phase = .service ∧ (opened false).station.halt = .running ∧
      Startable (opened false) 0 ∧ Startable (opened false) 7 ∧ ¬ Startable (opened false) 1 ∧
      ((opened false).hold 0).state = .opened ∧ ((opened false).hold 0).permit = .bus35 ∧
      ((opened false).pos 0).cfg.cls = .bus35 ∧ ((opened false).pos 7).cfg.cls = .car70 ∧
      (opened false).station.inputs.coupled.get 0 = false ∧ (opened true).station.inputs.coupled.get 0 = true ∧
      (opened true).waits 0 = false) ∧
    (State.reset.station.phase = .setup ∧ ((opened false).hold 1).state = .free ∧
      ((opened false).hold 31).state = .bound ∧ 31 < (32 : Byte).toNat ∧ (31 : Byte).toNat = (31 : HoldId).val) := by
  unfold Addr.Names Tail.Whole Startable; decide +kernel

theorem test_authorise :
    ((after (.authorise (num 0) (tail [0])) (opened false)).pos 0).ses.state = .authorised ∧
    ((after (.authorise (num 0) (tail [0])) (opened true)).pos 0).ses.endReason = some .sensor ∧
    (after (.authorise (num 7) (tail [0])) (opened false)).port.lastResult = .range ∧
    (after (.authorise (num 0) (tail [32])) (opened false)).port.lastResult = .range ∧
    (after (.authorise (num 0) (tail [31])) (opened false)).port.lastResult = .busy ∧
    (after (.authorise (num 0) (tail [1])) (opened false)).port.lastResult = .state ∧
    (after (.authorise (num 0) (tail [0])) { opened false with station.halt := .halted }).port.lastResult = .halted ∧
    (after (.authorise (num 0) (tail [0])) { opened false with station.phase := .setup }).port.lastResult = .phase := by
  decide +kernel

/-- A session of P0 with one timer running. -/
def running (st : SessionState) (t : PosTimers) : State :=
  withHold 31 charged (withPos 0 { bus st 1000 with tmr := t } served)

/-- P0 COOLING, its cooling timer running. -/
def cooling : State := running .cooling { PosTimers.stopped with cooling := some 300000 }

/-- P0 AUTHORISED, its connect timer running. -/
def connecting : State := running .authorised { PosTimers.stopped with connect := some 180000 }

theorem test_the_laws_hold_where_a_fill_ends :
    (atWork.BankNaming ∧ cooling.BankNaming ∧ waiting.BankNaming ∧ holding.BankNaming) ∧
    (atWork.LoopsInRange ∧ cooling.LoopsInRange ∧ waiting.LoopsInRange ∧ holding.LoopsInRange) := by
  refine ⟨⟨?_, ?_, ?_, ?_⟩, ?_, ?_, ?_, ?_⟩ <;>
    first
    | (unfold State.BankNaming Position.NamesOne; decide +kernel)
    | (unfold State.LoopsInRange; decide +kernel)

theorem test_premises_EventsEndTheFill :
    ((atWork.pos 7).ses.state.live = true ∧ (atWork.pos 7).ses.state = .fuelling ∧
      (atWork.pos 7).tmr.stall.isSome = true) ∧
    ((cooling.pos 0).ses.state = .cooling ∧ (cooling.pos 0).tmr.cooling.isSome = true) ∧
    ((waiting.pos 0).ses.state = .pulsing ∧ (waiting.pos 0).tmr.bankWait.isSome = true) ∧
    ((holding.pos 0).ses.state = .held ∧ (holding.pos 0).tmr.held.isSome = true) ∧
    (num 7).Names (.position 7) none ∧ (tail []).Whole 0 := by
  unfold Addr.Names Tail.Whole; decide +kernel

theorem test_ends_of_a_fill :
    ((after (.uncoupledArrival 7) atWork).pos 7).ses.endReason = some .uncoupled ∧
    ((after (.stallTimerExpiry 7) atWork).pos 7).ses.endReason = some .stall ∧
    ((after (.heldTimerExpiry 0) holding).pos 0).ses.endReason = some .noSupply ∧
    ((after (.bankWaitTimeout 0) waiting).pos 0).ses.endReason = some .noSupply ∧
    ((after (.coolingTimeout 0) cooling).pos 0).ses.endReason =
      some .precoolTimeout ∧
    ((after (.stop (num 7) (tail [])) atWork).pos 7).ses.endReason = some .hostStop ∧
    (after (.stop (num 3) (tail [])) atWork).port.lastResult = .state := by decide +kernel

theorem test_premises_WhereNoFillEnds :
    ((connecting.pos 0).ses.state = .authorised ∧
      (connecting.pos 0).ses.boundHold = some 31 ∧
      RouteClosed (connecting.pos 0).ses ∧
      (connecting.pos 0).tmr.connect.isSome = true) ∧
    (State.reset.pos 0).ses.state.live = false ∧ (State.reset.pos 0).ses.state = .idle ∧
    (State.reset.pos 0).tmr = PosTimers.stopped ∧
    ((after (.connectTimeout 0) connecting).hold 31).state = .opened := by
  unfold RouteClosed; decide +kernel

theorem test_premises_PulseEndsInTheCheck :
    pulsing.BankNaming ∧ (pulsing.pos 0).ses.state = .pulsing ∧ (pulsing.pos 0).tmr.pulse.isSome = true ∧
    (pulsing.pos 0).ses.current = some 4 ∧ (pulsing.pos 0).ses.hose = some 1000 ∧
    (pulsing.bank 4).claimant = some (.pos 0) ∧ (pulsing.bank 4).state = .serving ∧ pulsing.waitList = [] ∧
    ¬ Evaluates pulsing ∧ ((after (.pulseTimerExpiry 0) pulsing).pos 0).tmr.check = some 5000 := by
  unfold State.BankNaming Position.NamesOne Evaluates; decide +kernel

/-- P0 CHECKING at a hose pressure after one of 10.00 MPa, B3 READY; P7 the same with vehicle data of a command. -/
def checking (hose : Nat) (cmd : VehCommand) : State :=
  withHold 31 charged <| withHold 30 charged <| withBank 3 (readyT2 4000) <|
  withPos 0
    { bus .checking hose with
      ses := { (bus .checking hose).ses with initial := 1000 },
      tmr := { PosTimers.stopped with check := some 5000 } } <|
  withPos 7
    { car .checking hose with
      ses := { (car .checking hose).ses with
        initial := 1000, boundHold := some 30,
        vehicle := some
          { volume := 120, pressure := 1000, temperature := 200, command := cmd, sequence := 1, frames := 1,
            invalids := 0, stamp := 0, fallback := .none } },
      tmr := { PosTimers.stopped with check := some 5000, freshness := some 1500 } } served

theorem test_premises_CheckWindowDecidesTheFill :
    ((checking 1000 .run).BankNaming ∧ (checking 1000 .run).LoopsInRange ∧
      ((checking 1000 .run).pos 0).ses.state = .checking ∧ ((checking 1000 .run).pos 0).tmr.check.isSome = true ∧
      ((checking 1000 .run).pos 0).ses.hose = some 1000 ∧ ((checking 1000 .run).pos 0).ses.boundHold = some 31 ∧
      (949 : Nat) + 50 < 1000 ∧ (1000 : Nat) ≤ 950 + 50 ∧ (1000 : Nat) < 3650) ∧
    ((0 : Nat) ≤ 49 + 50 ∧ (49 : Nat) < 50) ∧
    ((checking 1000 .run).select (1000 + 200) (PosClass.bus35.tiersFrom .t1) = some 3 ∧
      (checking 3801 .run).select (3801 + 200) (PosClass.bus35.tiersFrom .t1) = none ∧
      (checking 1000 .halt).select (1000 + 200) (PosClass.car70.tiersFrom .t2) = some 3) := by
  unfold State.BankNaming State.LoopsInRange Position.NamesOne; decide +kernel

theorem test_premises_CheckWindow_modes :
    (DecidesComm (checking 1000 .halt) 7 ∧ ¬ DecidesComm (checking 1000 .run) 0) ∧
    NoncommTarget (checking 1000 .run) .bus35 3650 ∧
    NoncommTarget { served with station.ambient := some 0 } .car70 8400 ∧
    NoncommTarget { served with station.ambient := some 1 } .car70 8200 ∧
    NoncommTarget { served with station.ambient := some 401 } .car70 7300 := by
  refine ⟨⟨⟨by decide +kernel, by decide +kernel,
      { volume := 120, pressure := 1000, temperature := 200, command := .halt, sequence := 1, frames := 1,
        invalids := 0, stamp := 0, fallback := .none }, by decide +kernel, by decide⟩, fun h => ?_⟩, ?_, ?_, ?_, ?_⟩
  · exact absurd h.1 (by decide +kernel)
  · exact ⟨4, fun _ => rfl, fun x h => absurd h (by simp [checking, withHold, withBank, withPos, served, State.reset,
      Station.reset]), (fun h => nomatch h), fun _ => by decide +kernel⟩
  · refine ⟨0, (fun h => nomatch h), fun x h => ?_, fun _ => by decide +kernel, (fun h => nomatch h)⟩
    cases h; decide
  · refine ⟨1, (fun h => nomatch h), fun x h => ?_, fun _ => by decide +kernel, (fun h => nomatch h)⟩
    cases h; decide
  · refine ⟨4, (fun h => nomatch h), fun x h => ?_, fun _ => by decide +kernel, (fun h => nomatch h)⟩
    cases h; decide

theorem test_the_check_window :
    ((after (.checkWindowExpiry 0) (checking 949 .run)).pos 0).ses.endReason = some .leak ∧
    ((after (.checkWindowExpiry 0) (checking 950 .run)).pos 0).ses.staged = some 3 ∧
    ((after (.checkWindowExpiry 0) (checking 3650 .run)).pos 0).ses.endReason = some .fullPressure ∧
    ((after (.checkWindowExpiry 0) (checking 3649 .run)).pos 0).ses.state = .fuelling ∧
    ((after (.checkWindowExpiry 7) (checking 1000 .halt)).pos 7).ses.causes.vehicle = true ∧
    ((after (.checkWindowExpiry 7) (checking 1000 .run)).pos 7).ses.mode = some .comm := by decide +kernel

/-! ### Premises met: ramp, pause, vent -/

/-- P7 FUELLING with a staged bank, in the taper, a rate limit pending. -/
def ramping : State :=
  withPos 7
    { (atWork.pos 7) with
      ses := { (atWork.pos 7).ses with
        current := none, supply := none, control := .closed, staged := some 4, pendingRate := some 30,
        taper := true, mode := some .noncomm, band := .cold } } atWork

theorem test_premises_RampTickRaisesTheCeiling :
    ((ramping.pos 7).ses.state = .fuelling ∧ (ramping.pos 7).tmr.ramp.isSome = true ∧
      (ramping.pos 7).ses.hose = some 3000 ∧ BandRate ramping 7 47 ∧
      (11 : Nat) = EffectiveRate 47 ((ramping.pos 7).ses.pendingRate.getD 500) true true) ∧
    (EffectiveRate 0 500 true true = 0 ∧ EffectiveRate 47 1 true true = 1 ∧ EffectiveRate 47 500 false false = 47) ∧
    BandRate (withPos 0 (bus .fuelling 1000) served) 0 40 ∧
    ((after (.rampTick 7) ramping).pos 7).ses.effRate = 11 ∧
    ((after (.rampTick 7) ramping).pos 7).ses.ceiling = 3111 ∧
    ((after (.rampTick 7) ramping).pos 7).ses.control = .opened := by
  unfold BandRate; decide +kernel

/-- P0 HELD by the host, and perhaps for its vehicle too; B3 READY at the need level. -/
def paused (vehicle : Bool) (hose : Nat) : State :=
  withHold 31 charged <| withPos 0
    { bus .held hose with
      ses := { (bus .held hose).ses with causes := { Causes.empty with host := true, vehicle := vehicle } },
      tmr := { PosTimers.stopped with held := some 120000 } } oneReady

theorem test_premises_PauseAndContinue :
    (num 7).Names (.position 7) none ∧ (tail []).Whole 0 ∧ (atWork.pos 7).ses.state = .fuelling ∧ atWork.BankNaming ∧
    (atWork.pos 0).ses.state ≠ .fuelling ∧
    (((paused true 1000).pos 0).ses.state = .held ∧ ((paused true 1000).pos 0).ses.causes.host = true ∧
      ((paused true 1000).pos 0).ses.causes.vehicle = true) ∧
    (((paused false 3800).pos 0).ses.causes = { noBank := false, precool := false, vehicle := false, host := true } ∧
      ((paused false 3800).pos 0).ses.hose = some 3800 ∧
      (paused false 3800).select (3800 + 200) (PosClass.bus35.tiersFrom .t1) = some 3 ∧
      (paused false 3801).select (3801 + 200) (PosClass.bus35.tiersFrom .t1) = none) := by
  unfold Addr.Names Tail.Whole State.BankNaming Position.NamesOne; decide +kernel

theorem test_pause_and_continue :
    ((after (.pause (num 7) (tail [])) atWork).pos 7).ses.state = .held ∧
    ((after (.continue_ (num 0) (tail [])) (paused false 3800)).pos 0).ses.state = .fuelling ∧
    (after (.continue_ (num 0) (tail [])) (paused false 3801)).waits 0 = true ∧
    ((after (.continue_ (num 0) (tail [])) (paused true 1000)).pos 0).ses.state = .held ∧
    (after (.continue_ (num 7) (tail [])) atWork).port.lastResult = .state := by decide +kernel

theorem test_premises_VentExpirySettlesTheHold :
    ((venting.pos 0).ses.state = .venting ∧ (venting.pos 0).tmr.vent.isSome = true ∧
      (venting.pos 0).ses.boundHold = some 31 ∧ (venting.pos 0).ses.endReason = some .hostStop ∧
      (venting.hold 31).conditioning + (venting.hold 31).sold ≤ 4294967295 ∧
      venting.station.inputs.seated.get 0 = false) ∧
    ((withPos 0 (bus .done 1000) served).pos 0).ses.state = .done ∧ RouteClosed (bus .done 1000).ses ∧
    (venting.pos 0).ses.state ≠ .done ∧
    (StationFault .stall = true ∧ StationFault .hostStop = false ∧
      (SettledWith { charged with sold := 100 } .stall 100 0).sold = 0 ∧
      (SettledWith { charged with sold := 101 } .stall 100 0).sold = 101) ∧
    ((after (.ventTimerExpiry 0) venting).pos 0).ses.state = .done ∧
    ((after (.ventTimerExpiry 0) venting).hold 31).state = .settled ∧
    ((after (.seatedArrival 0) (withPos 0 (bus .done 1000) served)).pos 0).ses.state = .idle := by
  unfold RouteClosed; decide +kernel

theorem test_premises_PositionAndLoopWrites :
    (num 0).Names (.position 0) none ∧ (tail [2]).Whole 1 ∧ (tail [0xE8, 3]).Whole 2 ∧
    ((2 : Byte), PosClass.car70) ∈ [((0 : Byte), PosClass.unused), (1, PosClass.bus35), (2, PosClass.car70)] ∧
    2 < (3 : Byte).toNat ∧ (num 1).Names (.loop 1) none ∧ (tail [0, 0, 0, 0]).Whole 4 ∧
    (leValue [0x60, 0xEA] = 60000 ∧ leValue [0x61, 0xEA] = 60001 ∧ leValue [0x70, 0x17] = 6000 ∧
      leValue [0x6F, 0x17] = 5999) ∧
    ((atWork.pos 0).ses.state = .authorised ∧ (atWork.pos 3).ses.state = .idle ∧ State.reset.station.phase = .setup) := by
  unfold Addr.Names Tail.Whole; decide +kernel

theorem test_position_and_loop_writes :
    ((after (.classWrite (num 0) (tail [2])) State.reset).pos 0).cfg.precool = true ∧
    (after (.classWrite (num 0) (tail [3])) State.reset).port.lastResult = .range ∧
    ((after (.rateLimitWrite (num 0) (tail [0xE8, 3])) atWork).pos 0).ses.pendingRate = some 1000 ∧
    (after (.rateLimitWrite (num 0) (tail [0xE9, 3])) atWork).port.lastResult = .range ∧
    (after (.rateLimitWrite (num 0) (tail [0, 0])) atWork).port.lastResult = .range ∧
    (after (.rateLimitWrite (num 3) (tail [0xE8, 3])) atWork).port.lastResult = .state ∧
    (after (.capacityWrite (num 1) (tail [0x70, 0x17])) State.reset).port.lastResult = .ok ∧
    (after (.capacityWrite (num 1) (tail [0x6F, 0x17])) State.reset).port.lastResult = .range ∧
    (after (.capacityWrite (num 1) (tail [0x60, 0xEA, 0, 0])) State.reset).port.lastResult = .ok ∧
    (after (.capacityWrite (num 1) (tail [0x61, 0xEA, 0, 0])) State.reset).port.lastResult = .range ∧
    (after (.strayMassClear (num 0) (tail [1, 0, 0, 0])) State.reset).port.lastResult = .range := by decide +kernel

/-! ### Premises met: vehicle data -/

/-- The bytes of a valid vehicle frame: 120.0 l, a pressure, a temperature as raw value, a command. -/
def vehBody (seq p0 p1 t0 t1 cmd : Byte) : List Byte :=
  [seq, 0xB0, 0x04, p0, p1, t0, t1, cmd, ck [seq, 0xB0, 0x04, p0, p1, t0, t1, cmd]]

/-- P7 in a session state on data of sequence 1, freshness timer running; B3 READY. -/
def talking (st : SessionState) (fb : Fallback) : State :=
  withHold 31 charged <| withBank 3 (ready .t3 9500 5700 9025 9000) <|
  withPos 7
    { car st 3000 with
      cfg := { (car st 3000).cfg with reaction := .atStep }
      ses := { (car st 3000).ses with
        vehicle := some
          { volume := 1200, pressure := 3000, temperature := 200, command := .run, sequence := 1, frames := 1,
            invalids := 255, stamp := 0, fallback := fb },
        causes := { Causes.empty with vehicle := decide (st = .held) } },
      tmr := { PosTimers.stopped with
        freshness := some 1500,
        deferral := if fb = .deferred then some 5000 else none,
        held := if st = .held then some 120000 else none } } served

/-- The tank volume must be 1 to 1,000, so this frame is invalid. -/
def badBody : List Byte := [2, 0xE9, 0x03, 0, 0, 0, 0x80, 0, ck [2, 0xE9, 0x03, 0x80]]

theorem test_badBody_is_no_frame : badBody.length = 9 ∧ ∀ d : VehicleData, ¬ ValidFrame badBody d := by
  refine ⟨rfl, ?_⟩
  rintro d ⟨v0, v1, p0, p1, t0, t1, cmd, check, h, _, hv, _, hle, _⟩
  simp only [badBody, List.cons.injEq] at h
  obtain ⟨_, rfl, rfl, _⟩ := h
  have value : d.volume = 1001 := hv
  omega

/-- A valid frame as the receiver reads it. -/
def data (volume pressure : Nat) (temperature : Int) (cmd : VehCommand) (seq : Byte) : VehicleData :=
  { sequence := seq, volume := volume, pressure := pressure, temperature := temperature, command := cmd }

/-- The frame of the tests of what a frame does: 80.0 l, sequence 2. -/
def body (p0 p1 t0 t1 cmd : Byte) : List Byte :=
  [2, 0x20, 0x03, p0, p1, t0, t1, cmd, ck [2, 0x20, 0x03, p0, p1, t0, t1, cmd]]

theorem test_valid_frames :
    ValidFrame (body 0 0 0xA8 0x7D 0) (data 800 0 (-600) .run 2) ∧
    ValidFrame (body 0x10 0x27 0xB0 0x84 2) (data 800 10000 1200 .abort 2) ∧
    ValidFrame (body 0xB8 0x0B 0x51 0x83 1) (data 800 3000 849 .halt 2) ∧
    ValidFrame (body 0xB8 0x0B 0x52 0x83 0) (data 800 3000 850 .run 2) := by
  refine ⟨⟨0x20, 0x03, 0, 0, 0xA8, 0x7D, 0, _, rfl, ?_⟩, ⟨0x20, 0x03, 0x10, 0x27, 0xB0, 0x84, 2, _, rfl, ?_⟩,
    ⟨0x20, 0x03, 0xB8, 0x0B, 0x51, 0x83, 1, _, rfl, ?_⟩, ⟨0x20, 0x03, 0xB8, 0x0B, 0x52, 0x83, 0, _, rfl, ?_⟩⟩ <;>
    decide +kernel

theorem test_premises_VehicleFrameReadouts :
    (((talking .fuelling .none).pos 7).rx = none ∧ TakesFrames ((talking .fuelling .none).pos 7) ∧
      TakesFrames ((talking .authorised .none).pos 7) ∧ TakesFrames ((talking .venting .none).pos 7)) ∧
    ((served.pos 0).rx = none ∧ ¬ TakesFrames (served.pos 0) ∧ ¬ TakesFrames ((talking .done .none).pos 7)) ∧
    after (.vehicleFrame 7 (0x7E :: badBody)) (talking .fuelling .none) = talking .fuelling .none := by
  unfold TakesFrames; decide +kernel

theorem test_premises_VehicleFrameActs :
    ((talking .fuelling .none).BankNaming ∧ (talking .held .none).BankNaming ∧
      (talking .fuelling .none).LoopsInRange) ∧
    (¬ Duplicate ((talking .fuelling .none).pos 7).ses (data 800 0 0 .run 2) ∧
      Duplicate ((talking .fuelling .none).pos 7).ses (data 800 0 0 .run 1)) ∧
    (exec (.vehicleFrame 7 (0x7E :: body 0 0 0xA8 0x7D 0)) (talking .held .none) =
      .next (after (.vehicleFrame 7 (0x7E :: body 0 0 0xA8 0x7D 0)) (talking .held .none))) := by
  refine ⟨⟨?_, ?_, ?_⟩, ⟨?_, _, rfl, rfl⟩, rfl⟩
  · unfold State.BankNaming Position.NamesOne; decide +kernel
  · unfold State.BankNaming Position.NamesOne; decide +kernel
  · unfold State.LoopsInRange; decide +kernel
  · rintro ⟨g, h, hs⟩
    have : g.sequence = 1 := by cases h; rfl
    rw [this] at hs
    exact absurd hs (by decide)

theorem test_premises_VehicleFrameActs_by_state :
    (((talking .venting .none).pos 7).ses.state = .venting ∧ ((talking .authorised .none).pos 7).ses.state = .authorised ∧
      ((talking .checking .none).pos 7).ses.state.live = true ∧
      ((talking .held .none).pos 7).ses.state = .held ∧ ((talking .held .none).pos 7).ses.mode = some .comm ∧
      ((talking .held .none).pos 7).ses.hose = some 3000 ∧
      ((talking .held .none).pos 7).ses.causes =
        { noBank := false, precool := false, vehicle := true, host := false }) ∧
    ((talking .held .none).fullTable.toList[(tankBand (-600)).val]? = some 6660 ∧
      (talking .held .none).fullTable.toList[(tankBand 849).val]? = some 8750) ∧
    (((after (.vehicleFrame 7 (0x7E :: body 0 0 0xA8 0x7D 0)) (talking .held .none)).pos 7).ses.state = .fuelling ∧
      ((after (.vehicleFrame 7 (0x7E :: body 0x10 0x27 0xB0 0x84 2)) (talking .held .none)).pos 7).ses.endReason =
        some .vehicleAbort ∧
      ((after (.vehicleFrame 7 (0x7E :: body 0xB8 0x0B 0x52 0x83 0)) (talking .checking .none)).pos 7).ses.endReason =
        some .tankHot ∧
      ((after (.vehicleFrame 7 (0x7E :: body 0xB8 0x0B 0x51 0x83 1)) (talking .fuelling .none)).pos 7).ses.state =
        .held ∧
      ((after (.vehicleFrame 7 (0x7E :: body 0x04 0x1A 0xA8 0x7D 0)) (talking .fuelling .none)).pos 7).ses.endReason =
        some .fullSoc ∧
      ((after (.vehicleFrame 7 (0x7E :: body 0x03 0x1A 0xA8 0x7D 0)) (talking .fuelling .none)).pos 7).ses.state =
        .fuelling) := by decide +kernel

/-- The same session with the IMMEDIATE reaction. -/
def immediate : State :=
  withPos 7
    { (talking .fuelling .none).pos 7 with
      cfg := { ((talking .fuelling .none).pos 7).cfg with reaction := .immediate } } (talking .fuelling .none)

theorem test_premises_FreshnessLossFallsBack :
    (((talking .fuelling .none).pos 7).tmr.freshness.isSome = true ∧ ((talking .fuelling .none).pos 7).tmr.deferral = none ∧
      ((talking .fuelling .none).pos 7).ses.mode = some .comm ∧
      ((talking .fuelling .none).pos 7).cfg.reaction = .atStep ∧ (served.pos 7).tmr.freshness = none) ∧
    ((immediate.pos 7).cfg.reaction = .immediate ∧ (immediate.pos 7).ses.hose = some 3000 ∧
      (immediate.pos 7).cfg.cls = .car70 ∧ immediate.station.ambient = none ∧
      immediate.targetTable.toList[(4 : Fin 5).val]? = some 7300) ∧
    (((talking .held .deferred).pos 7).tmr.deferral.isSome = true ∧ ((talking .held .deferred).pos 7).ses.deferred = true ∧
      ((talking .checking .none).pos 7).ses.deferred = false ∧ ((talking .authorised .none).pos 7).ses.state = .authorised) ∧
    (((after (.freshnessExpiry 7) immediate).pos 7).ses.target = 7300 ∧
      ((after (.freshnessExpiry 7) (talking .fuelling .none)).pos 7).tmr.deferral = some 5000 ∧
      ((after (.deferralExpiry 7) (talking .held .deferred)).pos 7).ses.mode = some .noncomm) := by decide +kernel

theorem test_premises_FreshnessLoss_laws :
    immediate.BankNaming ∧ immediate.LoopsInRange ∧ (talking .held .deferred).BankNaming ∧
    (talking .held .deferred).LoopsInRange ∧ NoncommTarget immediate .car70 7300 := by
  refine ⟨?_, ?_, ?_, ?_, 4, fun _ => rfl, fun x h => ?_, fun _ => by decide +kernel, (fun h => nomatch h)⟩
  · unfold State.BankNaming Position.NamesOne; decide +kernel
  · unfold State.LoopsInRange; decide +kernel
  · unfold State.BankNaming Position.NamesOne; decide +kernel
  · unfold State.LoopsInRange; decide +kernel
  · have none : immediate.station.ambient = none := by decide +kernel
    rw [none] at h
    exact nomatch h

/-! ### Premises met: samples of a fill -/

theorem test_premises_SamplesDriveTheFill :
    (atWork.link.rx = none ∧ (atWork.pos 7).ses.state = .fuelling ∧ (atWork.pos 7).ses.target = 8000 ∧
      (atWork.pos 7).ses.control = .opened ∧ (atWork.pos 7).ses.current = some 4 ∧
      (atWork.bank 4).pressure = some 4600 ∧ (4600 : Nat) < 4401 + atWork.station.switchMargin ∧
      4400 + atWork.station.switchMargin ≤ 4600 ∧ (atWork.pos 7).ses.deferred = false ∧
      (atWork.bank 4).claimant = some (.pos 7) ∧ (atWork.bank 4).state = .serving ∧ atWork.waitList = []) ∧
    ((ramping.pos 7).ses.current = none ∧ (waiting.pos 0).ses.state = .pulsing ∧ (holding.pos 0).ses.state = .held ∧
      (8000 : Nat) = (0x40 : Byte).toNat + 256 * (0x1F : Byte).toNat ∧
      2 + BitVec.ofNat 8 (7 : PosId).val + 0x40 + 0x1F + ck [2, 7, 0x40, 0x1F] = 0) ∧
    ((atWork.pos 7).ses.hose = some 3000 ∧ (3199 : Nat) < 3000 + atWork.station.switchMargin ∧
      3000 + atWork.station.switchMargin ≤ 3200 ∧ 3199 ≤ (atWork.bank 4).rated) := by decide +kernel

theorem test_samples_of_a_fill :
    ((after (sample 2 7 0x40 0x1F 0) atWork).pos 7).ses.endReason = some .fullPressure ∧
    ((after (sample 2 7 0x31 0x11 0) atWork).pos 7).ses.steps = 1 ∧
    ((after (sample 2 7 0x31 0x11 0) atWork).pos 7).ses.state = .held ∧
    ((after (sample 2 7 0x30 0x11 0) atWork).pos 7).ses.control = .closed ∧
    ((after (sample 2 7 0x30 0x11 0) atWork).pos 7).ses.current = some 4 ∧
    ((after (sample 0 4 0x7F 0x0C 0) atWork).pos 7).ses.steps = 1 ∧
    ((after (sample 0 4 0x80 0x0C 0) atWork).pos 7).ses.steps = 0 ∧
    (after (sample 2 0 0xD0 0x07 0) holding).waitList.map WaitEntry.need = [2200] := by decide +kernel

/-! ### Premises met: metering and holds -/

theorem test_premises_PulsesOutsideTheSale :
    (served.pos 3).ses.state = .idle ∧
    ((arriving 1200 cold).pos 0).ses.boundHold = some 31 ∧
    ((arriving 1200 cold).pos 0).meter.metered + ((arriving 1200 cold).pos 0).cfg.gramsPerPulse ≤ 4294967295 ∧
    ((arriving 1200 cold).hold 31).conditioning + ((arriving 1200 cold).pos 0).cfg.gramsPerPulse ≤ 4294967295 ∧
    (venting.hold 31).overrun + (venting.pos 0).cfg.gramsPerPulse ≤ 4294967295 ∧
    (pulsing.pos 0).ses.boundHold = some 31 ∧
    ((after (.meterPulse 3 7) served).pos 3).meter.stray = 2 ∧
    ((after (.meterPulse 0 7) (arriving 1200 cold)).hold 31).conditioning = 2 ∧
    (after (.meterPulse 0 7) (arriving 1200 cold)).notices.requests = 32768 ∧
    (after (.meterPulse 0 7) pulsing).notices.requests = 0 ∧
    ((after (.meterPulse 0 7) venting).hold 31).overrun = 2 := by decide +kernel

/-- A hold one pulse of 2 g from its ceiling, or past it by half a pulse. -/
def selling (sold : Nat) : State := withHold 31 { charged with sold := sold } holding

theorem test_premises_SalePulseChargesTheHold :
    (((selling 1377).pos 0).ses.state = .held ∧ ((selling 1377).pos 0).ses.boundHold = some 31 ∧
      ((selling 1377).hold 31).massCeiling = some 1379 ∧ ((selling 1377).hold 31).price = some 1450 ∧
      ((selling 1377).pos 0).meter.metered + ((selling 1377).pos 0).cfg.gramsPerPulse ≤ 4294967295 ∧
      ((selling 1377).hold 31).overrun + ((selling 1377).pos 0).cfg.gramsPerPulse ≤ 4294967295 ∧
      1379 = ((selling 1377).hold 31).sold + min 2 (1379 - ((selling 1377).hold 31).sold)) ∧
    (((after (.meterPulse 0 7) (selling 1377)).pos 0).ses.endReason = some .limitMoney ∧
      ((after (.meterPulse 0 7) (selling 1377)).hold 31).amount = 1999 ∧
      ((after (.meterPulse 0 7) (selling 1378)).hold 31).overrun = 1 ∧
      ((after (.meterPulse 0 7) (selling 1376)).pos 0).ses.state = .held ∧
      ((after (.meterPulse 0 7) (selling 877)).pos 0).ses.taper = true ∧
      ((after (.meterPulse 0 7) (selling 876)).pos 0).ses.taper = false) := by decide +kernel

theorem test_premises_OpenAndRetire :
    (num 31).Names (.hold 31) none ∧ (tail [1, 0, 0, 0, 1, 0, 1, 0, 0, 0, 3]).Whole 11 ∧ (tail []).Whole 0 ∧
    (served.hold 31).state = .free ∧ (atWork.hold 31).state = .bound ∧
    ((1 : Byte), Permit.bus35) ∈ [((1 : Byte), Permit.bus35), (2, Permit.car70), (3, Permit.either)] ∧
    ((1 : Byte), LimitKind.money) ∈ [((0 : Byte), LimitKind.mass), (1, LimitKind.money)] ∧
    (3 : Byte).toNat = (3 : PlanId).val ∧ 3 < (4 : Byte).toNat ∧ 1 < (2 : Byte).toNat := by
  unfold Addr.Names Tail.Whole; decide +kernel

theorem test_open_and_retire :
    ((after (.open_ (num 31) (tail [1, 0, 0, 0, 1, 0, 1, 0, 0, 0, 3])) served).hold 31).state = .opened ∧
    (after (.open_ (num 31) (tail [1, 0, 0, 0, 0, 0, 1, 0, 0, 0, 3])) served).port.lastResult = .range ∧
    (after (.open_ (num 31) (tail [1, 0, 0, 0, 1, 0, 0, 0, 0, 0, 3])) served).port.lastResult = .range ∧
    (after (.open_ (num 31) (tail [1, 0, 0, 0, 1, 2, 1, 0, 0, 0, 3])) served).port.lastResult = .range ∧
    (after (.open_ (num 31) (tail [1, 0, 0, 0, 1, 1, 1, 0, 0, 0, 4])) served).port.lastResult = .range ∧
    (after (.open_ (num 31) (tail [1, 0, 0, 0, 1, 0, 1, 0, 0, 0, 3])) atWork).port.lastResult = .state ∧
    (after (.retire (num 31) (tail [])) atWork).port.lastResult = .busy ∧
    (after (.retire (num 0) (tail [])) { served with port.window := some (.hold 0) }).port.window = none := by
  decide +kernel

/-! ### Premises met: the record port -/

theorem test_premises_PollsAndLooksReadTheStation :
    ((tail [1, 2]).served = true ∧ (tail [1, 2]).extra = 0 ∧ ({ tail [] with extra := 7 } : Tail).extra ≠ 0) ∧
    (recordOf 2 1 = some (.comp 1) ∧ (lookTail 14).data.length = (lookTail 14).count.toNat + 1 ∧
      (lookTail 14).count.toNat ≤ ((RecordRef.comp 1).widths.drop 0).sum ∧
      ((RecordRef.comp 1).widths.drop 0).sum < (lookTail 15).count.toNat ∧
      (8 : Byte).toNat < (RecordRef.comp 1).widths.length ∧ (RecordRef.comp 1).widths.length ≤ (9 : Byte).toNat ∧
      (tail []).data.length ≠ (tail []).count.toNat + 1 ∧ ListsFit atWork) ∧
    ({ served with port.window := some (.comp 1) }.port.window = some (.comp 1)) := by
  unfold ListsFit; decide +kernel

theorem test_polls_and_looks :
    (after (.noop (.oneByte 0xFF true)) served).hostOut = [0x40] ∧
    (after (.noop (.header 5 200 77 (tail [1, 2]))) served).hostOut = [0x40, 0xFF, 0, 0, 0, 0] ∧
    (after (.look 2 1 0 (lookTail 14)) atWork).hostOut =
      [0x40, 0xFF, 0, 0, 0, 2, 2, 160, 0, 20, 15, 5, 0, 0xFF, 0xFF, 0xFF, 0xFF, 0, 0] := by decide +kernel

theorem test_refused_looks :
    (after (.look 2 1 0 (lookTail 14)) atWork).port.lastResult = .ok ∧
    (after (.look 2 1 0 (lookTail 15)) atWork).port.lastResult = .length ∧
    (after (.look 2 1 9 (lookTail 1)) atWork).port.lastResult = .noField ∧
    (after (.look 2 2 0 (lookTail 1)) atWork).port.lastResult = .noRecord ∧
    (after (.look 9 0 0 (lookTail 1)) atWork).port.lastResult = .noWindow ∧
    (after (.look 2 1 0 (tail [])) atWork).port.lastResult = .length ∧
    (after (.noop (.header 2 1 0 { tail [] with extra := 7 })) atWork).port.lastResult = .framing := by decide +kernel

/-- A failed transfer: whole bytes, then some bits. -/
def failed (bytes : List Byte) (extra : Fin 8) : Transfer := { bytes := bytes, extra := extra, served := true }

theorem test_premises_FailingTransfersWriteNothing :
    (RowRequest (.start (num 0) (tail [])) = some (addrRequest (num 0) 3 0 0 (tail [])) ∧ (tail []).served = true ∧
      ({ tail [] with extra := 1 } : Tail).extra ≠ 0 ∧
      (tail [1]).data.length = AskedBytes (addrRequest (num 0) 2 1 0 (tail [1])) ∧
      (tail [1]).count ≠ 0 ∧ ({ tail [1] with count := 2 } : Tail).count.toNat ≠ 1 ∧
      (addrRequest windowed 3 0 0 (tail [])).cls = 9 ∧ served.port.window = none ∧
      recordOf 1 12 = none ∧ recordOf 10 0 = none ∧ recordOf 5 32 = none ∧ recordOf 5 31 = some (.hold 31)) ∧
    ((failed [] 1).isFailed = true ∧ (failed [0x30, 0] 0).isFailed = true ∧ (failed [0x70, 0, 0, 0] 7).isFailed = true) ∧
    (recordOf ((0x70 : Byte).toNat % 16) 0 = some .station ∧ 7 ≤ (0x70 : Byte).toNat / 16 ∧
      ((0x30 : Byte).toNat / 16 = 3 ∧ verbOf .station 4 = none) ∧
      ((0x40 : Byte).toNat / 16 = 4 ∧ (0x40 : Byte).toNat % 16 ≠ 5) ∧
      ((0x50 : Byte).toNat / 16 = 5 ∧ (0x50 : Byte).toNat % 16 ≠ 5)) := by decide +kernel

theorem test_failing_transfers :
    (after (.failedTransfer (failed [] 1)) served).port.lastResult = .framing ∧
    (after (.failedTransfer (failed [0x30, 0] 0)) served).port.lastResult = .length ∧
    (after (.failedTransfer (failed [0x70, 0, 0, 0] 0)) served).port.lastResult = .noVerb ∧
    (after (.failedTransfer (failed [0x30, 0, 4, 0] 0)) served).port.lastResult = .noVerb ∧
    (after (.failedTransfer (failed [0x50, 0, 0, 0] 0)) served).port.firstError = some .noVerb ∧
    (after (.start windowed (tail [])) served).port.lastResult = .noWindow ∧
    (after (.isolate (num 12) (tail [])) served).port.lastResult = .noRecord ∧
    (after (.isolate (num 0) { tail [] with extra := 1 }) served).port.lastResult = .framing ∧
    (after (.isolate (num 0) (tail [0])) served).port.lastResult = .length := by decide +kernel

theorem test_premises_SelectAndTheWindow :
    (tail []).Whole 0 ∧ (5 : BitVec 4) ≠ 9 ∧ recordOf (5 : BitVec 4).toNat (31 : Byte).toNat = some (.hold 31) ∧
    recordOf (4 : BitVec 4).toNat (8 : Byte).toNat = none ∧
    (addrRequest windowed 3 1 0 (tail [])).cls = 9 ∧ (addrRequest windowed 3 1 0 (tail [])).op ≠ 6 ∧
    { served with port.window := some (.bank 4) }.port.window = some (.bank 4) ∧
    (after (.select 5 31 0 (tail [])) served).port.window = some (.hold 31) ∧
    (after (.select 4 8 0 (tail [])) served).port.lastResult = .noRecord ∧
    (after (.select 9 0 0 (tail [])) served).port.lastResult = .noWindow ∧
    (after (.select 9 0 0 (tail [])) { served with port.window := some .notice }).port.lastResult = .noVerb ∧
    ((after (.isolate windowed (tail [])) { pulsing with port.window := some (.bank 4) }).bank 4).isolation =
      some .host := by
  unfold Tail.Whole; decide +kernel

theorem test_premises_SummariesAndUnservedTransfers :
    (RowRequest (.start (num 0) { tail [] with served := false }) =
      some (addrRequest (num 0) 3 0 0 { tail [] with served := false })) ∧
    { failed [0x70] 0 with served := false }.served = false ∧
    (after (.summaryTransfer 28 0 true) atWork).hostOut =
      [1, 1, 0, 0, 0, 0, 0, 0, 5, 0, 0, 0, 0, 2, 3, 0, 0, 0, 0, 0, 0, 0, 2, 2, 0, 0, 250, 0] := by decide +kernel

/-! ### Premises met: station writes, notices, phases -/

theorem test_premises_StationWrites :
    (num 0).Names .station none ∧ (tail [0xFF, 0xFF, 0xFF, 0xFF]).Whole 4 ∧ (tail [50, 0]).Whole 2 ∧ (tail [5]).Whole 1 ∧
    (leValue [50, 0] = 50 ∧ leValue [49, 0] = 49 ∧ leValue [0xE8, 3] = 1000 ∧ leValue [0xE9, 3] = 1001 ∧
      leValue [0xD0, 7] = 2000 ∧ leValue [0xF4, 1] = 500 ∧ leValue [60, 0] = 60 ∧ leValue [0x10, 0x0E] = 3600 ∧
      leValue [0x88, 0x13] = 5000 ∧ leValue [120] = 120 ∧ leValue [1] = 1) ∧
    (∀ e ∈ holding.waitList, (holding.pos e.pos).ses.hose.isSome = true) := by
  unfold Addr.Names Tail.Whole; decide +kernel

theorem test_station_writes :
    (after (.clockWrite (num 0) (tail [1, 2, 3, 4])) served).station.clock = 0x04030201 ∧
    (after (.switchMarginWrite (num 0) (tail [50, 0])) holding).waitList.map WaitEntry.need = [1050] ∧
    (after (.switchMarginWrite (num 0) (tail [49, 0])) served).port.lastResult = .range ∧
    (after (.setFields 0 0 9 (tail [0xD0, 7])) served).station.suctionMin = 2000 ∧
    (after (.setFields 0 0 12 (tail [9, 0])) served).port.lastResult = .range ∧
    (after (.setFields 0 0 13 (tail [0x10, 0x0E])) served).station.leakWindow = 3600 ∧
    (after (.setFields 0 0 16 (tail [4])) served).port.lastResult = .range ∧
    (after (.setFields 0 0 17 (tail [30])) served).station.deferralLimit = 30 ∧
    (after (.errorCountClear (num 0) (tail [0])) { served with port.errorCount := 3 }).port.errorCount = 0 ∧
    (after (.errorCountClear (num 0) (tail [1])) served).port.lastResult = .range := by decide +kernel

theorem test_premises_TablesAndTariffsAreWritten :
    (0 : Byte).toNat = (0 : Fin 3).val ∧ (6 : Byte).toNat < ([7, 10, 8] : List Nat).getD 0 0 ∧
    (9 : Byte).toNat < ([7, 10, 8] : List Nat).getD 1 0 ∧ (7 : Byte).toNat < ([7, 10, 8] : List Nat).getD 2 0 ∧
    (tail [0xE8, 3]).Whole 2 ∧ (tail [0x40, 0x42, 0x0F, 0]).Whole 4 ∧ leValue [0x40, 0x42, 0x0F, 0] = 1000000 ∧
    (leValue [0x2E, 0x22] = 8750 ∧ leValue [0x17, 0x11] = 4375 ∧ leValue [100, 0] = 100) ∧
    State.reset.station.phase = .setup ∧ served.station.phase = .service := by
  unfold Tail.Whole; decide +kernel

theorem test_tables_and_tariffs :
    (after (.setFields 7 0 6 (tail [0xE8, 3])) State.reset).rampTable = #v[47, 30, 0, 80, 60, 0, 1000] ∧
    (after (.setFields 7 0 6 (tail [0xE9, 3])) State.reset).port.lastResult = .range ∧
    (after (.setFields 7 1 5 (tail [0x18, 0x11])) State.reset).port.lastResult = .range ∧
    (after (.setFields 7 1 4 (tail [0x2E, 0x22])) State.reset).port.lastResult = .ok ∧
    (after (.setFields 7 2 7 (tail [99, 0])) State.reset).port.lastResult = .range ∧
    (after (.setFields 7 2 7 (tail [100, 0])) served).port.lastResult = .phase ∧
    ((after (.setFields 6 3 1 (tail [0x40, 0x42, 0x0F, 0])) served).plan 3).car70 = 1000000 ∧
    (after (.setFields 6 3 1 (tail [0, 0, 0, 0])) served).port.lastResult = .range ∧
    (after (.setFields 2 0 0 (tail [1])) served).port.lastResult = .readOnly := by decide +kernel

/-- Requests N0, N11 and N15 set, N11 and N15 enabled. -/
def noted : State := { served with notices := { requests := 0x8801, enables := 0x8800 } }

theorem test_premises_NoticesAreAcknowledgedAndEnabled :
    (num 0).Names .notice none ∧ (tail [0, 8]).Whole 2 ∧ noted.notices.line = true ∧ noted.notices.top = some 11 ∧
    (after (.ack (num 0) (tail [0, 8])) noted).notices.requests = 0x8001 ∧
    (after (.enablesWrite (num 0) (tail [1, 0])) noted).notices.top = some 0 ∧ served.notices.line = false := by
  unfold Addr.Names Tail.Whole; decide +kernel

/-- SETUP with a configured BUS35 position, and with one whose tiers lack banks. -/
def configured (tier : Tier) : State :=
  withPos 0 { Position.reset with cfg := (bus .idle 0).cfg } <|
  withBank 1 (ready .t1 2500 1500 2375 2000) <| withBank 2 (ready tier 5000 3000 4750 4000) State.reset

theorem test_every_position_is_configured : ∀ p : PosId, Configured (configured .t2) p := by
  have others : ∀ p : PosId, p = 0 ∨ ((configured .t2).pos p).cfg.cls = .unused := by decide +kernel
  have plain : ((configured .t2).pos 0).cfg.precool = false ∧ ((configured .t2).pos 0).cfg.cls = .bus35 := by
    decide +kernel
  intro p
  rcases others p with rfl | h
  · refine Or.inr ⟨?_, fun _ => ⟨⟨1, by decide +kernel⟩, 2, by decide +kernel⟩, ?_⟩
    · rw [plain.1]; exact fun h => nomatch h.1
    · rw [plain.2]; exact fun h => nomatch h
  · exact Or.inl h

theorem test_a_position_without_its_tiers : ¬ ∀ p : PosId, Configured (configured .t1) p := by
  intro h
  have cls : ((configured .t1).pos 0).cfg.cls = .bus35 := by decide +kernel
  have none : ∀ b : BankId, ((configured .t1).bank b).tier ≠ .t2 := by decide +kernel
  rcases h 0 with u | ⟨_, c, _⟩
  · rw [cls] at u; exact nomatch u
  · obtain ⟨_, b, hb⟩ := c cls
    exact none b hb

theorem test_premises_PhaseVerbs :
    (num 0).Names .station none ∧ (tail []).Whole 0 ∧ (configured .t2).station.phase = .setup ∧
    (configured .t2).station.halt = .running ∧ SetupAllowed served ∧ ¬ SetupAllowed atWork ∧
    (served.suction = .short ∧ served.station.inputs.esd = false ∧
      { served with station.halt := .halted }.station.halt = .halted) := by
  unfold Addr.Names Tail.Whole SetupAllowed; decide +kernel

theorem test_phase_verbs :
    (after (.start (num 0) (tail [])) (configured .t2)).station.phase = .service ∧
    ((after (.start (num 0) (tail [])) (configured .t2)).loop 1).tick = some 1000 ∧
    (after (.start (num 0) (tail [])) (configured .t1)).port.lastResult = .state ∧
    (after (.setup (num 0) (tail [])) served).station.phase = .setup ∧
    (after (.setup (num 0) (tail [])) atWork).port.lastResult = .state ∧
    (after (.resume (num 0) (tail [])) { served with station.halt := .halted }).station.halt = .running ∧
    (after (.resume (num 0) (tail [])) served).port.lastResult = .state := by decide +kernel

theorem test_premises_ClearTearsEverythingDown :
    ((num 0).Names .station none ∧ (tail []).Whole 0 ∧ served.HoldsAgree ∧ atWork.HoldsAgree) ∧
    ((atWork.bank 4).state = .serving ∧ (atWork.bank 5).state = .refilling ∧ (atWork.comp 1).state = .running ∧
      (atWork.hold 30).state = .bound ∧ (atWork.hold 30).conditioning + (atWork.hold 30).sold ≤ 4294967295) ∧
    ((after (.clear (num 0) (tail [])) atWork).notices.requests = 1024 ∧
      (after (.clear (num 0) (tail [])) served).notices.requests = 0 ∧
      ((after (.clear (num 0) (tail [])) atWork).hold 30).endReason = some .cleared) := by
  unfold Addr.Names Tail.Whole State.HoldsAgree; decide +kernel

/-! ### Premises met: the laws every step keeps -/

/-- `atWork` with a command waiting: the stop of P7's fill. -/
def busy : State := { atWork with pending := [.stop (num 7) (tail [])] }

theorem test_a_step_of_a_busy_station :
    step busy = .next (after (.stop (num 7) (tail [])) atWork) ∧
    (after (.stop (num 7) (tail [])) atWork).pending = [] := by
  refine ⟨rfl, ?_⟩; decide +kernel

theorem test_a_busy_station_obeys_the_laws_of_records :
    busy.PowerFits ∧ busy.SetupQuiet ∧ busy.CompRows ∧ busy.WaitingOrder := by
  refine ⟨?_, ?_, ?_, ?_⟩
  · unfold State.PowerFits; decide +kernel
  · unfold State.SetupQuiet; decide +kernel
  · unfold State.CompRows Compressor.RowHolds; decide +kernel
  · unfold State.WaitingOrder; decide +kernel

theorem test_a_busy_station_obeys_the_laws_of_queues_and_links :
    busy.QueueLaw ∧ busy.LoopsInRange ∧ busy.FramesInOrder ∧ busy.ErrorsAgree ∧ busy.BankNaming := by
  refine ⟨?_, ?_, ?_, ?_, ?_⟩
  · unfold State.QueueLaw; decide +kernel
  · unfold State.LoopsInRange; decide +kernel
  · unfold State.FramesInOrder; decide +kernel
  · unfold State.ErrorsAgree; decide +kernel
  · unfold State.BankNaming Position.NamesOne; decide +kernel

theorem test_a_busy_station_obeys_the_silence_law : busy.SilenceRuns := by
  intro c
  match c with
  | .bankP b => revert b; decide +kernel
  | .bankT b => revert b; decide +kernel
  | .hoseP p => revert p; decide +kernel
  | .suctionP => decide +kernel
  | .ambientT => decide +kernel
  | .loopT l => revert l; decide +kernel

theorem test_a_busy_station_agrees_on_holds : busy.HoldsAgree ∧ busy.SoldWithinCeiling := by
  constructor
  · unfold State.HoldsAgree; decide +kernel
  · have two : ∀ h : HoldId, ((busy.hold h).state = .bound ∨ (busy.hold h).state = .settled) → h = 30 ∨ h = 31 := by
      decide +kernel
    intro h hs
    rcases two h hs with rfl | rfl <;> exact ⟨1379, by decide +kernel, by decide +kernel⟩

/-- A station with one fill on one bank and one refill, every bank in its row. -/
theorem test_a_busy_station_keeps_its_banks_in_their_rows : busy.BankRows := by
  unfold State.BankRows Bank.RowHolds; decide +kernel

theorem test_a_busy_station_agrees_on_claims : busy.ClaimsAgree := by
  unfold State.ClaimsAgree Session.names; decide +kernel

/-! ### Steps of the spec's worked examples -/

/-- "Offers at the evening peak" (02) just before the B6 sample at 41,013. -/
def eveningPeak : State :=
  { withComp 0 (working .running 6 none) <| withBank 6 (claimed .refilling (.comp 0) (readyT2 4700)) <|
      withPos 5 (bus .pulsing 2840) <|
      withPos 1
        { car .held 7200 with
          ses := { (car .held 7200).ses with cursor := .t3, causes := { Causes.empty with noBank := true } } } <|
      withBank 2 (ready .t1 2500 1500 2375 2120) <| withBank 9 (ready .t3 9500 5700 9025 5580) served with
    refillQueue := [{ bank := 9, stamp := 41011 }],
    waitList :=
      [{ pos := 5, tiers := [.t1, .t2], need := 3040, stamp := 41000, yieldTimer := some 1, waited := false },
       { pos := 1, tiers := [.t3], need := 7400, stamp := 41004, yieldTimer := some 1, waited := false }] }

theorem test_worked_offer_of_B6 :
    ((after (sample 0 6 0x98 0x12 0) eveningPeak).bank 6).claimant = some (.pos 5) ∧
    ((after (sample 0 6 0x98 0x12 0) eveningPeak).bank 6).atHigh = true ∧
    (after (sample 0 6 0x98 0x12 0) eveningPeak).waitList.map WaitEntry.pos = [1] ∧
    ((after (sample 0 6 0x98 0x12 0) eveningPeak).comp 0).state = .unloading ∧
    (after (sample 0 6 0x98 0x12 0) eveningPeak).queued 9 = true := by decide +kernel

/-- "A curtailment at the evening peak" (03) at 64,800. -/
def curtailed : State :=
  { withComp 0 (working .running 6 none) <|
      withComp 1 { working .running 10 none with reach := .t3, draw := 220 } <|
      withBank 6 (claimed .refilling (.comp 0) (readyT2 4120)) <|
      withBank 10 { claimed .refilling (.comp 1) (ready .t3 9500 5700 9025 7100) with priority := 2 } <|
      withBank 3 (readyT2 2890) <| withPos 7 (car .fuelling 3000) <|
      withLoop 0 { cold with chiller := .running, grants := [7] } <| withLoop 1 { cold with chiller := .running } <|
      sucking with
    station := { served.station with clock := 64800, allowance := 600 },
    refillQueue := [{ bank := 3, stamp := 64700 }] }

theorem test_worked_curtailment :
    (after (.powerAllowanceWrite (num 0) (tail [0x2C, 1])) curtailed).refillQueue =
      [{ bank := 10, stamp := 64800 }, { bank := 6, stamp := 64800 }, { bank := 3, stamp := 64700 }] ∧
    (after (.powerAllowanceWrite (num 0) (tail [0x2C, 1])) curtailed).granted = 180 ∧
    (after (.powerAllowanceWrite (num 0) (tail [0x2C, 1])) curtailed).notices.requests = 16384 := by decide +kernel

/-- The same at 64,900, both compressors STOPPED, the allowance 300 kW. -/
def curtailedLater : State :=
  { withComp 0 (Compressor.reset .t2 160) <| withComp 1 (Compressor.reset .t3 220) <|
      withBank 6 (readyT2 4120) <|
      withBank 10 { ready .t3 9500 5700 9025 7100 with priority := 2 } curtailed with
    station := { served.station with clock := 64900, allowance := 300 },
    refillQueue :=
      [{ bank := 10, stamp := 64800 }, { bank := 6, stamp := 64800 }, { bank := 3, stamp := 64700 }] }

theorem test_worked_raise :
    ((after (.powerAllowanceWrite (num 0) (tail [0xF4, 1])) curtailedLater).comp 1).bank = some 10 ∧
    ((after (.powerAllowanceWrite (num 0) (tail [0xF4, 1])) curtailedLater).comp 0).bank = none ∧
    (after (.powerAllowanceWrite (num 0) (tail [0xF4, 1])) curtailedLater).refillQueue =
      [{ bank := 6, stamp := 64800 }, { bank := 3, stamp := 64700 }] := by decide +kernel

/-- "A bus fill on a hot evening" (06) at 70,000: the window's expiry stages B1. -/
def hotEvening : State :=
  withHold 31 charged <| withBank 1 (ready .t1 2500 1500 2375 1980) <| withBank 2 (ready .t1 2500 1500 2375 2360) <|
  withPos 6
    { bus .checking 1240 with
      ses := { (bus .checking 1240).ses with initial := 1250, mode := none },
      tmr := { PosTimers.stopped with check := some 5000 } }
    { served with station := { served.station with clock := 70000, ambient := some 460 } }

theorem test_worked_check_window :
    ((after (.checkWindowExpiry 6) hotEvening).pos 6).ses.target = 3650 ∧
    ((after (.checkWindowExpiry 6) hotEvening).pos 6).ses.ceiling = 1250 ∧
    ((after (.checkWindowExpiry 6) hotEvening).pos 6).ses.fuelStamp = some 70000 ∧
    ((after (.checkWindowExpiry 6) hotEvening).pos 6).ses.staged = some 1 := by decide +kernel

theorem test_worked_first_ramp_tick :
    ((after (.rampTick 6) (after (.checkWindowExpiry 6) hotEvening)).pos 6).ses.ceiling = 1280 ∧
    ((after (.rampTick 6) (after (.checkWindowExpiry 6) hotEvening)).pos 6).ses.effRate = 30 ∧
    ((after (.rampTick 6) (after (.checkWindowExpiry 6) hotEvening)).pos 6).ses.control = .opened := by decide +kernel

/-- "A car losing its data at a step" (07) at 81,303, hose 58.20 MPa. -/
def losingData : State :=
  withPos 2
    { car .fuelling 5820 with
      cfg := { (car .fuelling 5820).cfg with reaction := .atStep },
      ses := { (car .fuelling 5820).ses with
        target := 8750, ceiling := 5904, current := some 4, supply := some 4, control := .opened,
        vehicle := some
          { volume := 1200, pressure := 5780, temperature := 310, command := .run, sequence := 117, frames := 9,
            invalids := 0, stamp := 81300, fallback := .deferred } },
      tmr := { PosTimers.stopped with ramp := some 1000, deferral := some 5000, stall := some 20000 } } <|
  withBank 4 { claimed .serving (.pos 2) (readyT2 6500) with rated := 7000 } <|
  withBank 9 (ready .t3 9500 5700 9025 9000)
    { served with station := { served.station with clock := 81303, ambient := some 460 } }

theorem test_worked_step_applies_the_fallback :
    ((after (sample 0 4 0x7A 0x17 0) losingData).pos 2).ses.target = 7300 ∧
    ((after (sample 0 4 0x7A 0x17 0) losingData).pos 2).ses.mode = some .noncomm ∧
    ((after (sample 0 4 0x7A 0x17 0) losingData).pos 2).ses.staged = some 9 ∧
    ((after (sample 0 4 0x7A 0x17 0) losingData).pos 2).ses.cursor = .t3 ∧
    ((after (sample 0 4 0x7A 0x17 0) losingData).pos 2).ses.ceiling = 5904 ∧
    ((after (sample 0 4 0x7A 0x17 0) losingData).pos 2).tmr.deferral = none := by decide +kernel

/-- "A refused write and its reading" (09): P4 FUELLING in the window, N1 enabled. -/
def windowOnP4 : State :=
  { withPos 4 (bus .fuelling 1000) served with
    port := { served.port with window := some (.position 4) },
    notices := { requests := 0, enables := 2 } }

theorem test_worked_refused_write :
    (after (.rateLimitWrite windowed (tail [0xB0, 4])) windowOnP4).port.firstError = some .range ∧
    (after (.noop (.oneByte 0 true)) (after (.rateLimitWrite windowed (tail [0xB0, 4])) windowOnP4)).hostOut =
      [0xD0 + BitVec.ofNat 8 Result.range.code] ∧
    (after (.rateLimitWrite windowed { tail [32] with count := 2, extra := 3 }) windowOnP4).port.lastResult =
      .framing ∧
    ((after (.rateLimitWrite windowed (tail [32, 0])) windowOnP4).pos 4).ses.pendingRate = some 32 := by decide +kernel

/-! ### Premises met: the clauses the review added -/

/-- K0 alone can take B3, at the head of the queue: K1 is FAULTED, its line released. -/
def oneTaker : State :=
  { withBank 3 (readyT2 2000) <| withComp 1 { Compressor.reset .t3 220 with state := .faulted } sucking with
    refillQueue := [{ bank := 3, stamp := 7 }] }

theorem test_premises_EvaluationMade :
    (Evaluates oneTaker ∧ oneTaker.refillQueue = { bank := 3, stamp := 7 } :: [] ∧
      (oneTaker.bank 3).state = .ready ∧ (oneTaker.bank 3).pressure = some 2000 ∧ 2000 < (oneTaker.bank 3).high ∧
      CanTake oneTaker 0 (oneTaker.bank 3).tier) ∧
    (∀ j : CompId, CanTake oneTaker j (oneTaker.bank 3).tier → j = 0) ∧
    ((oneTaker.begin.evaluate).comp 0).bank = some 3 := by
  unfold Evaluates CanTake; decide +kernel

/-- The commands that call for an evaluation, each from a state in which K0 alone can take B3 then. -/
theorem test_the_evaluations_that_commands_make :
    ((after (.release (num 0) (tail []))
      (withComp 0 { Compressor.reset .t2 160 with withheld := true } oneTaker)).comp 0).state = .starting ∧
    ((after (.unloadTimerExpiry 0)
      (withComp 0 { Compressor.reset .t2 160 with state := .unloading, unloadTimer := some 15000 } oneTaker)).comp
        0).state = .starting ∧
    ((after (sample 3 0 0x2C 0x01 0) { oneTaker with suction := .short }).comp 0).state = .starting ∧
    ((after (.powerAllowanceWrite (num 0) (tail [160, 0])) { oneTaker with station.allowance := 159 }).comp 0).state =
      .starting ∧
    ((after (.start (num 0) (tail [])) { oneTaker with station.phase := .setup }).comp 0).state = .starting ∧
    ((after (.resume (num 0) (tail [])) { oneTaker with station.halt := .halted }).comp 0).state = .starting := by
  decide +kernel

/-- `starting` while suction is SUFFICIENT: K0 on B5, K1 on B3. -/
def losing : State := { starting with suction := .sufficient }

theorem test_premises_SuctionLost :
    (losing.suction = .sufficient ∧ losing.station.suctionMin = 300 ∧ losing.waitList = [] ∧ losing.QueueLaw ∧
      (losing.comp 0).active = true ∧ (losing.comp 1).active = true ∧ (losing.comp 0).bank = some 5 ∧
      (losing.comp 1).bank = some 3 ∧ (losing.bank 5).claimant = some (.comp 0) ∧
      (losing.bank 3).claimant = some (.comp 1) ∧ (losing.bank 5).state = .refilling ∧
      (losing.bank 3).state = .refilling) ∧
    ((299 : Nat) = (0x2B : Byte).toNat + 256 * (0x01 : Byte).toNat ∧ 3 + 0x2B + 0x01 + ck [3, 0, 0x2B, 0x01] = 0) ∧
    ((after (sample 3 0 0x2B 0x01 0) losing).refillQueue.map QueueEntry.bank = [3, 5] ∧
      (after (sample 3 0 0x2B 0x01 0) losing).suction = .short ∧
      (after (sample 3 0 0x2C 0x01 0) losing).comps = losing.comps ∧
      (after (sample 3 0 0x2B 0x01 0) starting).comps = starting.comps) := by
  unfold State.QueueLaw; decide +kernel

theorem test_a_frame_of_quality_bad_loses_the_suction :
    ((after (sample 3 0 0 0 1)
      { losing with
        link := { losing.link with suction := { quality := .good, value := some 400, silence := some 2000 } } }).comp
          1).state = .unloading := by decide +kernel

theorem test_premises_RouteFrames_of_samples_and_vehicle_frames :
    (OneRule (sample 2 7 0x40 0x1F 0) = true ∧ OneRule (.vehicleFrame 7 (0x7E :: body 0 0 0xA8 0x7D 0)) = true ∧
      OneRule (.silenceTimerExpiry .suctionP) = true ∧ OneRule .routeFrameComplete = false) ∧
    exec (sample 2 7 0x40 0x1F 0) atWork = .next (after (sample 2 7 0x40 0x1F 0) atWork) ∧
    ((after (sample 2 7 0x40 0x1F 0) atWork).routes ≠ atWork.routes ∧ atWork.link.sending = none) ∧
    (after (sample 2 7 0x40 0x1F 0) atWork).link.sending = some (after (sample 2 7 0x40 0x1F 0) atWork).routes := by
  refine ⟨?_, rfl, ?_, ?_⟩ <;> decide +kernel

theorem test_premises_EmergencyStop_joins_a_low_bank :
    ((atWork.bank 5).state = .refilling ∧ (atWork.bank 5).pressure = some 2000 ∧ (atWork.bank 5).low = 3000 ∧
      atWork.QueueLaw ∧ atWork.queued 5 = false ∧ (atWork.bank 3).state = .unused ∧ (atWork.comp 0).active = false) ∧
    ((after .esdAsserted atWork).refillQueue = [{ bank := 5, stamp := 1000 }] ∧
      (after .esdAsserted atWork).queued 4 = false ∧ ((after .esdAsserted atWork).comp 1).unloadTimer = some 15000) := by
  unfold State.QueueLaw; decide +kernel

/-- Log 27: of two banks that one halt lets join, the model puts the lower number first. -/
theorem test_two_banks_join_at_a_halt :
    (after .esdAsserted
      { withBank 3 (claimed .refilling (.comp 0) (readyT2 2000)) (withComp 0 (working .running 3 none) atWork) with
        refillQueue := [] }).refillQueue.map QueueEntry.bank = [3, 5] := by decide +kernel

theorem test_premises_SETUP_banks_stand_in_their_rows : inSetup.BankRows := by
  unfold State.BankRows Bank.RowHolds; decide +kernel

/-- P1 is HELD by the host and for want of a bank, its entry older than that of P0, which waits in PULSING. -/
def handing : State :=
  { withPos 1
      { bus .held 1000 with
        ses := { (bus .held 1000).ses with causes := { Causes.empty with noBank := true, host := true } } } waiting with
    waitList :=
      [{ pos := 1, tiers := [.t1, .t2], need := 1200, stamp := 1, yieldTimer := none, waited := false },
       { pos := 0, tiers := [.t1, .t2], need := 4000, stamp := 2, yieldTimer := some 10000, waited := false }] }

theorem test_premises_Offer_hands_on :
    ((handing.begin.pos 1).ses.state = .held ∧ (handing.begin.pos 1).ses.causes.noBank = true ∧
      (handing.begin.pos 1).ses.causes.host = true ∧ (handing.begin.bank 3).state = .ready ∧
      (handing.begin.bank 3).tier ∈ [Tier.t1, Tier.t2] ∧ (handing.begin.pos 0).ses.state = .pulsing ∧
      (handing.begin.pos 0).ses.current = none) ∧
    (((handing.begin.offerBank 3).pos 1).ses.causes = { Causes.empty with host := true } ∧
      ((handing.begin.offerBank 3).pos 0).ses.current = some 3 ∧ (handing.begin.offerBank 3).waitList = [] ∧
      ((({ handing with waitList := handing.waitList.take 1 } : State).begin.offerBank 3).bank 3).state = .ready) := by
  decide +kernel

/-- K1 RUNNING on B3 just below its high mark, P0 waiting in PULSING or not. -/
def completing (waits : List WaitEntry) : State :=
  { withComp 1 (working .running 3 none) <|
      withBank 3 { claimed .refilling (.comp 1) (readyT2 4749) with yields := 2 } waiting with
    waitList := waits }

theorem test_premises_RefillCompletesAtASample :
    (((completing []).comp 1).state = .running ∧ ((completing []).comp 1).bank = some 3 ∧
      ((completing []).bank 3).claimant = some (.comp 1) ∧ ((completing []).bank 3).state = .refilling ∧
      ((completing []).bank 3).rated = 5000 ∧ ((completing []).bank 3).high = 4750 ∧ ¬ Evaluates (completing []) ∧
      (4750 : Nat) = (0x8E : Byte).toNat + 256 * (0x12 : Byte).toNat) ∧
    (((after (sample 0 3 0x8E 0x12 0) (completing [])).comp 1).refills = 1 ∧
      ((after (sample 0 3 0x8E 0x12 0) (completing [])).bank 3).state = .ready ∧
      ((after (sample 0 3 0x8E 0x12 0) (completing waiting.waitList)).pos 0).ses.current = some 3 ∧
      ((after (sample 0 3 0x8D 0x12 0) (completing [])).comp 1).state = .running) := by
  unfold Evaluates; decide +kernel

/-- `yielding` with a head that has waited, B5 yielded so often before. -/
def sampled (yields : Nat) (x : Position) : State :=
  { withBank 5 { claimed .refilling (.comp 1) (readyT2 1100) with yields := yields } (yielding x) with
    waitList :=
      [{ pos := 0, tiers := [.t1, .t2], need := 1200, stamp := 2, yieldTimer := none, waited := true }] }

theorem test_premises_PressureSampleYields :
    (((sampled 1 (waiting.pos 0)).comp 1).bank = some 5 ∧ ((sampled 1 (waiting.pos 0)).comp 1).state = .running ∧
      ((sampled 1 (waiting.pos 0)).bank 5).claimant = some (.comp 1) ∧
      ((sampled 1 (waiting.pos 0)).bank 5).yields = 1 ∧ 1200 < ((sampled 1 (waiting.pos 0)).bank 5).high ∧
      (1200 : Nat) = (0xB0 : Byte).toNat + 256 * (0x04 : Byte).toNat) ∧
    (((after (sample 0 5 0xB0 0x04 0) (sampled 1 (waiting.pos 0))).pos 0).ses.current = some 5 ∧
      ((after (sample 0 5 0xB0 0x04 0) (sampled 1 (holding.pos 0))).pos 0).ses.staged = some 5 ∧
      ((after (sample 0 5 0xB0 0x04 0) (sampled 2 (waiting.pos 0))).comp 1).state = .running ∧
      ((after (sample 0 5 0xAF 0x04 0) (sampled 1 (waiting.pos 0))).comp 1).state = .running) := by decide +kernel

theorem test_premises_AllowanceWrite_gives_banks_back :
    (loaded.waitList = [] ∧ loaded.QueueLaw ∧ (loaded.comp 0).bank = some 4 ∧
      (loaded.bank 4).claimant = some (.comp 0) ∧ (loaded.bank 4).state = .refilling) ∧
    ((after (.powerAllowanceWrite (num 0) (tail [0x2F, 0x02])) loaded).comp 1 = loaded.comp 1 ∧
      (after (.powerAllowanceWrite (num 0) (tail [0x2F, 0x02])) loaded).refillQueue = [{ bank := 4, stamp := 1000 }] ∧
      ((after (.powerAllowanceWrite (num 0) (tail [0x2F, 0x02])) loaded).bank 4).state = .ready) := by
  unfold State.QueueLaw; decide +kernel

/-- L1 turns COLD at its next tick while P7 is HELD for it, alone or by the host too; B4 READY at a pressure. -/
def regained (host : Bool) (v : Nat) : State :=
  withLoop 1 { cold with band := .lost, grants := [7], chiller := .running } <| withBank 4 (readyT2 v) <|
  withPos 7
    { car .held 3000 with
      ses := { (car .held 3000).ses with causes := { Causes.empty with precool := true, host := host } },
      tmr := { PosTimers.stopped with held := some 70000 } } served

theorem test_premises_PrecoolTick_removes_PRECOOL :
    (((regained false 4600).loop 1).tick.isSome = true ∧ (regained false 4600).WaitingOrder ∧
      (regained false 4600).LoopsInRange ∧ Band.cold = BandOf ((regained false 4600).loop 1).outlet 6000 ∧
      ((regained false 4600).loop 1).band = .lost ∧ ((regained false 4600).pos 7).ses.causes.precool = true) ∧
    (((after (.precoolTick 1) (regained false 4600)).pos 7).ses.staged = some 4 ∧
      (after (.precoolTick 1) (regained false 3199)).waits 7 = true ∧
      ((after (.precoolTick 1) (regained true 4600)).pos 7).ses.causes = { Causes.empty with host := true } ∧
      ((after (.precoolTick 1) (regained true 4600)).pos 7).tmr.held = some 70000) := by
  unfold State.WaitingOrder State.LoopsInRange; decide +kernel

/-- `pulsing` while P1 waits in PULSING for a bank of T2. -/
def pulsingBeside : State :=
  { withPos 1 (bus .pulsing 1000) pulsing with
    waitList := [{ pos := 1, tiers := [.t1, .t2], need := 4600, stamp := 1, yieldTimer := none, waited := false }] }

theorem test_premises_PulseEnds_offers_the_bank :
    pulsingBeside.BankNaming ∧
    EligibleFor pulsingBeside 4
      { pos := 1, tiers := [.t1, .t2], need := 4600, stamp := 1, yieldTimer := none, waited := false } ∧
    ((pulsingBeside.pos 1).ses.state = .pulsing ∧
      ((after (.pulseTimerExpiry 0) pulsingBeside).pos 1).ses.current = some 4) := by
  refine ⟨?_, ⟨by decide +kernel, 4600, by decide +kernel, by decide⟩, ?_⟩
  · unfold State.BankNaming Position.NamesOne; decide +kernel
  · decide +kernel

/-- `talking` in HELD by its vehicle and by the host. -/
def heldTwice : State :=
  withPos 7
    { (talking .held .none).pos 7 with
      ses := { ((talking .held .none).pos 7).ses with causes := { Causes.empty with vehicle := true, host := true } } }
    (talking .held .none)

theorem test_premises_VehicleFrame_with_another_cause :
    (heldTwice.BankNaming ∧ heldTwice.LoopsInRange ∧ (heldTwice.pos 7).ses.mode = some .comm) ∧
    (((after (.vehicleFrame 7 (0x7E :: body 0 0 0xA8 0x7D 0)) heldTwice).pos 7).ses.causes =
        { Causes.empty with host := true } ∧
      ((after (.vehicleFrame 7 (0x7E :: body 0xB8 0x0B 0x51 0x83 1)) (talking .authorised .none)).pos 7).ses.causes =
        Causes.empty) := by
  unfold State.BankNaming State.LoopsInRange Position.NamesOne; decide +kernel

/-- `immediate` with its hose at a pressure below the ceiling of 75.00 MPa. -/
def nearlyFull (hose : Nat) : State :=
  withPos 7
    { immediate.pos 7 with ses := { (immediate.pos 7).ses with hose := some hose, ceiling := 7500 } } immediate

theorem test_a_fallback_lowers_the_ceiling_at_the_end_of_the_fill_too :
    ((after (.freshnessExpiry 7) (nearlyFull 7420)).pos 7).ses.endReason = some .fullPressure ∧
    ((after (.freshnessExpiry 7) (nearlyFull 7420)).pos 7).ses.ceiling = 7300 ∧
    ((after (.freshnessExpiry 7) (nearlyFull 7299)).pos 7).ses.state = .fuelling ∧
    ((after (.freshnessExpiry 7) (nearlyFull 7299)).pos 7).ses.ceiling = 7300 := by decide +kernel

/-- `losingData` at another hose pressure. -/
def losingDataAt (hose : Nat) : State :=
  withPos 2 { losingData.pos 2 with ses := { (losingData.pos 2).ses with hose := some hose } } losingData

theorem test_premises_DeferredStep :
    (losingData.BankNaming ∧ losingData.LoopsInRange ∧ (losingData.pos 2).ses.deferred = true ∧
      (losingData.pos 2).ses.names 4 ∧ (losingData.bank 4).claimant = some (.pos 2) ∧
      (losingData.bank 4).state = .serving ∧ (losingData.bank 4).pressure = some 6500 ∧
      (6500 : Nat) < 6301 + losingData.station.switchMargin ∧ (losingData.pos 2).cfg.cls = .car70 ∧
      losingData.waitList = [] ∧ losingData.station.ambient = some 460 ∧
      losingData.targetTable.toList[(4 : Fin 5).val]? = some 7300) ∧
    (((after (sample 2 2 0x9D 0x18 0) losingData).pos 2).ses.mode = some .noncomm ∧
      ((after (.isolate (num 4) (tail [])) losingData).pos 2).ses.target = 7300 ∧
      ((after (.isolate (num 4) (tail [])) losingData).pos 2).ses.staged = some 9 ∧
      ((after (.isolate (num 4) (tail [])) (losingDataAt 7300)).pos 2).ses.endReason = some .fullPressure ∧
      ((after (sample 0 4 0x7A 0x17 0) (losingDataAt 7300)).pos 2).ses.staged = none) := by
  unfold State.BankNaming State.LoopsInRange Position.NamesOne Session.names; decide +kernel

theorem test_premises_DeferredStep_target : NoncommTarget losingData .car70 7300 := by
  have hot : losingData.station.ambient = some 460 := by decide +kernel
  refine ⟨4, fun _ => rfl, fun x h => ?_, fun _ => by decide +kernel, (fun h => nomatch h)⟩
  rw [hot] at h
  cases h; decide

theorem test_the_bytes_of_every_record :
    ListsFit atWork ∧
    (([.station, .bank 4, .comp 1, .loop 1, .position 7, .hold 30, .tariff 3, .table 0, .table 1, .table 2,
        .notice] : List RecordRef).all (fun ref => runFrom ref 0 (talking .fuelling .deferred) ==
      RecordBytes ref (talking .fuelling .deferred))) = true ∧
    runFrom (.bank 4) 4 atWork =
      [0xF8, 0x11, 0xC8, 0x80, 2, 7, 0, 1, 0, 0xFF, 0xFF, 0xFF, 0xFF, 0xFF, 0xFF, 0xFF] ∧
    runFrom (.loop 1) 9 atWork = [0, 0, 1, 7, 0xFF, 0] ++ List.replicate 8 0xFF := by
  unfold ListsFit; decide +kernel

/-- A SET of one field by number. -/
def setOf (cls : BitVec 4) (n field : Byte) (data : List Byte) : Request :=
  { op := 2, cls := cls, num := n, field := field, tail := tail data }

theorem test_premises_SETs_of_one_field :
    (setOf 2 1 1 [3]).tail.Whole 1 ∧ (setOf 3 0 3 [0, 0]).tail.Whole 2 ∧ (setOf 5 31 4 [1, 0, 0, 0]).tail.Whole 4 ∧
    (setOf 2 1 1 [3]).num.toNat = (1 : CompId).val ∧ leValue (setOf 4 0 31 [0xF4, 0x01]).tail.data = 500 ∧
    ((opened false).hold 0).state = .opened ∧ ((opened false).hold 31).state ≠ .opened ∧
    ((configured .t2).pos 0).cfg.cls = .bus35 ∧ ((configured .t2).pos 1).cfg.cls = .unused := by
  unfold Tail.Whole; decide +kernel

theorem test_sets_of_compressors_and_loops :
    ((after (.setFields 2 1 1 (tail [1])) State.reset).comp 1).reach = .t1 ∧
    (after (.setFields 2 1 1 (tail [0])) State.reset).port.lastResult = .range ∧
    (after (.setFields 2 1 2 (tail [0xD0, 7])) served).port.lastResult = .phase ∧
    ((after (.setFields 2 1 3 (tail [120])) served).comp 1).startTime = 120 ∧
    (after (.setFields 2 1 4 (tail [4])) served).port.lastResult = .range ∧
    ((after (.setFields 3 1 1 (tail [0xD0, 7])) State.reset).loop 1).draw = 2000 ∧
    ((after (.setFields 3 1 3 (tail [0xA0, 0x8C])) served).loop 1).floor = 36000 ∧
    (after (.setFields 3 1 3 (tail [0xA1, 0x8C])) served).port.lastResult = .range ∧
    ((after (.setFields 3 1 4 (tail [0xE8, 3])) State.reset).loop 1).recharge = 1000 ∧
    (after (.setFields 3 1 5 (tail [0, 0])) State.reset).port.lastResult = .range := by decide +kernel

theorem test_sets_of_positions :
    ((after (.setFields 4 0 1 (tail [1])) (configured .t2)).pos 0).cfg.precool = true ∧
    (after (.setFields 4 1 1 (tail [1])) (configured .t2)).port.lastResult = .state ∧
    (after (.setFields 4 7 1 (tail [0])) { opened false with station.phase := .setup }).port.lastResult = .range ∧
    ((after (.setFields 4 7 2 (tail [0])) { opened false with station.phase := .setup }).pos 7).cfg.loop = some 0 ∧
    (after (.setFields 4 0 2 (tail [0])) (configured .t2)).port.lastResult = .state ∧
    (after (.setFields 4 0 3 (tail [1])) (configured .t2)).port.lastResult = .state ∧
    ((after (.setFields 4 0 4 (tail [1])) State.reset).pos 0).cfg.reaction = .atStep ∧
    (after (.setFields 4 0 5 (tail [21])) State.reset).port.lastResult = .range ∧
    ((after (.setFields 4 0 6 (tail [30])) served).pos 0).cfg.ventTime = 30 ∧
    ((after (.setFields 4 0 31 (tail [0x88, 0x13])) State.reset).pos 0).cfg.freshnessTime = 5000 ∧
    (after (.setFields 4 0 31 (tail [0x88, 0x13])) served).port.lastResult = .phase := by decide +kernel

theorem test_sets_of_holds :
    ((after (.setFields 5 0 1 (tail [1, 2, 3, 4])) (opened false)).hold 0).account = 67305985 ∧
    ((after (.setFields 5 0 2 (tail [3])) (opened false)).hold 0).permit = .either ∧
    (after (.setFields 5 0 3 (tail [2])) (opened false)).port.lastResult = .range ∧
    (after (.setFields 5 0 4 (tail [0, 0, 0, 0])) (opened false)).port.lastResult = .range ∧
    ((after (.setFields 5 0 5 (tail [3])) (opened false)).hold 0).plan = 3 ∧
    (after (.setFields 5 31 5 (tail [3])) (opened false)).port.lastResult = .state := by decide +kernel

theorem test_read_only_fields_are_refused :
    (recordOf 1 4 = some (.bank 4) ∧ 3 + 2 ≤ (RecordRef.bank 4).widths.length ∧
      (((RecordRef.bank 4).widths.drop 3).take 2).sum = 4 ∧ 4 ∈ ReadOnlyFields (.bank 4)) ∧
    (after (.setFields 1 4 3 (tail [0, 0, 0, 0])) atWork).port.lastResult = .readOnly ∧
    (after (.setFields 0 0 10 (tail [0, 0])) served).port.lastResult = .readOnly ∧
    (after (.setFields 3 0 6 (tail [0, 0])) served).port.lastResult = .readOnly ∧
    (after (.setFields 4 0 7 (tail [0])) served).port.lastResult = .readOnly ∧
    (after (.setFields 5 0 6 (tail [0, 0, 0, 0])) served).port.lastResult = .readOnly ∧
    (after (.setFields 8 0 2 (tail [0])) served).port.lastResult = .readOnly := by decide +kernel

/-- L0 waits for the power that K1 holds. -/
def waitingChiller : State :=
  { withComp 1 { working .running 5 none with draw := 220 } <|
      withBank 5 (claimed .refilling (.comp 1) (readyT2 2000)) poor with
    station := { served.station with allowance := 250 } }

theorem test_premises_Clear_serves_the_chillers :
    (waitingChiller.HoldsAgree ∧ (waitingChiller.comp 1).active = true ∧ (served.comp 0).active = false ∧
      (served.comp 1).active = false) ∧
    ((after (.clear (num 0) (tail [])) waitingChiller).loop 0).chiller = .running ∧
    (after (.clear (num 0) (tail [])) waitingChiller).powerQueue = [] := by
  unfold State.HoldsAgree; decide +kernel

theorem test_a_busy_station_attaches_its_holders : busy.HoldersAttached ∧ (busy.loop 1).grants = [7] := by
  constructor
  · unfold State.HoldersAttached; decide +kernel
  · decide +kernel

end Sys2Proof.Tests
end

section
/-! SUPPORT. What a rule leaves of the field link and of the error record. `State.OffLink s t` says that `t` has the
link of `s` and keeps the law of the error record; one lemma per operation that is not a `State.Evolves` already, each
in the form "if it holds up to this work, it holds after the operation". -/
namespace Sys2Proof.Machine

/-! ### The relation -/

/-- From `s` to `t` the field link stands, and the error record goes on agreeing with itself. -/
structure State.OffLink (s t : State) : Prop where
  link : t.link = s.link
  errors : s.ErrorsAgree → t.ErrorsAgree

namespace State.OffLink
variable {s : State} {v : Work}

theorem of_eq {t : State} (hl : t.link = s.link) (hp : t.port = s.port) : s.OffLink t :=
  ⟨hl, fun h => by unfold State.ErrorsAgree; rw [hp]; exact h⟩

theorem refl (s : State) : s.OffLink s := of_eq rfl rfl

theorem trans {a b c : State} (h : a.OffLink b) (g : b.OffLink c) : a.OffLink c :=
  ⟨g.link.trans h.link, fun e => g.errors (h.errors e)⟩

/-- The shared operations of Laws/Frame touch neither. -/
theorem evolves {t u : State} (h : s.OffLink t) (e : t.Evolves u) : s.OffLink u := h.trans (of_eq e.link e.port)

theorem modPos (h : s.OffLink v.toState) {p f} : s.OffLink (v.modPos p f).toState := h.trans (of_eq rfl rfl)
theorem modBank (h : s.OffLink v.toState) {b f} : s.OffLink (v.modBank b f).toState := h.trans (of_eq rfl rfl)
theorem modComp (h : s.OffLink v.toState) {k f} : s.OffLink (v.modComp k f).toState := h.trans (of_eq rfl rfl)
theorem modLoop (h : s.OffLink v.toState) {l f} : s.OffLink (v.modLoop l f).toState := h.trans (of_eq rfl rfl)
theorem modHold (h : s.OffLink v.toState) {x f} : s.OffLink (v.modHold x f).toState := h.trans (of_eq rfl rfl)
theorem modStation (h : s.OffLink v.toState) {f} : s.OffLink (v.modStation f).toState := h.trans (of_eq rfl rfl)
theorem raise (h : s.OffLink v.toState) {i} : s.OffLink (v.raise i).toState := h.trans (of_eq rfl rfl)
theorem oweEval (h : s.OffLink v.toState) : s.OffLink v.oweEval.toState := h
theorem releasedDraw (h : s.OffLink v.toState) : s.OffLink v.releasedDraw.toState := h

/-- The refill queue, the wait list and the waiting order are no part of the link. -/
theorem lists (h : s.OffLink v.toState) {q l o} :
    s.OffLink ({ v with refillQueue := q, waitList := l, powerQueue := o } : Work).toState := h.trans (of_eq rfl rfl)

theorem each {α : Type} {f : α → Work → Work} (h : s.OffLink v.toState)
    (step : ∀ x v, s.OffLink v.toState → s.OffLink (f x v).toState) {xs : List α} :
    s.OffLink (Work.each f xs v).toState := by
  induction xs generalizing v with
  | nil => exact h
  | cons x xs ih => exact ih (step x v h)

/-! ### Samples and BAD reports -/

theorem joinQueue (h : s.OffLink v.toState) {b} : s.OffLink (v.joinQueue b).toState := h.evolves (v.evolves_joinQueue b)
theorem endFill (h : s.OffLink v.toState) {p r} : s.OffLink (v.endFill p r).toState := h.evolves (v.evolves_endFill p r)
theorem isolateBank (h : s.OffLink v.toState) {b r} : s.OffLink (v.isolateBank b r).toState :=
  h.evolves (v.evolves_isolateBank b r)

theorem reflag (h : s.OffLink v.toState) {b} : s.OffLink (v.reflag b).toState := by
  unfold Work.reflag
  dsimp only
  split
  · exact h.modBank.joinQueue
  · exact h.modBank

end State.OffLink

theorem Work.evolves_pressureToPos (w : Work) (p : PosId) (b : BankId) : w.Evolves (w.pressureToPos p b) := by
  unfold Work.pressureToPos
  dsimp only
  split
  · exact w.evolves_stepFill p
  · exact .refl _

theorem Work.evolves_judgePressure (w : Work) (b : BankId) (v : Nat) : w.Evolves (w.judgePressure b v) := by
  unfold Work.judgePressure
  dsimp only
  split
  · exact w.evolves_isolateBank b _
  · split
    · split
      · exact w.evolves_isolateBank b _
      · exact w.evolves_offerBank b
    · exact w.evolves_pressureToPos _ b
    · exact w.evolves_pressureToComp _ b
    · exact .refl _

/-- What follows the new hose pressure of a delivered hose sample (05, R90; 06, R122). -/
theorem Work.hoseSample_evolves (w : Work) (p : PosId) (v : Nat) :
    (w.modPos p (fun x => { x with ses.hose := some v })).Evolves (w.hoseSample p v) := by
  unfold Work.hoseSample
  dsimp only
  split
  · exact Work.evolves_renewNeed _ p
  · exact Work.evolves_renewNeed _ p
  · split
    · exact Work.evolves_endFill _ p _
    · split
      · exact Work.evolves_stepFill _ p
      · exact Work.evolves_judgeValve _ p
  · exact .refl _

theorem Work.evolves_suctionLoss (w : Work) : w.Evolves w.suctionLoss := by
  refine Work.evolves_each _ (fun k w => ?_) _ w
  split
  · exact w.evolves_loseRefill k
  · exact .refl _

namespace State.OffLink
variable {s : State} {v : Work}

theorem bankPressure (h : s.OffLink v.toState) {b n} : s.OffLink (v.bankPressure b n).toState := by
  unfold Work.bankPressure
  dsimp only
  split
  · exact h.modBank
  · exact (reflag h.modBank).evolves (Work.evolves_judgePressure _ _ _)

theorem bankTemperature (h : s.OffLink v.toState) {b t} : s.OffLink (v.bankTemperature b t).toState := by
  unfold Work.bankTemperature
  dsimp only
  split
  · exact h.modBank.isolateBank
  · exact h.modBank

/-- The suction condition is no part of the link. -/
theorem suctionSet (h : s.OffLink v.toState) {x} : s.OffLink ({ v with suction := x } : Work).toState :=
  h.trans (of_eq rfl rfl)

theorem judgeSuction (h : s.OffLink v.toState) {ok} : s.OffLink (v.judgeSuction ok).toState := by
  unfold Work.judgeSuction
  split
  · exact h.suctionSet.oweEval
  · exact h.suctionSet.evolves (Work.evolves_suctionLoss _)
  · exact h

theorem deliver (h : s.OffLink v.toState) {c x} : s.OffLink (v.deliver c x).toState := by
  cases c with
  | bankP b => exact h.bankPressure
  | bankT b => exact h.bankTemperature
  | hoseP p => exact h.modPos.evolves (v.hoseSample_evolves p _)
  | suctionP => exact h.modStation.judgeSuction
  | ambientT => exact h.modStation
  | loopT l => exact h.modLoop

theorem badReport (h : s.OffLink v.toState) {c} : s.OffLink (v.badReport c).toState := by
  cases c with
  | bankP b => exact h.modBank.isolateBank
  | bankT b => exact h.modBank.isolateBank
  | hoseP p => exact h.modPos.endFill
  | suctionP => exact h.modStation.judgeSuction
  | ambientT => exact h.modStation
  | loopT l => exact h.modLoop

/-! ### Metering and holds -/

theorem addMass (h : s.OffLink v.toState) {a b} : s.OffLink (v.addMass a b).2.toState := by
  unfold Work.addMass
  split
  · exact h
  · exact h.trans (of_eq rfl rfl)

theorem strayPulse (h : s.OffLink v.toState) {p g} : s.OffLink (v.strayPulse p g).toState := h.modPos.raise
theorem addMetered (h : s.OffLink v.toState) {p g} : s.OffLink (v.addMetered p g).toState := h.addMass.modPos
theorem addConditioning (h : s.OffLink v.toState) {x g} : s.OffLink (v.addConditioning x g).toState := h.addMass.modHold
theorem addOverrun (h : s.OffLink v.toState) {x g} : s.OffLink (v.addOverrun x g).toState := h.addMass.modHold

theorem tellTaper (h : s.OffLink v.toState) {p} : s.OffLink (v.tellTaper p).toState := by
  unfold Work.tellTaper
  dsimp only
  split
  · exact h.modPos
  · exact h

theorem salePulse (h : s.OffLink v.toState) {p x g} : s.OffLink (v.salePulse p x g).toState := by
  unfold Work.salePulse
  dsimp only
  split
  · exact h.modPos.modHold.addOverrun.endFill
  · split
    · exact h.modPos.modHold.addOverrun.tellTaper
    · exact h.modPos.modHold.addOverrun

theorem meterPulse (h : s.OffLink v.toState) {p m} : s.OffLink (v.meterPulse p m).toState := by
  unfold Work.meterPulse
  dsimp only
  split
  · exact h.modPos.addMetered.addConditioning.strayPulse
  · exact h.modPos.addMetered.addConditioning.strayPulse
  · exact h.modPos.addMetered.addConditioning
  · exact h.modPos.addMetered.addConditioning
  · exact h.modPos.addMetered.salePulse
  · exact h.modPos.addMetered.salePulse
  · exact h.modPos.addMetered.addOverrun
  · exact h.modPos.strayPulse

theorem setMark (h : s.OffLink v.toState) {p} : s.OffLink (v.setMark p).toState := by
  unfold Work.setMark
  split
  · exact h.modHold
  · exact h

theorem undoAuthorise (h : s.OffLink v.toState) {p} : s.OffLink (v.undoAuthorise p).toState := by
  unfold Work.undoAuthorise
  dsimp only
  split
  · exact h.modHold.modPos
  · exact h.modPos

theorem settle (h : s.OffLink v.toState) {x r} : s.OffLink (v.settle x r).toState := by
  unfold Work.settle
  dsimp only
  split
  · exact h.addConditioning.modHold.modHold
  · exact h.modHold

/-! ### Vehicle data -/

theorem addCause (h : s.OffLink v.toState) {p c} : s.OffLink (v.addCause p c).toState :=
  h.evolves (v.evolves_addCause p c)
theorem removeCause (h : s.OffLink v.toState) {p c} : s.OffLink (v.removeCause p c).toState :=
  h.evolves (v.evolves_removeCause p c)

theorem commFrame (h : s.OffLink v.toState) {p d} : s.OffLink (v.commFrame p d).toState := by
  unfold Work.commFrame
  split
  · exact h.endFill
  · split
    · exact h.addCause
    · exact h.removeCause
    · exact h

/-- Step 2 of a valid frame is done or left out (07, R128). -/
theorem freshened (h : s.OffLink v.toState) {c : Prop} {_ : Decidable c} {p} :
    s.OffLink (if c then v.modPos p Position.freshen else v).toState := by
  split
  · exact h.modPos
  · exact h

/-- Steps 3 to 6 of a valid frame (07, R128). -/
theorem frameJudged (h : s.OffLink v.toState) {x : Session} {p d} :
    s.OffLink (if d.command = .abort then v.endFill p .vehicleAbort
      else if Config.hotTemperature ≤ d.temperature then v.endFill p .tankHot
      else if (x.state = .fuelling ∨ x.state = .held) ∧ x.isComm = true then v.commFrame p d else v).toState := by
  split
  · exact h.endFill
  · split
    · exact h.endFill
    · split
      · exact h.commFrame
      · exact h

theorem validFrame (h : s.OffLink v.toState) {p d} : s.OffLink (v.validFrame p d).toState := by
  unfold Work.validFrame
  dsimp only
  split
  · exact h.modPos
  · exact h.modPos.freshened.frameJudged

theorem takeVehicle (h : s.OffLink v.toState) {p body} : s.OffLink (v.takeVehicle p body).toState := by
  unfold Work.takeVehicle
  split
  · exact h.validFrame
  · exact h.modPos

theorem startFallback (h : s.OffLink v.toState) {p} : s.OffLink (v.startFallback p).toState := by
  unfold Work.startFallback
  split
  · exact h.evolves (v.evolves_applyFallback p)
  · exact h.modPos

theorem freshnessExpiry (h : s.OffLink v.toState) {p} : s.OffLink (v.freshnessExpiry p).toState := by
  unfold Work.freshnessExpiry
  dsimp only
  split
  · exact h.modPos.startFallback
  · exact h.modPos

/-! ### Sessions -/

theorem couple (h : s.OffLink v.toState) {p} : s.OffLink (v.couple p).toState := by
  unfold Work.couple
  dsimp only
  split
  · exact h.modPos.evolves (Work.evolves_endCore _ p _)
  · split
    · split
      · exact h.modPos.modPos.evolves (Work.evolves_requestGrant _ p _)
      · exact h.modPos.modPos
    · exact h.modPos.modPos.evolves (Work.evolves_pulsingSelect _ p)

theorem endPulse (h : s.OffLink v.toState) {p} : s.OffLink (v.endPulse p).toState := by
  unfold Work.endPulse
  dsimp only
  split
  · exact (h.modPos.evolves (Work.evolves_releaseBank _ _ _)).evolves (Work.evolves_enterChecking _ p)
  · exact h.modPos.evolves (Work.evolves_enterChecking _ p)

theorem enterFuelling (h : s.OffLink v.toState) {p} : s.OffLink (v.enterFuelling p).toState := by
  unfold Work.enterFuelling
  dsimp only
  split
  · exact (h.setMark.modPos.evolves (Work.evolves_selectOrHold _ p)).addCause
  · exact h.setMark.modPos.evolves (Work.evolves_selectOrHold _ p)

theorem checkExpiry (h : s.OffLink v.toState) {p} : s.OffLink (v.checkExpiry p).toState := by
  unfold Work.checkExpiry
  dsimp only
  split
  · exact h.modPos.endFill
  · split
    · exact h.modPos.endFill
    · split
      · exact h.modPos.modPos.endFill
      · exact h.modPos.modPos.enterFuelling

theorem ventExpiry (h : s.OffLink v.toState) {p} : s.OffLink (v.ventExpiry p).toState := by
  unfold Work.ventExpiry Work.raisePos
  cases (v.pos p).ses.boundHold with
  | none =>
    dsimp only
    split
    · exact h.modPos.modPos.raise.modPos
    · exact h.modPos.modPos.raise
  | some x =>
    dsimp only
    split
    · exact h.modPos.settle.raise.modPos.raise.modPos
    · exact h.modPos.settle.raise.modPos.raise

theorem rampTick (h : s.OffLink v.toState) {p} : s.OffLink (v.rampTick p).toState :=
  h.modPos.evolves (Work.evolves_judgeValve _ p)

/-! ### Precooling -/

theorem tickReserve (h : s.OffLink v.toState) {l} : s.OffLink (v.tickReserve l).toState := by
  unfold Work.tickReserve
  dsimp only
  split
  · exact h.modLoop.raise
  · exact h.modLoop

theorem claimChiller (h : s.OffLink v.toState) {l} : s.OffLink (v.claimChiller l).toState := by
  unfold Work.claimChiller
  split
  · exact h.modLoop
  · exact h.lists.modLoop

theorem stopChiller (h : s.OffLink v.toState) {l} : s.OffLink (v.stopChiller l).toState := by
  unfold Work.stopChiller
  dsimp only
  split
  · exact h.modLoop.releasedDraw
  · exact h.modLoop.lists

theorem tickChiller (h : s.OffLink v.toState) {l} : s.OffLink (v.tickChiller l).toState := by
  unfold Work.tickChiller
  dsimp only
  split
  · split
    · exact h.claimChiller
    · exact h
  · split
    · exact h.stopChiller
    · exact h

theorem tickBand (h : s.OffLink v.toState) {l} : s.OffLink (v.tickBand l).toState := by
  unfold Work.tickBand
  dsimp only
  split
  · exact h
  · split
    · exact (h.modLoop.each fun _ _ g => g.modPos).each fun _ _ g => g.removeCause
    · exact h.modLoop.each fun _ _ g => g.modPos

theorem tickLoss (h : s.OffLink v.toState) {l} : s.OffLink (v.tickLoss l).toState := by
  unfold Work.tickLoss
  dsimp only
  generalize (if (v.loop l).band ≠ .lost then 0 else _ : Nat) = loss
  split
  · exact (h.modLoop.each fun _ _ g => g.addCause).raise
  · exact h.modLoop

theorem precoolTick (h : s.OffLink v.toState) {l} : s.OffLink (v.precoolTick l).toState :=
  h.tickReserve.tickChiller.tickBand.tickLoss.evolves (Work.evolves_serveQueue _ l)

theorem startTicks (h : s.OffLink v.toState) : s.OffLink v.startTicks.toState := by
  unfold Work.startTicks Work.computeBands
  exact (h.each fun _ _ g => g.modLoop).each fun _ _ g => g.modLoop

/-! ### Station control -/

theorem haltBanks (h : s.OffLink v.toState) : s.OffLink v.haltBanks.toState := by
  unfold Work.haltBanks
  refine lists (h.each fun b w g => ?_)
  dsimp only
  split
  · split
    · exact (modBank g).joinQueue
    · exact modBank g
  · exact g

theorem haltComps (h : s.OffLink v.toState) : s.OffLink v.haltComps.toState := by
  unfold Work.haltComps
  refine h.each fun k w g => ?_
  split
  · exact g.evolves (w.evolves_unloadComp k)
  · exact g

theorem haltLoops (h : s.OffLink v.toState) : s.OffLink v.haltLoops.toState := by
  unfold Work.haltLoops
  exact lists (h.each fun _ _ g => g.modLoop)

theorem haltSession (h : s.OffLink v.toState) {p} : s.OffLink (v.haltSession p).toState := by
  unfold Work.haltSession
  split
  · exact h.undoAuthorise
  · exact h.endFill

theorem haltAll (h : s.OffLink v.toState) : s.OffLink v.haltAll.toState := by
  unfold Work.haltAll
  exact h.haltBanks.haltComps.haltLoops.each fun _ _ g => g.haltSession

theorem faultComp (h : s.OffLink v.toState) {k} : s.OffLink (v.faultComp k).toState := by
  unfold Work.faultComp
  dsimp only
  split
  · split
    · exact h.modComp.raise.releasedDraw.evolves (Work.evolves_giveBack _ k _)
    · exact h.modComp.raise.releasedDraw
  · exact h.modComp.raise

theorem yieldWaitExpiry (h : s.OffLink v.toState) {p} : s.OffLink (v.yieldWaitExpiry p).toState := by
  unfold Work.yieldWaitExpiry
  dsimp only
  split
  · exact h.lists
  · split
    · exact h.lists.evolves (Work.evolves_yieldAtExpiry _ _)
    · exact h.lists

theorem startExpiry (h : s.OffLink v.toState) {k} : s.OffLink (v.startExpiry k).toState := by
  unfold Work.startExpiry
  dsimp only
  split
  · split
    · exact h.modComp.evolves (Work.evolves_completeRefill _ k)
    · exact h.modComp
  · exact h.modComp

theorem clearBanks (h : s.OffLink v.toState) : s.OffLink v.clearBanks.toState := by
  unfold Work.clearBanks
  refine lists (h.each fun b w g => ?_)
  split
  · exact modBank g
  · exact g

theorem clearComp (h : s.OffLink v.toState) {k} : s.OffLink (v.clearComp k).toState := by
  unfold Work.clearComp
  dsimp only
  split
  · exact h
  · split
    · exact h.modComp.releasedDraw
    · exact h.modComp

theorem clearSession (h : s.OffLink v.toState) {p} : s.OffLink (v.clearSession p).toState := by
  unfold Work.clearSession
  dsimp only
  split
  · exact h
  · split
    · exact h.settle.modPos
    · exact h.modPos

/-- The requests are no part of the link. -/
theorem requests (h : s.OffLink v.toState) {x} : s.OffLink ({ v with notices.requests := x } : Work).toState :=
  h.trans (of_eq rfl rfl)

/-- CLEAR up to its notices. -/
theorem clearBlocks (h : s.OffLink v.toState) :
    s.OffLink (Work.each Work.clearSession allPositions
      (Work.each Work.clearLoop allLoops (Work.each Work.clearComp allComps v.clearBanks))).toState :=
  ((h.clearBanks.each fun _ _ g => g.clearComp).each fun _ _ g => g.modLoop).each fun _ _ g => g.clearSession

theorem clearAll (h : s.OffLink v.toState) : s.OffLink v.clearAll.toState := by
  unfold Work.clearAll
  have b := h.clearBlocks
  revert b
  generalize Work.each Work.clearSession _ _ = u
  intro b
  dsimp only
  split
  · exact b.requests.raise
  · exact b.requests

/-! ### Verbs, OPEN and RETIRE -/

theorem setupVerb (h : s.OffLink v.toState) : s.OffLink v.setupVerb.toState := by
  unfold Work.setupVerb
  exact lists (h.modStation.each fun _ _ g => g.modLoop)

theorem resumeVerb (h : s.OffLink v.toState) : s.OffLink v.resumeVerb.toState := by
  unfold Work.resumeVerb
  dsimp only
  split
  · exact h.modStation.oweEval.startTicks
  · exact h.modStation.oweEval

/-- A join that is made or left out. -/
theorem joinedIf (h : s.OffLink v.toState) {c : Prop} {_ : Decidable c} {b} :
    s.OffLink (if c then v.joinQueue b else v).toState := by
  split
  · exact h.joinQueue
  · exact h

theorem freeBank (h : s.OffLink v.toState) {b} : s.OffLink (v.freeBank b).toState := by
  unfold Work.freeBank Work.makeReady
  dsimp only
  split <;> split
  · exact h.modBank.joinQueue.oweEval
  · exact h.modBank.joinQueue
  · exact h.modBank.oweEval
  · exact h.modBank

theorem restoreVerb (h : s.OffLink v.toState) {b} : s.OffLink (v.restoreVerb b).toState :=
  h.modBank.freeBank.evolves (Work.evolves_offerBank _ b)

theorem authoriseVerb (h : s.OffLink v.toState) {p n} : s.OffLink (v.authoriseVerb p n).toState := by
  unfold Work.authoriseVerb Work.bindHold
  split
  · exact h
  · dsimp only
    split
    · exact h.modHold.modPos.modPos.couple
    · exact h.modHold.modPos.modPos.modPos

theorem stopVerb (h : s.OffLink v.toState) {p} : s.OffLink (v.stopVerb p).toState := by
  unfold Work.stopVerb
  split
  · exact h.undoAuthorise
  · exact h.endFill

theorem verbApply (h : s.OffLink v.toState) {x args} : s.OffLink (v.verbApply x args).toState := by
  cases x with
  | start => exact h.modStation.startTicks.oweEval
  | setup => exact h.setupVerb
  | resume => exact h.resumeVerb
  | clear => exact h.clearAll
  | isolate b => exact h.isolateBank
  | restore b => exact h.restoreVerb
  | refill b => exact h.joinQueue
  | cancelRefill b => exact h.evolves (v.evolves_leaveQueue b)
  | withhold k => exact h.modComp
  | release k => exact h.modComp.oweEval
  | clearFault k => exact h.modComp.oweEval
  | authorise p => exact h.authoriseVerb
  | stop p => exact h.stopVerb
  | pause p => exact h.addCause
  | continue_ p => exact h.removeCause
  | ack => exact h.requests

theorem openHold (h : s.OffLink v.toState) {x args} : s.OffLink (v.openHold x args).toState := h.modHold

theorem retireHold (h : s.OffLink v.toState) {x} : s.OffLink (v.retireHold x).toState := by
  unfold Work.retireHold
  dsimp only
  split
  · exact h.trans ⟨rfl, id⟩
  · exact h.modHold

/-! ### Writes -/

theorem allowanceWrite (h : s.OffLink v.toState) {n} : s.OffLink (v.allowanceWrite n).toState := by
  unfold Work.allowanceWrite
  dsimp only
  split
  · exact h.modStation.releasedDraw
  · split
    · exact (h.modStation.evolves (Work.evolves_shed 4 _)).raise
    · exact h.modStation

/-- Cleared errors agree: no first error code, a count of 0 (09, R166). -/
theorem clearErrors (h : s.OffLink v.toState) : s.OffLink ({ v with port := v.port.clearErrors } : Work).toState :=
  ⟨h.link, fun _ => by simp [State.ErrorsAgree, Port.clearErrors]⟩

theorem stationWrite (h : s.OffLink v.toState) {field n} : s.OffLink (v.stationWrite field n).toState := by
  unfold Work.stationWrite
  split
  case h_2 => exact h.allowanceWrite
  case h_3 => exact h.modStation.lists
  case h_11 => exact h.clearErrors
  case h_12 => exact h
  all_goals exact h.modStation

theorem checkRated (h : s.OffLink v.toState) {b} : s.OffLink (v.checkRated b).toState := by
  unfold Work.checkRated
  split
  · exact h.isolateBank
  · exact h

theorem newTier (h : s.OffLink v.toState) {b} : s.OffLink (v.newTier b).toState := by
  unfold Work.newTier Work.makeReady
  dsimp only
  split
  · exact h.modBank.joinedIf.isolateBank
  · split
    · exact h.modBank.joinedIf.isolateBank
    · split
      · exact h.modBank.joinedIf.isolateBank
      · exact h.modBank.joinedIf

theorem tierWrite (h : s.OffLink v.toState) {b t} : s.OffLink (v.tierWrite b t).toState := by
  unfold Work.tierWrite
  dsimp only
  split
  · split
    · exact h
    · exact h.modBank.evolves (Work.evolves_leaveQueue _ b)
  · split
    · exact h.modBank.newTier
    · exact h.modBank.reflag.checkRated

theorem bankWrite (h : s.OffLink v.toState) {b field n} : s.OffLink (v.bankWrite b field n).toState := by
  unfold Work.bankWrite
  split
  · exact h.tierWrite
  · exact h.modBank.reflag.checkRated
  · exact h.modBank.reflag
  · exact h.modBank.reflag
  · exact h.modBank.evolves (Work.evolves_replaceEntry _ b)
  · exact h

theorem writeField (h : s.OffLink v.toState) {ref field n} : s.OffLink (v.writeField ref field n).toState := by
  cases ref with
  | station => exact h.stationWrite
  | bank b => exact h.bankWrite
  | comp k => exact h.modComp
  | loop l => exact h.modLoop
  | position p => exact h.modPos
  | hold x => exact h.modHold
  | tariff i => exact h.trans (of_eq rfl rfl)
  | table i =>
    unfold Work.writeField Work.tableWrite
    dsimp only
    split <;> exact h.trans (of_eq rfl rfl)
  | notice =>
    unfold Work.writeField
    dsimp only
    split
    · exact h.trans (of_eq rfl rfl)
    · exact h

theorem setAll {ref : RecordRef} {vals xs : List (Nat × Nat)} (h : s.OffLink v.toState) :
    s.OffLink (Work.setAll ref vals xs v).2.toState := by
  induction xs generalizing v with
  | nil => exact h
  | cons x xs ih =>
    unfold Work.setAll
    dsimp only
    split
    · exact ih h.writeField
    · exact ih h

end State.OffLink
end Sys2Proof.Machine
end

section
/-! SUPPORT. The end of a rule and what a command leaves of the link: `State.Ruled s t` says that `t` is `s` after at
most one rule, whose route frame is the only change of the link (01, R10); `State.Framed` says that of the route
frames alone. -/
namespace Sys2Proof.Machine

/-! ### The end of a rule -/

/-- What the serving of the waiting order and the evaluation leave besides `State.Settles`. -/
structure Work.Winds (w t : Work) : Prop extends State.Settles w.toState t.toState where
  link : t.link = w.link
  positions : t.positions = w.positions
  waitList : t.waitList = w.waitList
  notices : t.notices = w.notices

theorem Work.Winds.refl (w : Work) : w.Winds w := { State.Settles.refl w.toState with
  link := rfl, positions := rfl, waitList := rfl, notices := rfl }

theorem Work.Winds.trans {a b c : Work} (h : a.Winds b) (g : b.Winds c) : a.Winds c :=
  { h.toSettles.trans g.toSettles with
    link := g.link.trans h.link
    positions := g.positions.trans h.positions
    waitList := g.waitList.trans h.waitList
    notices := g.notices.trans h.notices }

theorem Work.winds_serveOne (w : Work) (l : LoopId) : w.Winds (w.serveOne l) := by
  unfold Work.serveOne
  split
  · exact .refl _
  · split
    · exact { w.settles_grantChiller l with link := rfl, positions := rfl, waitList := rfl, notices := rfl }
    · exact .refl _

theorem Work.winds_visit (w : Work) (e : QueueEntry) : w.Winds (w.visit e) := by
  unfold Work.visit
  dsimp only
  split
  · split
    · exact { (w.evolves_leaveQueue _).toSettles with link := rfl, positions := rfl, waitList := rfl, notices := rfl }
    · split
      · exact { w.settles_assign _ _ with link := rfl, positions := rfl, waitList := rfl, notices := rfl }
      · exact .refl _
  · exact .refl _

theorem Work.winds_serveWaiting (w : Work) : w.Winds w.serveWaiting :=
  Work.each_keeps Work.Winds .refl .trans _ (fun l w => w.winds_serveOne l) _ w

theorem Work.winds_evaluate (w : Work) : w.Winds w.evaluate := by
  unfold Work.evaluate
  split
  · exact Work.each_keeps Work.Winds .refl .trans _ (fun e w => w.winds_visit e) _ w
  · exact .refl _

/-- The work at the end of a rule, before its route frame (03, R49, R63). -/
def Work.wound (w : Work) : Work :=
  let served := if w.serveDue then w.serveWaiting else w
  if w.evalDue then served.evaluate else served

theorem Work.close_eq (w : Work) (s0 : State) : w.close s0 =
    if w.wound.routes = s0.routes then w.wound.toState
    else { w.wound.toState with link := w.wound.link.pushRoutes w.wound.routes } := rfl

theorem Work.winds_wound (w : Work) : w.Winds w.wound := by
  have served : w.Winds (if w.serveDue then w.serveWaiting else w) := by
    split
    · exact w.winds_serveWaiting
    · exact .refl _
  unfold Work.wound
  dsimp only
  split
  · exact served.trans (Work.winds_evaluate _)
  · exact served

/-- A link after a rule that took the route record from `old` to `new` (01, R10). -/
def FieldLink.routed (old new : RouteRecord) (f : FieldLink) : FieldLink :=
  if new = old then f else f.pushRoutes new

theorem Work.close_routes (w : Work) (s0 : State) : (w.close s0).routes = w.wound.routes := by
  rw [Work.close_eq]; split <;> rfl

theorem Work.close_link (w : Work) (s0 : State) : (w.close s0).link = w.link.routed s0.routes (w.close s0).routes := by
  rw [Work.close_routes, Work.close_eq, FieldLink.routed, ← w.winds_wound.link]
  split <;> rfl

@[simp] theorem Work.close_positions (w : Work) (s0 : State) : (w.close s0).positions = w.positions := by
  rw [← w.winds_wound.positions, Work.close_eq]; split <;> rfl
@[simp] theorem Work.close_waitList (w : Work) (s0 : State) : (w.close s0).waitList = w.waitList := by
  rw [← w.winds_wound.waitList, Work.close_eq]; split <;> rfl
@[simp] theorem Work.close_notices (w : Work) (s0 : State) : (w.close s0).notices = w.notices := by
  rw [← w.winds_wound.notices, Work.close_eq]; split <;> rfl
@[simp] theorem Work.close_pos (w : Work) (s0 : State) (p : PosId) : (w.close s0).pos p = w.pos p := by
  unfold State.pos; rw [Work.close_positions]

/-! ### One route frame at most -/

/-- Besides its frames, a link stands through a new route frame. -/
theorem FieldLink.routed_frames (old new : RouteRecord) (f : FieldLink) :
    f.routed old new = { f with sending := (f.routed old new).sending, waiting := (f.routed old new).waiting } := by
  unfold FieldLink.routed FieldLink.pushRoutes
  split
  · rfl
  · split <;> rfl

@[simp] theorem FieldLink.routed_chan (old new : RouteRecord) (f : FieldLink) (c : Channel) :
    (f.routed old new).chan c = f.chan c := by
  rw [FieldLink.routed_frames]; cases c <;> rfl

@[simp] theorem FieldLink.routed_rx (old new : RouteRecord) (f : FieldLink) : (f.routed old new).rx = f.rx := by
  rw [FieldLink.routed_frames]

theorem FieldLink.routed_same (r : RouteRecord) (f : FieldLink) : f.routed r r = f := if_pos rfl

/-- `t` is `s` after at most one rule, whose route frame is the only change of the link (01, R10; log 19). -/
structure State.Ruled (s t : State) : Prop where
  link : t.link = s.link.routed s.routes t.routes
  errors : s.ErrorsAgree → t.ErrorsAgree

/-- Nothing of the link and of the route record changes from `s` to `t`. -/
structure State.Still (s t : State) : Prop extends State.OffLink s t where
  routes : t.routes = s.routes

theorem State.Still.of_eq {s t : State} (hl : t.link = s.link) (hp : t.port = s.port)
    (hs : t.positions = s.positions) (hc : t.comps = s.comps) : s.Still t :=
  { State.OffLink.of_eq hl hp with
    routes := by unfold State.routes State.pos State.comp; rw [hs, hc] }

theorem State.Still.refl (s : State) : s.Still s := .of_eq rfl rfl rfl rfl

theorem State.Still.trans {a b c : State} (h : a.Still b) (g : b.Still c) : a.Still c :=
  { h.toOffLink.trans g.toOffLink with routes := g.routes.trans h.routes }

theorem State.Still.ruled {s t : State} (h : s.Still t) : s.Ruled t :=
  ⟨by rw [h.routes, FieldLink.routed_same, h.link], h.errors⟩

theorem State.Ruled.after {s t u : State} (h : s.Ruled t) (g : t.Still u) : s.Ruled u :=
  ⟨by rw [g.link, g.routes, h.link], fun e => g.errors (h.errors e)⟩

theorem State.Ruled.before {s t u : State} (g : s.Still t) (h : t.Ruled u) : s.Ruled u :=
  ⟨by rw [h.link, g.link, g.routes], fun e => h.errors (g.errors e)⟩

theorem Work.close_errors {w : Work} (s0 : State) (h : w.toState.ErrorsAgree) : (w.close s0).ErrorsAgree := by
  unfold State.ErrorsAgree
  rw [(w.settles_close s0).port]
  exact h

theorem Work.close_ruled {s : State} {w : Work} (h : s.OffLink w.toState) : s.Ruled (w.close s) where
  link := by rw [Work.close_link, h.link]
  errors := fun e => Work.close_errors s (h.errors e)

theorem State.rule_ruled (s : State) (f : Work → Work) (h : s.OffLink (f s.begin).toState) : s.Ruled (s.rule f) :=
  Work.close_ruled h

theorem State.offLink_begin (s : State) : s.OffLink s.begin.toState := .refl s

/-- A rule that may come about. -/
theorem State.ruleIf_ruled (s : State) (f : Work → Work) (c : Prop) {d : Decidable c}
    (h : s.OffLink (f s.begin).toState) : s.Ruled (if c then s.rule f else s) := by
  split
  · exact s.rule_ruled f h
  · exact (State.Still.refl s).ruled

/-! ### Transfers -/

/-- Recording a result keeps the law of the error record: any result but OK counts an error (09, R165). -/
theorem State.still_recordResult (s : State) (r : Result) : s.Still (s.recordResult r) where
  link := rfl
  routes := rfl
  errors := by
    rintro ⟨hc, hn⟩
    unfold State.ErrorsAgree State.recordResult Port.record
    by_cases hr : r = .ok
    · simpa [hr] using ⟨hc, hn⟩
    · by_cases h0 : s.port.errorCount = 0
      · simp [hr, h0]
      · have first : s.port.firstError.isSome = true := hc.mpr (Nat.pos_of_ne_zero h0)
        simp [hr, h0, first]

theorem State.still_hostOut (s : State) (bytes : List Byte) : s.Still { s with hostOut := bytes } :=
  .of_eq rfl rfl rfl rfl

theorem State.still_unserved (s : State) (n : Nat) : s.Still (s.unserved n) := .of_eq rfl rfl rfl rfl

theorem settleTransfer_ruled (fails : List Result) (f : Work → Work) (s : State)
    (h : s.OffLink (f s.begin).toState) : s.Ruled (settleTransfer fails f s).2 := by
  unfold settleTransfer
  split
  · exact s.rule_ruled f h
  · exact (State.Still.refl s).ruled

theorem judge_ruled (r : Request) (s : State) : s.Ruled (judge r s).2 := by
  have start := s.offLink_begin
  have stays : s.Ruled s := (State.Still.refl s).ruled
  unfold judge
  split
  · exact stays
  · split
    · exact stays
    · split
      · exact stays
      · split
        · exact stays
        · unfold judgeSet
          split
          · exact stays
          · dsimp only
            split
            · exact Work.close_ruled start.setAll
            · exact stays
        · unfold judgeAct
          split
          · exact stays
          · exact settleTransfer_ruled _ _ s start.verbApply
        · unfold judgeOpen
          split
          · exact settleTransfer_ruled _ _ s start.openHold
          · exact stays
        · unfold judgeRetire
          split
          · exact settleTransfer_ruled _ _ s start.retireHold
          · exact stays
        · unfold judgeSelect
          split
          · exact stays
          · exact ⟨(FieldLink.routed_same _ _).symm, id⟩
        · exact stays

theorem portRequest_ruled (r : Request) (s : State) : s.Ruled (portRequest r s) := by
  unfold portRequest
  split
  · exact (s.still_unserved _).ruled
  · dsimp only
    split
    · exact (s.still_hostOut _).ruled
    · exact .before (s.still_hostOut _) ((judge_ruled r _).after (State.still_recordResult _ _))

theorem portShort_still (n : Nat) (extra : Fin 8) (served : Bool) (s : State) :
    s.Still (portShort n extra served s) := by
  unfold portShort
  split
  · exact s.still_unserved n
  · dsimp only
    split
    · exact (s.still_hostOut _).trans (State.still_recordResult _ _)
    · split
      · exact s.still_hostOut _
      · exact (s.still_hostOut _).trans (State.still_recordResult _ _)

theorem portBits_ruled (x : Transfer) (s : State) : s.Ruled (portBits x s) := by
  unfold portBits
  split
  · exact portRequest_ruled _ s
  · exact (portShort_still _ _ _ s).ruled

/-! ### Vehicle frames -/

/-- The part-received frame of a position is no part of the route record. -/
theorem State.setRx_pos (s : State) (p q : PosId) (r : Option PartFrame) :
    (s.setRx p r).pos q = if q = p then { s.pos p with rx := r } else s.pos q := get_set_eq _ _ _ _

theorem State.setRx_ses (s : State) (p q : PosId) (r : Option PartFrame) :
    ((s.setRx p r).pos q).ses = (s.pos q).ses := by
  rw [State.setRx_pos]
  split
  · next e => rw [e]
  · rfl

theorem State.still_setRx (s : State) (p : PosId) (r : Option PartFrame) : s.Still (s.setRx p r) :=
  { State.OffLink.of_eq (t := s.setRx p r) rfl rfl with
    routes := by
      unfold State.routes
      simp only [State.setRx_ses]
      rfl }

/-- Bytes that a vehicle receiver lacks to a whole frame, the marker counted outside a frame (11, R182). -/
def bytesToVehicleFrame : Option PartFrame → Nat
  | none => 10
  | some f => 9 - f.bytes.length

/-- A byte that does not complete a frame only lengthens it. -/
theorem State.vehicleByte_waits (p : PosId) (s : State) (b : Byte) (h : 1 < bytesToVehicleFrame (s.pos p).rx) :
    s.Still (s.vehicleByte p b) ∧
      bytesToVehicleFrame (s.pos p).rx ≤ bytesToVehicleFrame ((s.vehicleByte p b).pos p).rx + 1 := by
  unfold State.vehicleByte
  cases hr : (s.pos p).rx with
  | none =>
    dsimp only
    split
    · exact ⟨s.still_setRx p _, by simp [State.setRx_pos, bytesToVehicleFrame]⟩
    · exact ⟨.refl s, by simp [hr, bytesToVehicleFrame]⟩
  | some f =>
    rw [hr, bytesToVehicleFrame] at h
    have short : (f.bytes ++ [b]).length < 9 := by simp; omega
    dsimp only
    rw [if_pos short]
    refine ⟨s.still_setRx p _, ?_⟩
    simp only [State.setRx_pos, if_true, bytesToVehicleFrame, List.length_append, List.length_singleton]
    omega

theorem Position.freshen_rx (x : Position) : x.freshen.rx = x.rx := by
  unfold Position.freshen; split <;> rfl

/-- What the rule of a vehicle frame leaves of its receiver. -/
theorem Work.takeVehicle_rx (w : Work) (p : PosId) (body : List Byte) :
    ((w.takeVehicle p body).pos p).rx = (w.pos p).rx := by
  have kept : ∀ {v u : Work}, v.Evolves u → (u.pos p).rx = (v.pos p).rx := fun e => (e.pos p).rx
  unfold Work.takeVehicle
  split
  · unfold Work.validFrame
    dsimp only
    split
    · simp
    · next d _ _ =>
      generalize hu : (if (w.pos p).ses.duplicate d = false ∧ (w.pos p).ses.state.open_ = true then _
        else _ : Work) = u
      have rx : (u.pos p).rx = (w.pos p).rx := by
        rw [← hu]
        split
        · simp [Position.freshen_rx]
        · simp
      rw [← rx]
      split
      · exact kept (u.evolves_endFill p _)
      · split
        · exact kept (u.evolves_endFill p _)
        · split
          · unfold Work.commFrame
            split
            · exact kept (u.evolves_endFill p _)
            · split
              · exact kept (u.evolves_addCause p _)
              · exact kept (u.evolves_removeCause p _)
              · rfl
          · rfl
  · simp [Work.invalidFrame]

/-- A byte that completes a frame makes at most one rule and leaves the receiver outside a frame. -/
theorem State.vehicleByte_completes (p : PosId) (s : State) (b : Byte) (h : bytesToVehicleFrame (s.pos p).rx ≤ 1) :
    s.Ruled (s.vehicleByte p b) ∧ ((s.vehicleByte p b).pos p).rx = none := by
  unfold State.vehicleByte
  cases hr : (s.pos p).rx with
  | none => rw [hr, bytesToVehicleFrame] at h; omega
  | some f =>
    rw [hr, bytesToVehicleFrame] at h
    have long : ¬ (f.bytes ++ [b]).length < 9 := by simp; omega
    have outside : ((s.setRx p none).pos p).rx = none := by simp [State.setRx_pos]
    dsimp only
    rw [if_neg long]
    split
    · refine ⟨.before (s.still_setRx p none) (State.rule_ruled _ _ (State.offLink_begin _).takeVehicle), ?_⟩
      unfold State.rule
      rw [Work.close_pos, Work.takeVehicle_rx]
      exact outside
    · exact ⟨(s.still_setRx p none).ruled, outside⟩

theorem State.vehicleByte_ruled (p : PosId) (s : State) (b : Byte) : s.Ruled (s.vehicleByte p b) := by
  by_cases h : 1 < bytesToVehicleFrame (s.pos p).rx
  · exact (s.vehicleByte_waits p b h).1.ruled
  · exact (s.vehicleByte_completes p b (by omega)).1

/-- Fewer bytes than a frame lacks make no rule. -/
theorem State.vehicleBytes_still (p : PosId) (bytes : List Byte) (s : State)
    (h : bytes.length < bytesToVehicleFrame (s.pos p).rx) : s.Still (bytes.foldl (State.vehicleByte p) s) := by
  induction bytes generalizing s with
  | nil => exact .refl s
  | cons b bs ih =>
    rw [List.length_cons] at h
    obtain ⟨still, lacks⟩ := s.vehicleByte_waits p b (by omega)
    exact still.trans (ih _ (by omega))

/-- Bytes no longer than one frame complete one frame at most. -/
theorem State.vehicleBytes_ruled (p : PosId) (bytes : List Byte) (s : State) (h : bytes.length ≤ 10) :
    s.Ruled (bytes.foldl (State.vehicleByte p) s) := by
  induction bytes generalizing s with
  | nil => exact (State.Still.refl s).ruled
  | cons b bs ih =>
    rw [List.length_cons] at h
    by_cases more : 1 < bytesToVehicleFrame (s.pos p).rx
    · exact .before (s.vehicleByte_waits p b more).1 (ih _ (by omega))
    · obtain ⟨ruled, rx⟩ := s.vehicleByte_completes p b (by omega)
      exact ruled.after (State.vehicleBytes_still p bs _ (by rw [rx, bytesToVehicleFrame]; omega))

end Sys2Proof.Machine
end

section
/-! The obligations about route frames, the law of the link and the error record, and the lines that record a level
only. -/
open Sys2Proof Sys2Proof.Machine
namespace Sys2Proof.Machine

/-! ### Commands that only route the link -/

/-- But for a sample and a silence expiry, a command of one rule at most is `State.Ruled`. -/
theorem exec_ruled {c : Instr} {s t : State} (hc : OnlyRoutesTheLink c = true) (e : exec c s = .next t) :
    s.Ruled t := by
  have start := s.offLink_begin
  have port : ∀ r, s.Ruled (portRequest r s) := fun r => portRequest_ruled r s
  have written : ∀ {x : State}, x.link = s.link → x.port = s.port → x.positions = s.positions → x.comps = s.comps →
      s.Ruled x := fun l p q k => (State.Still.of_eq l p q k).ruled
  cases c with
  | sampleFrame => cases hc
  | silenceTimerExpiry => cases hc
  | routeFrameComplete => cases hc
  | masterReset => cases hc
  | coupledArrival p =>
    cases e
    refine s.rule_ruled _ ?_
    dsimp only
    split
    · exact start.modStation.couple
    · exact start.modStation
  | uncoupledArrival p => cases e; exact s.rule_ruled _ start.modStation.endFill
  | seatedArrival p =>
    cases e
    refine s.rule_ruled _ ?_
    dsimp only
    split
    · exact start.modStation.modPos
    · exact start.modStation
  | liftArrival p => cases e; exact written rfl rfl rfl rfl
  | meterPulse p m => cases e; exact s.rule_ruled _ start.meterPulse
  | vehicleFrame p bytes => cases e; exact State.vehicleBytes_ruled p bytes s (of_decide_eq_true hc)
  | faultActive k => cases e; exact s.rule_ruled _ start.modStation.faultComp
  | faultInactive k => cases e; exact written rfl rfl rfl rfl
  | esdAsserted =>
    cases e
    refine s.rule_ruled _ ?_
    dsimp only
    split
    · exact start.modStation.raise.haltAll
    · exact start.modStation.raise
  | esdReleased => cases e; exact written rfl rfl rfl rfl
  | clockSecond => cases e; exact written rfl rfl rfl rfl
  | leakWindowExpiry b =>
    cases e
    split
    · exact written rfl rfl rfl rfl
    · exact written rfl rfl rfl rfl
  | yieldWaitExpiry p => cases e; exact s.ruleIf_ruled _ _ start.yieldWaitExpiry
  | startTimerExpiry k => cases e; exact s.ruleIf_ruled _ _ start.startExpiry
  | unloadTimerExpiry k => cases e; exact s.ruleIf_ruled _ _ start.modComp.oweEval
  | precoolTick l => cases e; exact s.ruleIf_ruled _ _ start.precoolTick
  | rampTick p => cases e; exact s.ruleIf_ruled _ _ start.rampTick
  | connectTimeout p => cases e; exact s.ruleIf_ruled _ _ start.undoAuthorise.raise
  | coolingTimeout p => cases e; exact s.ruleIf_ruled _ _ start.endFill
  | bankWaitTimeout p => cases e; exact s.ruleIf_ruled _ _ start.endFill
  | pulseTimerExpiry p => cases e; exact s.ruleIf_ruled _ _ start.endPulse
  | checkWindowExpiry p => cases e; exact s.ruleIf_ruled _ _ start.checkExpiry
  | heldTimerExpiry p => cases e; exact s.ruleIf_ruled _ _ start.endFill
  | ventTimerExpiry p => cases e; exact s.ruleIf_ruled _ _ start.ventExpiry
  | freshnessExpiry p => cases e; exact s.ruleIf_ruled _ _ start.freshnessExpiry
  | deferralExpiry p =>
    cases e
    refine s.ruleIf_ruled _ _ ?_
    dsimp only
    split
    · exact start.modPos.evolves (Work.evolves_applyFallback _ p)
    · exact start.modPos
  | stallTimerExpiry p => cases e; exact s.ruleIf_ruled _ _ start.modPos.endFill
  | summaryTransfer n extra served =>
    cases e
    split
    · exact written rfl rfl rfl rfl
    · exact written rfl rfl rfl rfl
  | noop poll =>
    cases e
    cases poll with
    | silent served => exact (portShort_still _ _ _ s).ruled
    | oneByte b served => exact (portShort_still _ _ _ s).ruled
    | header cls num field tail => exact port _
  | failedTransfer x => cases e; exact portBits_ruled x s
  | _ => cases e; exact port _

/-! ### Samples and silence -/

/-- The route frames of `t` are those of `s` after at most one rule (01, R10; log 19). -/
structure State.Framed (s t : State) : Prop where
  sending : t.link.sending = (s.link.routed s.routes t.routes).sending
  waiting : t.link.waiting = (s.link.routed s.routes t.routes).waiting

theorem State.Ruled.framed {s t : State} (h : s.Ruled t) : s.Framed t := ⟨by rw [h.link], by rw [h.link]⟩

/-- A new route frame depends on the link's frames alone. -/
theorem FieldLink.routed_congr {f g : FieldLink} (hs : f.sending = g.sending) (hw : f.waiting = g.waiting)
    (old new : RouteRecord) : (f.routed old new).sending = (g.routed old new).sending ∧
      (f.routed old new).waiting = (g.routed old new).waiting := by
  unfold FieldLink.routed FieldLink.pushRoutes
  rw [← hs]
  split
  · exact ⟨hs, hw⟩
  · split
    · exact ⟨rfl, hw⟩
    · exact ⟨rfl, rfl⟩

theorem State.Framed.before {s t u : State} (hs : t.link.sending = s.link.sending)
    (hw : t.link.waiting = s.link.waiting) (hr : t.routes = s.routes) (h : t.Framed u) : s.Framed u := by
  obtain ⟨sends, waits⟩ := FieldLink.routed_congr hs hw s.routes u.routes
  exact ⟨by rw [h.sending, hr, sends], by rw [h.waiting, hr, waits]⟩

theorem State.Framed.after {s t u : State} (h : s.Framed t) (hs : u.link.sending = t.link.sending)
    (hw : u.link.waiting = t.link.waiting) (hr : u.routes = t.routes) : s.Framed u :=
  ⟨by rw [hs, hr, h.sending], by rw [hw, hr, h.waiting]⟩

theorem State.Framed.refl (s : State) : s.Framed s := (State.Still.refl s).ruled.framed

@[simp] theorem FieldLink.setChan_sending (f : FieldLink) (c : Channel) (x : ChannelState) :
    (f.setChan c x).sending = f.sending := by cases c <;> rfl
@[simp] theorem FieldLink.setChan_waiting (f : FieldLink) (c : Channel) (x : ChannelState) :
    (f.setChan c x).waiting = f.waiting := by cases c <;> rfl
@[simp] theorem FieldLink.setChan_rx (f : FieldLink) (c : Channel) (x : ChannelState) :
    (f.setChan c x).rx = f.rx := by cases c <;> rfl

/-- What the interface keeps of each channel after one is replaced. -/
theorem FieldLink.chan_setChan (f : FieldLink) (c d : Channel) (x : ChannelState) :
    (f.setChan c x).chan d = if d = c then x else f.chan d := by
  cases c <;> cases d <;> simp [FieldLink.setChan, FieldLink.chan, get_set_eq]

/-- `t` is `s` after a rule that judged channel `c` to be `x`: the owner's part leaves the rest of the link. -/
structure State.Judged (s t : State) (c : Channel) (x : ChannelState) : Prop where
  link : t.link = (s.link.setChan c x).routed s.routes t.routes
  errors : s.ErrorsAgree → t.ErrorsAgree

/-- A rule that replaces a channel and then goes on off the link. -/
theorem State.judged_close {s : State} {c : Channel} {x : ChannelState} {w : Work}
    (h : State.OffLink { s with link := s.link.setChan c x } w.toState) : s.Judged (w.close s) c x where
  link := by rw [Work.close_link, h.link]
  errors := fun e => Work.close_errors s (h.errors e)

theorem State.Judged.framed {s t : State} {c : Channel} {x : ChannelState} (h : s.Judged t c x) : s.Framed t := by
  obtain ⟨sends, waits⟩ := FieldLink.routed_congr (f := s.link.setChan c x) (g := s.link) (by simp) (by simp)
    s.routes t.routes
  exact ⟨by rw [h.link, sends], by rw [h.link, waits]⟩

theorem State.Judged.chan {s t : State} {c : Channel} {x : ChannelState} (h : s.Judged t c x) (d : Channel) :
    t.link.chan d = if d = c then x else s.link.chan d := by
  rw [h.link, FieldLink.routed_chan, FieldLink.chan_setChan]

theorem State.Judged.rx {s t : State} {c : Channel} {x : ChannelState} (h : s.Judged t c x) :
    t.link.rx = s.link.rx := by
  rw [h.link, FieldLink.routed_rx, FieldLink.setChan_rx]

/-- A channel's silence timer runs exactly while it is GOOD (01, R8). -/
def ChannelState.Timed (x : ChannelState) : Prop := x.silence.isSome = true ↔ x.quality = .good

theorem ChannelState.good_timed (v : Int) : (ChannelState.good v).Timed := by
  simp [ChannelState.Timed, ChannelState.good]

theorem ChannelState.toBad_timed (x : ChannelState) : x.toBad.Timed := by
  simp [ChannelState.Timed, ChannelState.toBad]

theorem State.channelLost_judged (s : State) (c : Channel) :
    s.Judged (s.rule (Work.channelLost c)) c (s.link.chan c).toBad :=
  State.judged_close (State.OffLink.badReport (v := { s.begin with link := _ }) (.refl _))

theorem State.goodSample_judged (s : State) (f : Sample) (h : f.good = true ∧ plausible f.chan f.value = true) :
    s.Judged (s.rule (Work.takeSample f)) f.chan (ChannelState.good f.value) := by
  unfold State.rule Work.takeSample
  rw [if_pos h]
  exact State.judged_close (State.OffLink.deliver (v := { s.begin with link := _ }) (.refl _))

/-- A rule that does nothing changes nothing. -/
theorem State.rule_id {s : State} {f : Work → Work} (h : f s.begin = s.begin) : s.rule f = s := by
  unfold State.rule
  rw [h]
  exact if_pos rfl

/-- A sample judged BAD, by its quality or by its value, loses a GOOD channel and changes nothing on a BAD one
(01, R7). -/
theorem State.badSample_eq (s : State) (f : Sample) (h : ¬(f.good = true ∧ plausible f.chan f.value = true)) :
    s.rule (Work.takeSample f) =
      if (s.link.chan f.chan).quality = .good then s.rule (Work.channelLost f.chan) else s := by
  split
  · next good =>
    have goes : Work.takeSample f s.begin = Work.channelLost f.chan s.begin := by
      unfold Work.takeSample
      rw [if_neg h]
      exact if_pos good
    unfold State.rule
    rw [goes]
  · next bad =>
    refine State.rule_id ?_
    unfold Work.takeSample
    rw [if_neg h]
    exact if_neg bad

/-- A taken sample judges its channel, with its silence timer to match, or changes nothing (01, R7, R8). -/
theorem State.takeSample_cases (s : State) (f : Sample) :
    s.rule (Work.takeSample f) = s ∨ ∃ x : ChannelState, x.Timed ∧ s.Judged (s.rule (Work.takeSample f)) f.chan x := by
  by_cases h : f.good = true ∧ plausible f.chan f.value = true
  · exact .inr ⟨_, ChannelState.good_timed _, s.goodSample_judged f h⟩
  · rw [State.badSample_eq s f h]
    split
    · exact .inr ⟨_, ChannelState.toBad_timed _, s.channelLost_judged _⟩
    · exact .inl rfl

/-- What a byte at the sample receiver can do: change the frame in the making, and judge a channel (11, R182;
01, R6). -/
theorem State.sampleByte_cases (s : State) (b : Byte) : ∃ r : Option (List Byte),
    s.sampleByte b = { s with link.rx := r } ∨ ∃ (c : Channel) (x : ChannelState), x.Timed ∧
      State.Judged { s with link.rx := r } (s.sampleByte b) c x := by
  unfold State.sampleByte
  split
  · split
    · exact ⟨some [], .inl rfl⟩
    · exact ⟨s.link.rx, .inl rfl⟩
  · next buf _ =>
    dsimp only
    split
    · exact ⟨some (buf ++ [b]), .inl rfl⟩
    · refine ⟨none, ?_⟩
      split
      · exact .inl rfl
      · next f _ =>
        obtain same | ⟨x, timed, judged⟩ := State.takeSample_cases { s with link.rx := none } f
        · exact .inl same
        · exact .inr ⟨f.chan, x, timed, judged⟩

/-- Bytes that the sample receiver lacks to a whole frame, the marker counted outside a frame (11, R182). -/
def bytesToSampleFrame : Option (List Byte) → Nat
  | none => 7
  | some buf => 6 - buf.length

/-- A byte that does not complete a frame only lengthens it. -/
theorem State.sampleByte_waits (s : State) (b : Byte) (h : 1 < bytesToSampleFrame s.link.rx) :
    ∃ r : Option (List Byte), s.sampleByte b = { s with link.rx := r } ∧
      bytesToSampleFrame s.link.rx ≤ bytesToSampleFrame r + 1 := by
  unfold State.sampleByte
  cases hr : s.link.rx with
  | none =>
    dsimp only
    split
    · exact ⟨some [], rfl, by simp [bytesToSampleFrame]⟩
    · exact ⟨s.link.rx, rfl, by simp [hr]⟩
  | some buf =>
    rw [hr, bytesToSampleFrame] at h
    have short : (buf ++ [b]).length < 6 := by simp; omega
    dsimp only
    rw [if_pos short]
    refine ⟨_, rfl, ?_⟩
    simp only [bytesToSampleFrame, List.length_append, List.length_singleton]
    omega

/-- A byte that completes a frame leaves the receiver outside a frame. -/
theorem State.sampleByte_completes (s : State) (b : Byte) (h : bytesToSampleFrame s.link.rx ≤ 1) :
    (s.sampleByte b).link.rx = none := by
  unfold State.sampleByte
  cases hr : s.link.rx with
  | none => rw [hr, bytesToSampleFrame] at h; omega
  | some buf =>
    rw [hr, bytesToSampleFrame] at h
    have long : ¬ (buf ++ [b]).length < 6 := by simp; omega
    dsimp only
    rw [if_neg long]
    split
    · rfl
    · next f _ =>
      obtain same | ⟨x, _, judged⟩ := State.takeSample_cases { s with link.rx := none } f
      · rw [same]
      · exact judged.rx

theorem State.sampleByte_framed (s : State) (b : Byte) : s.Framed (s.sampleByte b) := by
  obtain ⟨r, same | ⟨c, x, _, judged⟩⟩ := s.sampleByte_cases b
  · rw [same]
    exact (State.Framed.refl s).after rfl rfl rfl
  · exact .before (t := { s with link.rx := r }) rfl rfl rfl judged.framed

/-- Fewer bytes than a frame lacks change the frame in the making alone. -/
theorem State.sampleBytes_wait (bytes : List Byte) (s : State) (h : bytes.length < bytesToSampleFrame s.link.rx) :
    ∃ r : Option (List Byte), bytes.foldl State.sampleByte s = { s with link.rx := r } := by
  induction bytes generalizing s with
  | nil => exact ⟨s.link.rx, rfl⟩
  | cons b bs ih =>
    rw [List.length_cons] at h
    obtain ⟨r, same, lacks⟩ := s.sampleByte_waits b (by omega)
    obtain ⟨q, rest⟩ := ih { s with link.rx := r } (by show bs.length < bytesToSampleFrame r; omega)
    exact ⟨q, by rw [List.foldl_cons, same, rest]⟩

/-- Bytes no longer than one frame complete one frame at most. -/
theorem State.sampleBytes_framed (bytes : List Byte) (s : State) (h : bytes.length ≤ 7) :
    s.Framed (bytes.foldl State.sampleByte s) := by
  induction bytes generalizing s with
  | nil => exact .refl s
  | cons b bs ih =>
    rw [List.length_cons] at h
    rw [List.foldl_cons]
    by_cases more : 1 < bytesToSampleFrame s.link.rx
    · obtain ⟨r, same, _⟩ := s.sampleByte_waits b more
      rw [same]
      exact .before (t := { s with link.rx := r }) rfl rfl rfl (ih _ (by omega))
    · have rx := s.sampleByte_completes b (by omega)
      obtain ⟨r, rest⟩ := State.sampleBytes_wait bs (s.sampleByte b) (by rw [rx, bytesToSampleFrame]; omega)
      rw [rest]
      exact (s.sampleByte_framed b).after rfl rfl rfl

/-- A command of one rule at most makes at most one route frame (01, R10). -/
theorem exec_framed {c : Instr} {s t : State} (hc : OneRule c = true) (e : exec c s = .next t) : s.Framed t := by
  by_cases only : OnlyRoutesTheLink c = true
  · exact (exec_ruled only e).framed
  · cases c with
    | sampleFrame bytes =>
      cases e
      exact State.sampleBytes_framed bytes s (of_decide_eq_true hc)
    | silenceTimerExpiry c =>
      cases e
      split
      · exact (s.channelLost_judged c).framed
      · exact .refl s
    | _ => exact absurd hc only

/-! ### The laws of the link and of the error record -/

/-- The laws of O57 pass from `s` to `t` (01, R8, R10; 09, R165). -/
structure State.KeepsLaws (s t : State) : Prop where
  silence : s.SilenceRuns → t.SilenceRuns
  frames : s.FramesInOrder → t.FramesInOrder
  errors : s.ErrorsAgree → t.ErrorsAgree

theorem State.KeepsLaws.refl (s : State) : s.KeepsLaws s := ⟨id, id, id⟩

theorem State.KeepsLaws.trans {a b c : State} (h : a.KeepsLaws b) (g : b.KeepsLaws c) : a.KeepsLaws c :=
  ⟨fun x => g.silence (h.silence x), fun x => g.frames (h.frames x), fun x => g.errors (h.errors x)⟩

/-- A new route frame waits only behind one being sent. -/
theorem State.Framed.keeps_order {s t : State} (h : s.Framed t) : s.FramesInOrder → t.FramesInOrder := by
  unfold State.FramesInOrder
  rw [h.sending, h.waiting]
  unfold FieldLink.routed FieldLink.pushRoutes
  intro order
  split
  · exact order
  · split
    · exact fun _ => rfl
    · next r sending => exact fun _ => by simp [sending]

theorem State.Ruled.keepsLaws {s t : State} (h : s.Ruled t) : s.KeepsLaws t where
  silence := fun runs c => by rw [h.link, FieldLink.routed_chan]; exact runs c
  frames := h.framed.keeps_order
  errors := h.errors

theorem State.Judged.keepsLaws {s t : State} {c : Channel} {x : ChannelState} (h : s.Judged t c x) (timed : x.Timed) :
    s.KeepsLaws t where
  silence := fun runs d => by
    rw [h.chan]
    split
    · exact timed
    · exact runs d
  frames := h.framed.keeps_order
  errors := h.errors

theorem State.sampleByte_keepsLaws (s : State) (b : Byte) : s.KeepsLaws (s.sampleByte b) := by
  have received : ∀ r, s.KeepsLaws { s with link.rx := r } := fun r =>
    ⟨fun runs c => by have timed := runs c; cases c <;> exact timed, id, id⟩
  obtain ⟨r, same | ⟨c, x, timed, judged⟩⟩ := s.sampleByte_cases b
  · rw [same]
    exact received r
  · exact (received r).trans (judged.keepsLaws timed)

/-- What each byte of a frame keeps, the frame keeps. -/
theorem State.KeepsLaws.foldl {f : State → Byte → State} (step : ∀ (s : State) b, s.KeepsLaws (f s b))
    (bytes : List Byte)
    (s : State) : s.KeepsLaws (bytes.foldl f s) := by
  induction bytes generalizing s with
  | nil => exact .refl s
  | cons b bs ih => exact (step s b).trans (ih _)

/-- A completed frame leaves the waiting one, if any, being sent, and none waiting (01, R10). -/
theorem routeFrameComplete_keepsLaws (s : State) :
    s.KeepsLaws { s with link := { s.link with sending := s.link.waiting, waiting := none } } where
  silence := fun runs c => by have timed := runs c; cases c <;> exact timed
  frames := fun _ h => by cases h
  errors := id

@[simp] theorem State.resetFault_link (k : CompId) (s : State) : (s.resetFault k).link = s.link := by
  unfold State.resetFault; split <;> rfl
@[simp] theorem State.resetFault_port (k : CompId) (s : State) : (s.resetFault k).port = s.port := by
  unfold State.resetFault; split <;> rfl

/-- A master reset leaves the link as it is after reset (10, R174). -/
theorem State.releaseReset_link (st : Straps) : (State.releaseReset st).link = FieldLink.reset := by
  unfold State.releaseReset
  simp only [State.resetFault_link]
  split <;> rfl

/-- A master reset leaves the port as it is after reset (10, R174). -/
theorem State.releaseReset_port (st : Straps) : (State.releaseReset st).port = State.reset.port := by
  unfold State.releaseReset
  simp only [State.resetFault_port]
  split <;> rfl

/-- After reset every channel is BAD with no silence timer (01, R8). -/
theorem FieldLink.reset_chan (c : Channel) : FieldLink.reset.chan c = ChannelState.reset := by
  cases c <;> simp [FieldLink.reset, FieldLink.chan, Vector.get]

theorem masterReset_keepsLaws (st : Straps) (s : State) :
    s.KeepsLaws { State.releaseReset st with pending := s.pending, freeIndex := s.freeIndex } := by
  refine ⟨fun _ c => ?_, fun _ => ?_, fun _ => ?_⟩
  · show ((State.releaseReset st).link.chan c).silence.isSome = true ↔
      ((State.releaseReset st).link.chan c).quality = .good
    rw [State.releaseReset_link, FieldLink.reset_chan]
    simp [ChannelState.reset]
  · show (State.releaseReset st).link.waiting.isSome = true → (State.releaseReset st).link.sending.isSome = true
    rw [State.releaseReset_link]
    exact fun _ => rfl
  · show ((State.releaseReset st).port.firstError.isSome = true ↔ 0 < (State.releaseReset st).port.errorCount) ∧
      (State.releaseReset st).port.errorCount ≤ 255
    rw [State.releaseReset_port]
    decide

/-- Every command keeps the laws of the link and of the error record. -/
theorem exec_keepsLaws {c : Instr} {s t : State} (e : exec c s = .next t) : s.KeepsLaws t := by
  by_cases only : OnlyRoutesTheLink c = true
  · exact (exec_ruled only e).keepsLaws
  · cases c with
    | sampleFrame bytes =>
      cases e
      exact .foldl State.sampleByte_keepsLaws bytes s
    | silenceTimerExpiry c =>
      cases e
      split
      · exact (s.channelLost_judged c).keepsLaws (ChannelState.toBad_timed _)
      · exact .refl s
    | routeFrameComplete =>
      cases e
      exact routeFrameComplete_keepsLaws s
    | masterReset st =>
      cases e
      exact masterReset_keepsLaws st s
    | vehicleFrame p bytes =>
      cases e
      exact .foldl (fun s b => (s.vehicleByte_ruled p b).keepsLaws) bytes s
    | _ => exact absurd rfl only

end Sys2Proof.Machine

/-- Settles O57: every command is at most one rule, which leaves the link but for a route frame, or it judges channels,
completes a frame or resets the part; each of these keeps the three laws. -/
theorem linkAndPortStayConsistent : Obligations.LinkAndPortStayConsistent := by
  unfold Obligations.LinkAndPortStayConsistent
  intro s t e
  have laws : s.KeepsLaws t := by
    unfold step at e
    split at e
    · cases e
      exact .refl s
    · next c rest _ =>
      have taken : s.KeepsLaws { s with pending := rest } := ⟨id, id, id⟩
      exact taken.trans (exec_keepsLaws e)
  exact ⟨laws.silence, laws.frames, laws.errors⟩

/-- Settles O6: the route frames follow `FieldLink.routed`, read case by case. -/
theorem routeFramesFollowTheRouteRecord : Obligations.RouteFramesFollowTheRouteRecord := by
  unfold Obligations.RouteFramesFollowTheRouteRecord
  refine ⟨fun c s t one e => ?_, fun s => rfl⟩
  have framed := exec_framed one e
  refine ⟨fun same => ?_, fun new idle => ?_, fun new busy => ?_, fun only => ?_⟩
  · rw [framed.sending, framed.waiting, same, FieldLink.routed_same]
    exact ⟨rfl, rfl⟩
  · rw [framed.sending, framed.waiting, FieldLink.routed, if_neg new, FieldLink.pushRoutes, idle]
    exact ⟨rfl, rfl⟩
  · obtain ⟨r, sending⟩ := Option.isSome_iff_exists.mp busy
    rw [framed.sending, framed.waiting, FieldLink.routed, if_neg new, FieldLink.pushRoutes, sending]
    exact ⟨rfl, rfl⟩
  · rw [(exec_ruled only e).link]
    exact FieldLink.routed_frames _ _ _

/-- Settles O7: each command writes its one field; the clock counts modulo 2 to the 32. -/
theorem clockAndReleasedLinesRecordOnly : Obligations.ClockAndReleasedLinesRecordOnly := by
  unfold Obligations.ClockAndReleasedLinesRecordOnly
  refine ⟨fun s => ?_, fun s => rfl, fun k s => rfl, fun p s => rfl⟩
  have counts : s.station.clock + 1 =
      BitVec.ofNat 32 (if s.station.clock.toNat = 4294967295 then 0 else s.station.clock.toNat + 1) := by
    apply BitVec.eq_of_toNat_eq
    rw [BitVec.toNat_add, BitVec.toNat_ofNat]
    split
    · next last => rw [last]; rfl
    · rfl
  rw [← counts]
  rfl
end

section
/-! SUPPORT. A served transfer of the record port, judged: how it names its record, a SET of one field, a verb, a
refusal (09, R162 to R165, R167). -/
namespace Sys2Proof.Machine

/-! ### Which record -/

theorem recordOf_codes (ref : RecordRef) : recordOf ref.codes.1 ref.codes.2 = some ref := by
  cases ref with
  | station => rfl
  | bank b => exact dif_pos b.isLt
  | comp k => exact dif_pos k.isLt
  | loop l => exact dif_pos l.isLt
  | position p => exact dif_pos p.isLt
  | hold h => exact dif_pos h.isLt
  | tariff n => exact dif_pos n.isLt
  | table n => exact dif_pos n.isLt
  | notice => rfl

/-- A row's transfer names the record its address says (09, R159, R167). -/
theorem addrRequest_resolve {a : Addr} {ref : RecordRef} {window : Option RecordRef} (h : a.Names ref window)
    {cls : BitVec 4} (hc : cls.toNat = ref.codes.1) (op : BitVec 4) (field : Byte) (tail : Tail) :
    (addrRequest a op cls field tail).resolve window = .ok ref := by
  have other : cls ≠ 9 := by
    rintro rfl
    cases ref <;> simp [RecordRef.codes] at hc
  unfold Addr.Names at h
  unfold Request.resolve addrRequest
  dsimp only
  by_cases hw : a.window = true
  · rw [if_pos hw] at h
    rw [if_pos hw, if_pos rfl, h]
  · rw [if_neg hw] at h
    rw [if_neg hw, if_neg other, hc, h, recordOf_codes]

/-! ### A judged transfer -/

/-- `s` with a transfer's answer on the port's lines. -/
def State.heard (s : State) (r : Request) : State := { s with hostOut := s.reads r }

/-- A served transfer that is no poll is judged on the state with its answer (09, R164, R165). -/
theorem portRequest_judged {r : Request} {s : State} (served : r.tail.served = true) (hop : r.op ≠ 0) :
    portRequest r s = (judge r (s.heard r)).2.recordResult (judge r (s.heard r)).1 := by
  unfold portRequest
  rw [if_neg (by simp [served])]
  dsimp only
  rw [if_neg (fun poll => hop poll.1)]
  rfl

/-- A refusal writes nothing but the port's own fields and N1 (09, R165). -/
theorem State.heard_refused {s : State} {r : Request} {x : Result} (h : x ≠ .ok) :
    (s.heard r).recordResult x = s.refusedWith r x := by
  unfold State.recordResult Port.record
  rw [if_neg h, if_neg h]
  rfl

/-- A result of OK is recorded, and nothing else. -/
theorem State.recordResult_ok (s : State) : s.recordResult .ok = { s with port.lastResult := .ok } := rfl

/-- A rule that owes nothing at its end and keeps the route record ends as it stands. -/
theorem Work.close_quiet {w : Work} {s0 : State} (hs : w.serveDue = false) (he : w.evalDue = false)
    (hr : w.routes = s0.routes) : w.close s0 = w.toState := by
  have same : w.wound = w := by
    unfold Work.wound
    simp [hs, he]
  rw [Work.close_eq, same, if_pos hr]

/-! ### SET of one field -/

/-- Data as wide as one field covers it whole (09, R162). -/
theorem coverFields_single {data : List Byte} (h : data ≠ []) (ws : List Nat) (field : Nat) :
    coverFields (data.length :: ws) field data = some [(field, leValue data)] := by
  cases data with
  | nil => exact absurd rfl h
  | cons b bs => simp [coverFields]

/-- One field of a SET is written if its owner's checks pass (09, R162). -/
theorem State.setAll_single (ref : RecordRef) (vals : List (Nat × Nat)) (field v : Nat) (s : State) :
    Work.setAll ref vals [(field, v)] s.begin = (fieldFails ref vals field v s,
      if (fieldFails ref vals field v s).isEmpty then s.begin.writeField ref field v else s.begin) :=
  congrArg (·, _) (List.append_nil _)

/-- A SET of one whole field: it is written if its owner's checks pass, else the transfer fails with the first of them
(09, R162, R164). -/
theorem judge_setField {r : Request} {s : State} {ref : RecordRef} {n : Nat} (hop : r.op = 2) (hw : r.tail.Whole n)
    (hn : 0 < n) (href : r.resolve s.port.window = .ok ref) (hf : ref.widths[r.field.toNat]? = some n) :
    judge r s =
      let v := leValue r.tail.data
      let fails := fieldFails ref [(r.field.toNat, v)] r.field.toNat v s
      if fails.isEmpty then (.ok, (s.begin.writeField ref r.field.toNat v).close s) else (firstFault fails, s) := by
  obtain ⟨_, extra, count, length⟩ := hw
  obtain ⟨inside, width⟩ := List.getElem?_eq_some_iff.mp hf
  have data : r.tail.data ≠ [] := by
    intro e
    rw [e, List.length_nil] at length
    omega
  have cover : coverFields (ref.widths.drop r.field.toNat) r.field.toNat r.tail.data =
      some [(r.field.toNat, leValue r.tail.data)] := by
    rw [List.drop_eq_getElem_cons inside, width, ← length]
    exact coverFields_single data _ _
  have within : ¬ ref.fieldCount ≤ r.field.toNat := by
    unfold RecordRef.fieldCount
    omega
  have fits : r.lengthOk s.port.window = true := by
    have some : r.tail.count ≠ 0 := by
      intro e
      simp [e] at count
      omega
    unfold Request.lengthOk
    simp [hop, href, cover, length, count]
    omega
  unfold judge
  rw [if_neg (by simp [extra]), if_neg (by simp [fits]), href]
  simp only [hop]
  show judgeSet r ref s = _
  unfold judgeSet
  rw [if_neg within, cover]
  simp only [Option.getD_some, State.setAll_single]
  by_cases passed :
      (fieldFails ref [(r.field.toNat, leValue r.tail.data)] r.field.toNat (leValue r.tail.data) s).isEmpty = true
  · rw [if_pos passed, if_pos passed, if_pos passed]
  · rw [if_neg passed, if_neg passed]

/-- A taken SET of one field. -/
theorem portRequest_setField_taken {r : Request} {s : State} {ref : RecordRef} {n : Nat} (hop : r.op = 2)
    (hw : r.tail.Whole n) (hn : 0 < n) (href : r.resolve s.port.window = .ok ref)
    (hf : ref.widths[r.field.toNat]? = some n)
    (hc : fieldFails ref [(r.field.toNat, leValue r.tail.data)] r.field.toNat (leValue r.tail.data) (s.heard r) = []) :
    portRequest r s =
      (((s.heard r).begin.writeField ref r.field.toNat (leValue r.tail.data)).close (s.heard r)).recordResult .ok := by
  rw [portRequest_judged hw.1 (by simp [hop]), judge_setField hop hw hn (s := s.heard r) href hf]
  simp [hc]

/-- A taken SET of one field whose owner owes nothing at the rule's end and keeps the route record. -/
theorem portRequest_setField_plain {r : Request} {s : State} {ref : RecordRef} {n : Nat} {w : Work} (hop : r.op = 2)
    (hw : r.tail.Whole n) (hn : 0 < n) (href : r.resolve s.port.window = .ok ref)
    (hf : ref.widths[r.field.toNat]? = some n)
    (hc : fieldFails ref [(r.field.toNat, leValue r.tail.data)] r.field.toNat (leValue r.tail.data) (s.heard r) = [])
    (write : (s.heard r).begin.writeField ref r.field.toNat (leValue r.tail.data) = w) (hs : w.serveDue = false)
    (he : w.evalDue = false) (hr : w.routes = (s.heard r).routes) :
    portRequest r s = { w.toState with port.lastResult := .ok } := by
  rw [portRequest_setField_taken hop hw hn href hf hc, write, Work.close_quiet hs he hr, State.recordResult_ok]

/-- A refused SET of one field. -/
theorem portRequest_setField_refused {r : Request} {s : State} {ref : RecordRef} {n : Nat} {x : Result} (hop : r.op = 2)
    (hw : r.tail.Whole n) (hn : 0 < n) (href : r.resolve s.port.window = .ok ref)
    (hf : ref.widths[r.field.toNat]? = some n)
    (hc : firstFault (fieldFails ref [(r.field.toNat, leValue r.tail.data)] r.field.toNat (leValue r.tail.data)
      (s.heard r)) = x) (hx : x ≠ .ok) : portRequest r s = s.refusedWith r x := by
  have failed : ¬ (fieldFails ref [(r.field.toNat, leValue r.tail.data)] r.field.toNat (leValue r.tail.data)
      (s.heard r)).isEmpty = true := by
    intro none
    rw [List.isEmpty_iff] at none
    rw [none] at hc
    exact hx hc.symm
  rw [portRequest_judged hw.1 (by simp [hop]), judge_setField hop hw hn (s := s.heard r) href hf]
  dsimp only
  rw [if_neg failed, hc]
  exact State.heard_refused hx

/-! ### Verbs -/

/-- A verb of the record it names: done if its checks pass (09, R163, R164). -/
theorem judge_verb {r : Request} {s : State} {ref : RecordRef} {v : Verb} (hop : r.op = 3)
    (hw : r.tail.Whole v.argLength) (href : r.resolve s.port.window = .ok ref)
    (hv : verbOf ref r.field.toNat = some v) :
    judge r s = settleTransfer (verbFails v r.tail.data s) (Work.verbApply v r.tail.data) s := by
  obtain ⟨_, extra, count, length⟩ := hw
  have fits : r.lengthOk s.port.window = true := by
    unfold Request.lengthOk
    simp [hop, href, hv, length, count]
  unfold judge
  rw [if_neg (by simp [extra]), if_neg (by simp [fits]), href]
  simp only [hop]
  show judgeAct r ref s = _
  unfold judgeAct
  rw [hv]

/-- A taken verb is one rule on the state with its answer. -/
theorem portRequest_verb_taken {r : Request} {s : State} {ref : RecordRef} {v : Verb} (hop : r.op = 3)
    (hw : r.tail.Whole v.argLength) (href : r.resolve s.port.window = .ok ref)
    (hv : verbOf ref r.field.toNat = some v) (hc : verbFails v r.tail.data (s.heard r) = []) :
    portRequest r s = ((s.heard r).rule (Work.verbApply v r.tail.data)).recordResult .ok := by
  rw [portRequest_judged hw.1 (by simp [hop]), judge_verb hop hw (s := s.heard r) href hv, hc]
  rfl

end Sys2Proof.Machine
end

section
/-! The writes of the station record (01, R1 to R3; 02, R35; 09, R166). -/
open Sys2Proof Sys2Proof.Machine
namespace Sys2Proof.Machine

/-! ### Writes that owe nothing at the rule's end -/

theorem inRange_within {lo hi n : Nat} (hlo : lo ≤ n) (hhi : n ≤ hi) : inRange lo hi n = [] := by
  simp [inRange, orFail, hlo, hhi]

theorem inRange_outside {lo hi n : Nat} (h : n < lo ∨ hi < n) : inRange lo hi n = [.range] := by
  unfold inRange orFail
  rw [if_neg]
  simp only [Bool.and_eq_true, decide_eq_true_eq]
  omega

theorem firstFault_range : firstFault [.range] = .range := rfl

/-- A station field with a range, its number, bounds and effect (01, R3). -/
structure StationField (field lo hi : Nat) (f : Nat → Station → Station) : Prop where
  fails : ∀ n, stationFails field n = inRange lo hi n
  write : ∀ n (w : Work), w.stationWrite field n = w.modStation (f n)

/-- A SET of one ranged station field: outside its range RANGE, inside it the one field is written (01, R3). -/
theorem portRequest_stationField {r : Request} {s : State} {width lo hi : Nat} {f : Nat → Station → Station}
    (hop : r.op = 2) (hw : r.tail.Whole width) (hn : 0 < width)
    (href : r.resolve s.port.window = .ok .station) (hf : RecordRef.station.widths[r.field.toNat]? = some width)
    (field : StationField r.field.toNat lo hi f) :
    (leValue r.tail.data < lo ∨ hi < leValue r.tail.data → portRequest r s = s.refusedWith r .range) ∧
    (lo ≤ leValue r.tail.data → leValue r.tail.data ≤ hi →
      portRequest r s = { s.answered r with station := f (leValue r.tail.data) s.station }) := by
  refine ⟨fun out => ?_, fun above below => ?_⟩
  · refine portRequest_setField_refused hop hw hn href hf ?_ (by decide)
    show firstFault (stationFails _ _) = _
    rw [field.fails, inRange_outside out, firstFault_range]
  · exact portRequest_setField_plain hop hw hn href hf
      (show stationFails _ _ = [] by rw [field.fails, inRange_within above below]) (field.write _ _) rfl rfl rfl

/-! ### Each write -/

/-- The request of a SET of a station field by its own number. -/
def stationSet (field : Byte) (tail : Tail) : Request := { op := 2, cls := 0, num := 0, field := field, tail := tail }

/-- SETs of the seven ranged fields that have no row of their own (01, R3). -/
theorem stationSet_field {field : Byte} {tail : Tail} {s : State} {width lo hi n : Nat} {f : Nat → Station → Station}
    (hw : tail.Whole width) (hn : n = leValue tail.data) (pos : 0 < width)
    (hf : RecordRef.station.widths[field.toNat]? = some width) (ranged : StationField field.toNat lo hi f) :
    (n < lo ∨ hi < n → exec (.setFields 0 0 field tail) s = .next (s.refusedWith (stationSet field tail) .range)) ∧
    (lo ≤ n → n ≤ hi →
      exec (.setFields 0 0 field tail) s = .next { s.answered (stationSet field tail) with
        station := f n s.station }) := by
  subst hn
  obtain ⟨out, within⟩ := portRequest_stationField (s := s) (r := stationSet field tail) rfl hw pos rfl hf ranged
  exact ⟨fun h => congrArg _ (out h), fun hlo hhi => congrArg _ (within hlo hhi)⟩

theorem clockWrite_taken {a : Addr} {tail : Tail} {s : State} (ha : a.Names .station s.port.window)
    (hw : tail.Whole 4) : exec (.clockWrite a tail) s = .next { s.answered (addrRequest a 2 0 0 tail) with
      station := { s.station with clock := BitVec.ofNat 32 (leValue tail.data) } } := by
  exact congrArg Host.Outcome.next (portRequest_setField_plain (r := addrRequest a 2 0 0 tail) rfl hw (by decide)
    (addrRequest_resolve ha rfl 2 0 tail) rfl rfl rfl rfl rfl rfl)

/-- A new margin renews every need level of the wait list (02, R35). -/
theorem Work.marginWrite_eq {n : Nat} {w : Work} (h : ∀ e ∈ w.waitList, (w.pos e.pos).ses.hose.isSome = true) :
    w.marginWrite n = { w with
      station := { w.station with switchMargin := n },
      waitList := w.waitList.map (fun e => { e with need := (w.pos e.pos).ses.hose.getD 0 + n }) } := by
  have needs : w.waitList.map (fun e => { e with need := (w.pos e.pos).ses.hose.getD 0 + n }) =
      w.waitList.map (fun e => { e with need := (w.pos e.pos).ses.hose.getD Config.absentPressure + n }) := by
    refine List.map_congr_left fun e he => ?_
    obtain ⟨v, hose⟩ := Option.isSome_iff_exists.mp (h e he)
    rw [hose]
    rfl
  rw [needs]
  rfl

theorem switchMarginWrite_cases {a : Addr} {tail : Tail} {s : State} {n : Nat} (ha : a.Names .station s.port.window)
    (hw : tail.Whole 2) (hn : n = leValue tail.data) :
    (n < 50 ∨ 1000 < n →
      exec (.switchMarginWrite a tail) s = .next (s.refusedWith (addrRequest a 2 0 8 tail) .range)) ∧
    (50 ≤ n → n ≤ 1000 → (∀ e ∈ s.waitList, (s.pos e.pos).ses.hose.isSome = true) →
      exec (.switchMarginWrite a tail) s = .next { s.answered (addrRequest a 2 0 8 tail) with
        station := { s.station with switchMargin := n },
        waitList := s.waitList.map (fun e => { e with need := (s.pos e.pos).ses.hose.getD 0 + n }) }) := by
  subst hn
  have ref := addrRequest_resolve ha (cls := 0) rfl 2 8 tail
  refine ⟨fun out => congrArg Host.Outcome.next ?_, fun above below hoses => congrArg Host.Outcome.next ?_⟩
  · refine portRequest_setField_refused rfl hw (by decide) ref rfl ?_ (by decide)
    exact (congrArg firstFault (inRange_outside out)).trans firstFault_range
  · exact portRequest_setField_plain (r := addrRequest a 2 0 8 tail) rfl hw (by decide) ref rfl
      (inRange_within above below) (Work.marginWrite_eq hoses) rfl rfl rfl

theorem errorCountClear_cases {a : Addr} {tail : Tail} {s : State} (ha : a.Names .station s.port.window)
    (hw : tail.Whole 1) :
    (leValue tail.data = 0 → exec (.errorCountClear a tail) s = .next { s.answered (addrRequest a 2 0 21 tail) with
      port := { s.port with lastResult := .ok, errorCount := 0, firstError := none } }) ∧
    (leValue tail.data ≠ 0 →
      exec (.errorCountClear a tail) s = .next (s.refusedWith (addrRequest a 2 0 21 tail) .range)) := by
  have ref := addrRequest_resolve ha (cls := 0) rfl 2 21 tail
  refine ⟨fun zero => congrArg Host.Outcome.next ?_, fun other => congrArg Host.Outcome.next ?_⟩
  · exact portRequest_setField_plain (r := addrRequest a 2 0 21 tail) rfl hw (by decide) ref rfl
      (inRange_within (Nat.zero_le _) (le_of_eq zero)) rfl rfl rfl rfl
  · refine portRequest_setField_refused rfl hw (by decide) ref rfl ?_ (by decide)
    exact (congrArg firstFault (inRange_outside (.inr (Nat.pos_of_ne_zero other)))).trans firstFault_range

end Sys2Proof.Machine

/-- Settles O48: each write is a SET of one field, judged against its range. -/
theorem stationWrites : Obligations.StationWrites := by
  unfold Obligations.StationWrites
  intro a tail s names
  refine ⟨fun n hw hn => hn ▸ clockWrite_taken names hw, fun n hw hn => switchMarginWrite_cases names hw hn,
    fun field lo hi n st hw hn which => ?_, fun field lo hi n st hw hn which => ?_,
    fun hw => errorCountClear_cases names hw⟩
  · obtain ⟨rfl, rfl, rfl, rfl⟩ | ⟨rfl, rfl, rfl, rfl⟩ | ⟨rfl, rfl, rfl, rfl⟩ | ⟨rfl, rfl, rfl, rfl⟩ |
      ⟨rfl, rfl, rfl, rfl⟩ := which
    · exact stationSet_field (f := fun n x => { x with suctionMin := n }) hw hn (by decide) rfl
        ⟨fun _ => rfl, fun _ _ => rfl⟩
    · exact stationSet_field (f := fun n x => { x with leakAllowance := n }) hw hn (by decide) rfl
        ⟨fun _ => rfl, fun _ _ => rfl⟩
    · exact stationSet_field (f := fun n x => { x with leakWindow := n }) hw hn (by decide) rfl
        ⟨fun _ => rfl, fun _ _ => rfl⟩
    · exact stationSet_field (f := fun n x => { x with taperMass := n }) hw hn (by decide) rfl
        ⟨fun _ => rfl, fun _ _ => rfl⟩
    · exact stationSet_field (f := fun n x => { x with graceMass := n }) hw hn (by decide) rfl
        ⟨fun _ => rfl, fun _ _ => rfl⟩
  · obtain ⟨rfl, rfl, rfl, rfl⟩ | ⟨rfl, rfl, rfl, rfl⟩ := which
    · exact stationSet_field (f := fun n x => { x with stallWindow := n }) hw hn (by decide) rfl
        ⟨fun _ => rfl, fun _ _ => rfl⟩
    · exact stationSet_field (f := fun n x => { x with deferralLimit := n }) hw hn (by decide) rfl
        ⟨fun _ => rfl, fun _ _ => rfl⟩
end

section
/-! SUPPORT. What a sample or a BAD report leaves: settings, holds and port, the readings of the other channels; and
O4. -/
open Sys2Proof Sys2Proof.Machine
namespace Sys2Proof.Machine

/-! ### Settings and readings that stand -/

theorem State.SameSettings.refl (s : State) : s.SameSettings s :=
  ⟨rfl, rfl, rfl, rfl, rfl, fun _ => rfl, fun _ => ⟨rfl, rfl, rfl, rfl, rfl⟩, fun _ => ⟨rfl, rfl, rfl, rfl, rfl⟩,
    fun _ => ⟨rfl, rfl, rfl, rfl, rfl⟩⟩

theorem State.SameSettings.trans {a b c : State} (h : a.SameSettings b) (g : b.SameSettings c) : a.SameSettings c := by
  obtain ⟨h1, h2, h3, h4, h5, hp, hb, hk, hl⟩ := h
  obtain ⟨g1, g2, g3, g4, g5, gp, gb, gk, gl⟩ := g
  exact ⟨g1.trans h1, g2.trans h2, g3.trans h3, g4.trans h4, g5.trans h5, fun p => (gp p).trans (hp p),
    fun b => by simp only [gb b, hb b, and_self], fun k => by simp only [gk k, hk k, and_self],
    fun l => by simp only [gl l, hl l, and_self]⟩

theorem State.Settles.sameSettings {s t : State} (h : s.Settles t) : s.SameSettings t :=
  ⟨h.plans, h.rampTable, h.targetTable, h.fullTable, h.enables, fun p => (h.pos p).cfg,
    fun b => ⟨(h.bank b).tier, (h.bank b).rated, (h.bank b).low, (h.bank b).high, (h.bank b).priority⟩,
    fun k => ⟨(h.comp k).reach, (h.comp k).draw, (h.comp k).startTime, (h.comp k).unloadTime, (h.comp k).withheld⟩,
    fun l => ⟨(h.loop l).draw, (h.loop l).capacity, (h.loop l).floor, (h.loop l).recharge, (h.loop l).consumption⟩⟩

/-- What stands through whatever follows a new reading: every reading too. -/
structure State.Stands (s t : State) : Prop where
  station : t.station = s.station
  holds : t.holds = s.holds
  port : t.port = s.port
  settings : s.SameSettings t
  reading : ∀ c, t.reading c = s.reading c

theorem State.Stands.refl (s : State) : s.Stands s := ⟨rfl, rfl, rfl, .refl s, fun _ => rfl⟩

theorem State.Stands.trans {a b c : State} (h : a.Stands b) (g : b.Stands c) : a.Stands c :=
  ⟨g.station.trans h.station, g.holds.trans h.holds, g.port.trans h.port, h.settings.trans g.settings,
    fun x => (g.reading x).trans (h.reading x)⟩

theorem State.Settles.stands {s t : State} (h : s.Settles t) : s.Stands t where
  station := h.station
  holds := h.holds
  port := h.port
  settings := h.sameSettings
  reading := fun c => by
    cases c with
    | bankP b => exact congrArg (Option.map Int.ofNat) (h.bank b).pressure
    | bankT b => exact (h.bank b).temperature
    | hoseP p => exact congrArg (Option.map Int.ofNat) (h.pos p).hose
    | suctionP => exact congrArg (fun x : Station => x.suction.map Int.ofNat) h.station
    | ambientT => exact congrArg Station.ambient h.station
    | loopT l => exact (h.loop l).outlet

theorem State.Evolves.stands {s t : State} (h : s.Evolves t) : s.Stands t := h.toSettles.stands

/-- The link is no part of what stands. -/
theorem State.stands_link (s : State) (f : FieldLink) : s.Stands { s with link := f } := (s.settles_link f).stands

theorem State.stands_suction (s : State) (x : Suction) : s.Stands { s with suction := x } :=
  ⟨rfl, rfl, rfl, .refl s, fun c => by cases c <;> rfl⟩

theorem Bank.withFlags_settings (k : Bank) : k.withFlags.tier = k.tier ∧ k.withFlags.rated = k.rated ∧
    k.withFlags.low = k.low ∧ k.withFlags.high = k.high ∧ k.withFlags.priority = k.priority ∧
    k.withFlags.pressure = k.pressure ∧ k.withFlags.temperature = k.temperature := by
  unfold Bank.withFlags
  split <;> exact ⟨rfl, rfl, rfl, rfl, rfl, rfl, rfl⟩

/-- New level flags touch neither settings nor readings (02, R23). -/
theorem Work.stands_flags (w : Work) (b : BankId) : w.toState.Stands (w.modBank b Bank.withFlags).toState := by
  obtain ⟨tier, rated, low, high, priority, pressure, temperature⟩ := (w.bank b).withFlags_settings
  have flags : ∀ c, (w.modBank b Bank.withFlags).bank c = if c = b then (w.bank b).withFlags else w.bank c :=
    fun c => Work.modBank_bank w b c _
  refine ⟨rfl, rfl, rfl, ⟨rfl, rfl, rfl, rfl, rfl, fun _ => rfl, fun c => ?_, fun _ => ⟨rfl, rfl, rfl, rfl, rfl⟩,
    fun _ => ⟨rfl, rfl, rfl, rfl, rfl⟩⟩, fun c => ?_⟩
  · rw [flags]
    split
    · next e => rw [e]; exact ⟨tier, rated, low, high, priority⟩
    · exact ⟨rfl, rfl, rfl, rfl, rfl⟩
  · cases c with
    | bankP c =>
      unfold State.reading
      dsimp only
      rw [flags]
      split
      · next e => rw [e, pressure]
      · rfl
    | bankT c =>
      unfold State.reading
      dsimp only
      rw [flags]
      split
      · next e => rw [e, temperature]
      · rfl
    | _ => rfl

theorem Work.stands_reflag (w : Work) (b : BankId) : w.toState.Stands (w.reflag b).toState := by
  unfold Work.reflag
  dsimp only
  split
  · exact (w.stands_flags b).trans (Work.evolves_joinQueue _ b).stands
  · exact w.stands_flags b

theorem Work.stands_judgeSuction (w : Work) (ok : Bool) : w.toState.Stands (w.judgeSuction ok).toState := by
  unfold Work.judgeSuction
  split
  · exact w.toState.stands_suction .sufficient
  · exact (w.toState.stands_suction .short).trans
      (Work.evolves_suctionLoss { w with suction := .short }).stands
  · exact .refl _

/-! ### A new reading of one channel -/

/-- From `s` to `t` the owner of channel `c` took the reading `o`; settings, holds and port stand, and so does every
other reading (01, R9). -/
structure State.Took (s t : State) (c : Channel) (o : Option Int) : Prop where
  station : t.station = { s.station with suction := t.station.suction, ambient := t.station.ambient }
  holds : t.holds = s.holds
  port : t.port = s.port
  settings : s.SameSettings t
  reading : t.reading c = o
  others : ∀ d, d ≠ c → t.reading d = s.reading d

theorem State.Took.stands {s t u : State} {c : Channel} {o : Option Int} (h : s.Took t c o) (g : t.Stands u) :
    s.Took u c o where
  station := by rw [g.station]; exact h.station
  holds := g.holds.trans h.holds
  port := g.port.trans h.port
  settings := h.settings.trans g.settings
  reading := (g.reading c).trans h.reading
  others := fun d hd => (g.reading d).trans (h.others d hd)

theorem State.Stands.took {s t u : State} {c : Channel} {o : Option Int} (g : s.Stands t) (h : t.Took u c o) :
    s.Took u c o where
  station := by rw [← g.station]; exact h.station
  holds := h.holds.trans g.holds
  port := h.port.trans g.port
  settings := g.settings.trans h.settings
  reading := h.reading
  others := fun d hd => (h.others d hd).trans (g.reading d)

theorem Work.took_pressure (w : Work) (b : BankId) (o : Option Nat) :
    w.toState.Took (w.modBank b (fun k => { k with pressure := o })).toState (.bankP b) (o.map Int.ofNat) where
  station := rfl
  holds := rfl
  port := rfl
  settings := ⟨rfl, rfl, rfl, rfl, rfl, fun _ => rfl, fun c => by rw [Work.modBank_bank]; split <;> simp [*],
    fun _ => ⟨rfl, rfl, rfl, rfl, rfl⟩, fun _ => ⟨rfl, rfl, rfl, rfl, rfl⟩⟩
  reading := by simp [State.reading]
  others := fun d hd => by
    cases d with
    | bankP c => simp [State.reading, Work.modBank_bank_ne w _ (fun e => hd (congrArg Channel.bankP e))]
    | bankT c =>
      unfold State.reading
      dsimp only
      rw [Work.modBank_bank]
      split <;> simp [*]
    | _ => rfl

theorem Work.took_temperature (w : Work) (b : BankId) (o : Option Int) :
    w.toState.Took (w.modBank b (fun k => { k with temperature := o })).toState (.bankT b) o where
  station := rfl
  holds := rfl
  port := rfl
  settings := ⟨rfl, rfl, rfl, rfl, rfl, fun _ => rfl, fun c => by rw [Work.modBank_bank]; split <;> simp [*],
    fun _ => ⟨rfl, rfl, rfl, rfl, rfl⟩, fun _ => ⟨rfl, rfl, rfl, rfl, rfl⟩⟩
  reading := by simp [State.reading]
  others := fun d hd => by
    cases d with
    | bankT c => simp [State.reading, Work.modBank_bank_ne w _ (fun e => hd (congrArg Channel.bankT e))]
    | bankP c =>
      unfold State.reading
      dsimp only
      rw [Work.modBank_bank]
      split <;> simp [*]
    | _ => rfl

theorem Work.took_hose (w : Work) (p : PosId) (o : Option Nat) :
    w.toState.Took (w.modPos p (fun x => { x with ses.hose := o })).toState (.hoseP p) (o.map Int.ofNat) where
  station := rfl
  holds := rfl
  port := rfl
  settings := ⟨rfl, rfl, rfl, rfl, rfl, fun c => by rw [Work.modPos_pos]; split <;> simp [*],
    fun _ => ⟨rfl, rfl, rfl, rfl, rfl⟩, fun _ => ⟨rfl, rfl, rfl, rfl, rfl⟩, fun _ => ⟨rfl, rfl, rfl, rfl, rfl⟩⟩
  reading := by simp [State.reading]
  others := fun d hd => by
    cases d with
    | hoseP c => simp [State.reading, Work.modPos_pos_ne w _ (fun e => hd (congrArg Channel.hoseP e))]
    | _ => rfl

theorem Work.took_outlet (w : Work) (l : LoopId) (o : Option Int) :
    w.toState.Took (w.modLoop l (fun x => { x with outlet := o })).toState (.loopT l) o where
  station := rfl
  holds := rfl
  port := rfl
  settings := ⟨rfl, rfl, rfl, rfl, rfl, fun _ => rfl, fun _ => ⟨rfl, rfl, rfl, rfl, rfl⟩,
    fun _ => ⟨rfl, rfl, rfl, rfl, rfl⟩, fun c => by rw [Work.modLoop_loop]; split <;> simp [*]⟩
  reading := by simp [State.reading]
  others := fun d hd => by
    cases d with
    | loopT c => simp [State.reading, Work.modLoop_loop_ne w _ (fun e => hd (congrArg Channel.loopT e))]
    | _ => rfl

theorem Work.took_suction (w : Work) (o : Option Nat) :
    w.toState.Took (w.modStation (fun s => { s with suction := o })).toState .suctionP (o.map Int.ofNat) where
  station := rfl
  holds := rfl
  port := rfl
  settings := .refl w.toState
  reading := rfl
  others := fun d hd => by
    cases d with
    | suctionP => exact absurd rfl hd
    | _ => rfl

theorem Work.took_ambient (w : Work) (o : Option Int) :
    w.toState.Took (w.modStation (fun s => { s with ambient := o })).toState .ambientT o where
  station := rfl
  holds := rfl
  port := rfl
  settings := .refl w.toState
  reading := rfl
  others := fun d hd => by
    cases d with
    | ambientT => exact absurd rfl hd
    | _ => rfl

/-- A pressure's reading is its value. -/
theorem some_toNat {v : Int} (h : 0 ≤ v) : (some v.toNat).map Int.ofNat = some v := by
  simp [h]

/-- Least plausible value of a pressure (01, R7). -/
theorem channelBounds_pressure {c : Channel} {v : Int} (h : channelIsTemperature c = false)
    (hv : (channelBounds c).1 ≤ v) : 0 ≤ v := by
  cases c with
  | bankP | hoseP | suctionP => exact hv
  | bankT | ambientT | loopT => cases h

/-- The owner of a delivered sample takes its value (01, R9). -/
theorem Work.deliver_took (w : Work) (c : Channel) (v : Int) (hv : (channelBounds c).1 ≤ v) :
    w.toState.Took (w.deliver c v).toState c (some v) := by
  cases c with
  | bankP b =>
    have taken := some_toNat (channelBounds_pressure rfl hv) ▸ w.took_pressure b (some v.toNat)
    unfold Work.deliver Work.bankPressure
    dsimp only
    split
    · exact taken
    · exact (taken.stands (Work.stands_reflag _ b)).stands (Work.evolves_judgePressure _ b _).stands
  | bankT b =>
    have taken := w.took_temperature b (some v)
    unfold Work.deliver Work.bankTemperature
    dsimp only
    split
    · exact taken.stands (Work.evolves_isolateBank _ b _).stands
    · exact taken
  | hoseP p =>
    have taken := some_toNat (channelBounds_pressure rfl hv) ▸ w.took_hose p (some v.toNat)
    exact taken.stands (w.hoseSample_evolves p _).stands
  | suctionP =>
    have taken := some_toNat (channelBounds_pressure rfl hv) ▸ w.took_suction (some v.toNat)
    exact taken.stands (Work.stands_judgeSuction _ _)
  | ambientT => exact w.took_ambient (some v)
  | loopT l => exact w.took_outlet l (some v)

/-- The owner of a BAD channel has no reading (01, R9). -/
theorem Work.badReport_took (w : Work) (c : Channel) : w.toState.Took (w.badReport c).toState c none := by
  cases c with
  | bankP b => exact (w.took_pressure b none).stands (Work.evolves_isolateBank _ b _).stands
  | bankT b => exact (w.took_temperature b none).stands (Work.evolves_isolateBank _ b _).stands
  | hoseP p => exact (w.took_hose p none).stands (Work.evolves_endFill _ p _).stands
  | suctionP => exact (w.took_suction none).stands (Work.stands_judgeSuction _ _)
  | ambientT => exact w.took_ambient none
  | loopT l => exact w.took_outlet l none

/-! ### Sample frames -/

theorem State.rx_none {s : State} (h : s.link.rx = none) : { s with link.rx := none } = s := by
  rw [← h]

/-- A byte that leaves a sample frame short of its six bytes joins it (11, R182). -/
theorem State.sampleByte_adds (s : State) (buf : List Byte) (b : Byte) (h : (buf ++ [b]).length < 6) :
    ({ s with link.rx := some buf } : State).sampleByte b = { s with link.rx := some (buf ++ [b]) } := if_pos h

/-- A whole frame at a receiver outside a frame is one judgement of its six bytes (11, R182; 01, R6). -/
theorem sampleFrame_whole {s : State} (h : s.link.rx = none) (kind index lo hi quality check : Byte) :
    exec (.sampleFrame [0x5A, kind, index, lo, hi, quality, check]) s =
      .next (match parseSample [kind, index, lo, hi, quality, check] with
        | none => s
        | some f => s.rule (Work.takeSample f)) := by
  have marker : s.sampleByte 0x5A = { s with link.rx := some [] } := by
    unfold State.sampleByte
    rw [h]
    rfl
  have last : ({ s with link.rx := some [kind, index, lo, hi, quality] } : State).sampleByte check =
      (match parseSample [kind, index, lo, hi, quality, check] with
        | none => s
        | some f => s.rule (Work.takeSample f)) := by
    show (match parseSample [kind, index, lo, hi, quality, check] with
        | none => ({ s with link.rx := none } : State)
        | some f => ({ s with link.rx := none } : State).rule (Work.takeSample f)) = _
    rw [State.rx_none h]
  refine congrArg Host.Outcome.next ?_
  rw [List.foldl_cons, marker, ← last]
  simp only [List.foldl_cons, List.foldl_nil]
  rw [State.sampleByte_adds s _ kind (by simp), State.sampleByte_adds s _ index (by simp),
    State.sampleByte_adds s _ lo (by simp), State.sampleByte_adds s _ hi (by simp),
    State.sampleByte_adds s _ quality (by simp)]
  rfl

theorem channelOf_codes (c : Channel) : channelOf (channelCodes c).1 (channelCodes c).2 = some c := by
  cases c with
  | bankP b => exact dif_pos b.isLt
  | bankT b => exact dif_pos b.isLt
  | hoseP p => exact dif_pos p.isLt
  | suctionP => rfl
  | ambientT => rfl
  | loopT l => exact dif_pos l.isLt

/-- The value a sample's two bytes carry (11, R179, R182). -/
theorem channelValue_bytes (c : Channel) (lo hi : Byte) : channelValue c (leValue [lo, hi]) =
    if channelIsTemperature c = true then (lo.toNat + 256 * hi.toNat : Int) - 32768
    else (lo.toNat + 256 * hi.toNat : Int) := by
  simp [channelValue, ofOffset, leValue]

theorem plausible_iff (c : Channel) (v : Int) :
    plausible c v = true ↔ (channelBounds c).1 ≤ v ∧ v ≤ (channelBounds c).2 := by
  cases c <;> simp [plausible, channelBounds]

/-- A frame whose check holds and that names a channel with a known quality is taken (01, R6). -/
theorem parseSample_taken {c : Channel} {kind index lo hi quality check : Byte} (hk : kind.toNat = (channelCodes c).1)
    (hi' : index.toNat = (channelCodes c).2) (sum : kind + index + lo + hi + quality + check = 0)
    (hq : quality.toNat ≤ 1) : parseSample [kind, index, lo, hi, quality, check] =
      some { chan := c, value := channelValue c (leValue [lo, hi]), good := quality == 0 } := by
  have ok : checkOk [kind, index, lo, hi, quality, check] = true := by simp [checkOk, sum]
  unfold parseSample
  dsimp only
  rw [if_pos ⟨ok, hq⟩, hk, hi', channelOf_codes]
  rfl

/-- A kind or index beyond its range names no channel (01, R6). -/
theorem channelOf_none {kind index : Nat} (h : ¬((kind ≤ 1 ∧ index < 12) ∨ (kind = 2 ∧ index < 8) ∨
    ((kind = 3 ∨ kind = 4) ∧ index = 0) ∨ (kind = 5 ∧ index < 2))) : channelOf kind index = none := by
  by_cases large : 6 ≤ kind
  · obtain ⟨n, rfl⟩ := Nat.exists_eq_add_of_le' large
    rfl
  · interval_cases kind
    · exact dif_neg (by omega)
    · exact dif_neg (by omega)
    · exact dif_neg (by omega)
    · exact if_neg (by omega)
    · exact if_neg (by omega)
    · exact dif_neg (by omega)

/-- Any other frame is discarded (01, R6). -/
theorem parseSample_discarded {kind index lo hi quality check : Byte}
    (h : kind + index + lo + hi + quality + check ≠ 0 ∨ 1 < quality.toNat ∨
      ¬((kind.toNat ≤ 1 ∧ index.toNat < 12) ∨ (kind.toNat = 2 ∧ index.toNat < 8) ∨
        ((kind.toNat = 3 ∨ kind.toNat = 4) ∧ index.toNat = 0) ∨ (kind.toNat = 5 ∧ index.toNat < 2))) :
    parseSample [kind, index, lo, hi, quality, check] = none := by
  unfold parseSample
  dsimp only
  split
  · next taken =>
    obtain ⟨ok, known⟩ := taken
    have sum : kind + index + lo + hi + quality + check = 0 := by simpa [checkOk] using ok
    obtain other | unknown | nowhere := h
    · exact absurd sum other
    · omega
    · rw [channelOf_none nowhere]
      rfl
  · rfl

/-- A plausible GOOD sample: its channel and its owner take it (01, R7, R9). -/
theorem State.goodSample_took (s : State) (f : Sample) (hg : f.good = true)
    (hp : (channelBounds f.chan).1 ≤ f.value ∧ f.value ≤ (channelBounds f.chan).2) :
    s.Took (s.rule (Work.takeSample f)) f.chan (some f.value) := by
  unfold State.rule Work.takeSample
  rw [if_pos ⟨hg, (plausible_iff _ _).mpr hp⟩]
  refine State.Took.stands ?_ (Work.settles_close _ s).stands
  exact (s.stands_link _).took (Work.deliver_took { s.begin with link := _ } f.chan f.value hp.1)

end Sys2Proof.Machine

/-- Settles O4: a whole frame is one judgement; the link's part is `State.Judged`, the owner's `State.Took`. -/
theorem sampleFramesReachTheirOwnerOrAreDiscarded : Obligations.SampleFramesReachTheirOwnerOrAreDiscarded := by
  unfold Obligations.SampleFramesReachTheirOwnerOrAreDiscarded
  refine ⟨fun c kind index lo hi check v s rx hk hi' sum hv low high => ?_,
    fun kind index lo hi quality check s rx bad => ?_, fun b s rx other => ?_⟩
  · have parsed := parseSample_taken (quality := 0) hk hi' (by simpa using sum) (by decide)
    rw [channelValue_bytes, ← hv] at parsed
    refine ⟨_, sampleFrame_whole rx kind index lo hi 0 check, ?_⟩
    rw [parsed]
    have judged := s.goodSample_judged { chan := c, value := v, good := true }
      ⟨rfl, (plausible_iff c v).mpr ⟨low, high⟩⟩
    have took := s.goodSample_took { chan := c, value := v, good := true } rfl ⟨low, high⟩
    refine ⟨judged.rx.trans rx, ?_, fun d hd => ?_, took.reading, took.others, took.station, took.settings,
      took.holds, took.port⟩
    · exact (judged.chan c).trans (if_pos rfl)
    · exact (judged.chan d).trans (if_neg hd)
  · rw [sampleFrame_whole rx, parseSample_discarded bad]
  · refine congrArg Host.Outcome.next ?_
    show s.sampleByte b = s
    unfold State.sampleByte
    rw [rx]
    exact if_neg other
end

section
/-! SUPPORT. Banks handed over and the end of a fill: what an offer, a release and a give-back leave (`Work.Hands`),
what keeps the end of a session (`Work.KeepsEnds`), and the end of a rule that makes no evaluation. -/
namespace Sys2Proof.Machine

/-! ### The end of a session stands -/

/-- End reason and end stamp of every session stand from `w` to `t`. -/
def Work.KeepsEnds (w t : Work) : Prop :=
  ∀ p, (t.pos p).ses.endReason = (w.pos p).ses.endReason ∧ (t.pos p).ses.endStamp = (w.pos p).ses.endStamp

theorem Work.KeepsEnds.refl (w : Work) : w.KeepsEnds w := fun _ => ⟨rfl, rfl⟩

theorem Work.KeepsEnds.trans {a b c : Work} (h : a.KeepsEnds b) (g : b.KeepsEnds c) : a.KeepsEnds c :=
  fun p => ⟨(g p).1.trans (h p).1, (g p).2.trans (h p).2⟩

theorem Work.KeepsEnds.of_positions {w t : Work} (h : t.positions = w.positions) : w.KeepsEnds t := by
  intro p
  unfold State.pos
  rw [h]
  exact ⟨rfl, rfl⟩

theorem Work.keepsEnds_modPos (w : Work) (p : PosId) {f : Position → Position}
    (h : (f (w.pos p)).ses.endReason = (w.pos p).ses.endReason ∧ (f (w.pos p)).ses.endStamp = (w.pos p).ses.endStamp) :
    w.KeepsEnds (w.modPos p f) := by
  intro q
  rw [Work.modPos_pos]
  split
  · next e => rw [e]; exact h
  · exact ⟨rfl, rfl⟩

@[simp] theorem Work.joinQueue_positions (w : Work) (b : BankId) : (w.joinQueue b).positions = w.positions := by
  unfold Work.joinQueue; split <;> rfl
@[simp] theorem Work.joinQueue_comps (w : Work) (b : BankId) : (w.joinQueue b).comps = w.comps := by
  unfold Work.joinQueue; split <;> rfl
@[simp] theorem Work.joinQueue_loops (w : Work) (b : BankId) : (w.joinQueue b).loops = w.loops := by
  unfold Work.joinQueue; split <;> rfl
@[simp] theorem Work.joinQueue_waitList (w : Work) (b : BankId) : (w.joinQueue b).waitList = w.waitList := by
  unfold Work.joinQueue; split <;> rfl
@[simp] theorem Work.joinQueue_banks (w : Work) (b : BankId) : (w.joinQueue b).banks = w.banks := by
  unfold Work.joinQueue; split <;> rfl

theorem Work.keepsEnds_takeOffer (w : Work) (p : PosId) (b : BankId) : w.KeepsEnds (w.takeOffer p b).2 := by
  unfold Work.takeOffer
  dsimp only
  split
  · exact w.keepsEnds_modPos p ⟨rfl, rfl⟩
  · split
    · exact w.keepsEnds_modPos p ⟨rfl, rfl⟩
    · split
      · exact w.keepsEnds_modPos p ⟨rfl, rfl⟩
      · exact .refl w

/-! ### A bank handed over -/

/-- What stands from `w` to `t` when bank `b` is freed, claimed by positions or offered to them. -/
structure Work.Hands (b : BankId) (w t : Work) : Prop where
  comps : t.comps = w.comps
  loops : t.loops = w.loops
  powerQueue : t.powerQueue = w.powerQueue
  others : ∀ c, c ≠ b → t.bank c = w.bank c
  yields : (t.bank b).yields = (w.bank b).yields
  claimant : ∀ k, (t.bank b).claimant = some (.comp k) → (w.bank b).claimant = some (.comp k)
  ends : w.KeepsEnds t

theorem Work.Hands.refl (b : BankId) (w : Work) : Work.Hands b w w :=
  ⟨rfl, rfl, rfl, fun _ _ => rfl, rfl, fun _ h => h, .refl w⟩

theorem Work.Hands.trans {b : BankId} {w t u : Work} (h : Work.Hands b w t) (g : Work.Hands b t u) :
    Work.Hands b w u :=
  ⟨g.comps.trans h.comps, g.loops.trans h.loops, g.powerQueue.trans h.powerQueue,
    fun c hc => (g.others c hc).trans (h.others c hc), g.yields.trans h.yields,
    fun k e => h.claimant k (g.claimant k e), h.ends.trans g.ends⟩

/-- Writing the bank itself. -/
theorem Work.hands_modBank (w : Work) (b : BankId) {f : Bank → Bank} (hy : (f (w.bank b)).yields = (w.bank b).yields)
    (hc : ∀ k, (f (w.bank b)).claimant = some (.comp k) → (w.bank b).claimant = some (.comp k)) :
    Work.Hands b w (w.modBank b f) where
  comps := rfl
  loops := rfl
  powerQueue := rfl
  others := fun _ h => Work.modBank_bank_ne w f h
  yields := by rw [Work.modBank_bank_self]; exact hy
  claimant := by rw [Work.modBank_bank_self]; exact hc
  ends := .of_positions rfl

theorem Work.hands_joinQueue (b : BankId) (w : Work) (c : BankId) : Work.Hands b w (w.joinQueue c) where
  comps := w.joinQueue_comps c
  loops := w.joinQueue_loops c
  powerQueue := by unfold Work.joinQueue; split <;> rfl
  others := fun _ _ => w.joinQueue_bank c _
  yields := congrArg Bank.yields (w.joinQueue_bank c b)
  claimant := fun _ => by rw [Work.joinQueue_bank]; exact id
  ends := .of_positions (w.joinQueue_positions c)

/-- Lists and debts of the rule's end are no part of a bank. -/
theorem Work.Hands.of_eq {b : BankId} {w t : Work} (hb : t.banks = w.banks) (hk : t.comps = w.comps)
    (hl : t.loops = w.loops) (ho : t.powerQueue = w.powerQueue) (hp : t.positions = w.positions) : Work.Hands b w t :=
  have bank : ∀ c, t.bank c = w.bank c := fun c => by unfold State.bank; rw [hb]
  ⟨hk, hl, ho, fun c _ => bank c, by rw [bank], fun _ => by rw [bank]; exact id, .of_positions hp⟩

theorem Bank.withFlags_yields (k : Bank) : k.withFlags.yields = k.yields := by
  unfold Bank.withFlags; split <;> rfl

theorem Work.hands_makeReady (w : Work) (b : BankId) : Work.Hands b w (w.makeReady b) :=
  w.hands_modBank b (Bank.withFlags_yields _) (fun _ h => by cases h)

theorem Work.hands_freeBank (w : Work) (b : BankId) : Work.Hands b w (w.freeBank b) := by
  have ready := w.hands_makeReady b
  unfold Work.freeBank
  dsimp only
  split <;> split
  · exact (ready.trans (Work.hands_joinQueue b _ b)).trans (.of_eq rfl rfl rfl rfl rfl)
  · exact ready.trans (Work.hands_joinQueue b _ b)
  · exact ready.trans (.of_eq rfl rfl rfl rfl rfl)
  · exact ready

theorem Bank.claim_yields (c : Claimant) (k : Bank) : (k.claim c).yields = k.yields := by
  unfold Bank.claim; split <;> rfl

theorem Work.hands_claimPos (w : Work) (p : PosId) (b : BankId) : Work.Hands b w (w.claimBank (.pos p) b) := by
  refine w.hands_modBank b (Bank.claim_yields _ _) fun k => ?_
  unfold Bank.claim
  split
  · exact fun h => by cases h
  · exact id

theorem Work.hands_takeOffer (w : Work) (p : PosId) (b : BankId) : Work.Hands b w (w.takeOffer p b).2 := by
  have frame : (w.takeOffer p b).2.comps = w.comps ∧ (w.takeOffer p b).2.loops = w.loops ∧
      (w.takeOffer p b).2.powerQueue = w.powerQueue := by
    unfold Work.takeOffer
    dsimp only
    split
    · exact ⟨rfl, rfl, rfl⟩
    · split
      · exact ⟨rfl, rfl, rfl⟩
      · split <;> exact ⟨rfl, rfl, rfl⟩
  obtain ⟨comps, loops, order⟩ := frame
  exact ⟨comps, loops, order, fun c _ => w.takeOffer_bank p b c, congrArg Bank.yields (w.takeOffer_bank p b b),
    fun _ => by rw [Work.takeOffer_bank]; exact id, w.keepsEnds_takeOffer p b⟩

theorem Work.hands_offer (n : Nat) (b : BankId) (w : Work) : Work.Hands b w (Work.offer n b w) := by
  induction n generalizing w with
  | zero => exact .refl b w
  | succ n ih =>
    unfold Work.offer
    split
    · exact .refl b w
    · next e _ =>
      have left : Work.Hands b w (w.leaveWaitList e.pos) := .of_eq rfl rfl rfl rfl rfl
      have taken := (left.trans (Work.hands_claimPos _ e.pos b)).trans (Work.hands_takeOffer _ e.pos b)
      dsimp only
      split
      · exact taken
      · exact (taken.trans (Work.hands_freeBank _ b)).trans (ih _)

theorem Work.hands_offerBank (w : Work) (b : BankId) : Work.Hands b w (w.offerBank b) := by
  unfold Work.offerBank
  split
  · exact Work.hands_offer _ b w
  · exact .refl b w

theorem Work.hands_releaseBank (w : Work) (c : Claimant) (b : BankId) : Work.Hands b w (w.releaseBank c b) := by
  unfold Work.releaseBank
  split
  · exact (w.hands_freeBank b).trans (Work.hands_offerBank _ b)
  · exact .refl b w

theorem Work.hands_giveBack (w : Work) (k : CompId) (b : BankId) : Work.Hands b w (w.giveBack k b) := by
  unfold Work.giveBack
  split
  · have fronted : Work.Hands b (w.makeReady b) ((w.makeReady b).frontQueue b) := .of_eq rfl rfl rfl rfl rfl
    exact ((w.hands_makeReady b).trans fronted).trans (Work.hands_offerBank _ b)
  · exact .refl b w

/-- With no position waiting an offer changes nothing (02, R37). -/
theorem Work.offerBank_nobody {w : Work} (b : BankId) (h : w.waitList = []) : w.offerBank b = w := by
  unfold Work.offerBank
  split
  · rw [h]; rfl
  · rfl

/-! ### The end of a fill -/

theorem Work.keepsEnds_releaseNamed (w : Work) (p : PosId) : w.KeepsEnds (w.releaseNamed p) := by
  have dropped : w.KeepsEnds (w.modPos p (fun y => { y with ses := { y.ses with current := none, staged := none } })) :=
    w.keepsEnds_modPos p ⟨rfl, rfl⟩
  unfold Work.releaseNamed
  dsimp only
  split <;> split
  · exact (dropped.trans (Work.hands_releaseBank _ _ _).ends).trans (Work.hands_releaseBank _ _ _).ends
  · exact dropped.trans (Work.hands_releaseBank _ _ _).ends
  · exact dropped.trans (Work.hands_releaseBank _ _ _).ends
  · exact dropped

@[simp] theorem Work.joinWaitList_positions (w : Work) (p : PosId) (ts : List Tier) :
    (w.joinWaitList p ts).positions = w.positions := by
  unfold Work.joinWaitList; split <;> rfl

theorem Work.keepsEnds_pulsingSelect (w : Work) (p : PosId) : w.KeepsEnds (w.pulsingSelect p) := by
  unfold Work.pulsingSelect
  dsimp only
  split
  · exact (Work.hands_claimPos w p _).ends.trans (Work.keepsEnds_modPos _ p ⟨rfl, rfl⟩)
  · exact (Work.KeepsEnds.of_positions (w.joinWaitList_positions p _)).trans (Work.keepsEnds_modPos _ p ⟨rfl, rfl⟩)

theorem Work.keepsEnds_grantGiven (w : Work) (p : PosId) : w.KeepsEnds (w.grantGiven p) := by
  have told : w.KeepsEnds (w.modPos p (fun x => { x with ses.band := .cold })) := w.keepsEnds_modPos p ⟨rfl, rfl⟩
  unfold Work.grantGiven
  dsimp only
  split
  · exact (told.trans (Work.keepsEnds_modPos _ p ⟨rfl, rfl⟩)).trans (Work.keepsEnds_pulsingSelect _ p)
  · exact told

theorem Work.keepsEnds_serveQueueN (n : Nat) (l : LoopId) (w : Work) : w.KeepsEnds (Work.serveQueueN n l w) := by
  induction n generalizing w with
  | zero => exact .refl w
  | succ n ih =>
    unfold Work.serveQueueN
    split
    · exact .refl w
    · split
      · refine (Work.KeepsEnds.trans ?_ (Work.keepsEnds_grantGiven _ _)).trans (ih _)
        exact .of_positions rfl
      · exact .refl w

theorem Work.keepsEnds_leaveLoop (w : Work) (p : PosId) : w.KeepsEnds (w.leaveLoop p) := by
  unfold Work.leaveLoop
  split
  · exact .refl w
  · split
    · exact Work.KeepsEnds.trans (b := w.modLoop _ _) (.of_positions rfl) (Work.keepsEnds_serveQueueN 2 _ _)
    · split
      · exact Work.KeepsEnds.trans (b := w.modLoop _ _) (.of_positions rfl) (Work.keepsEnds_serveQueueN 2 _ _)
      · exact .refl w

/-- The session whose fill has ended, with its timers (05, R101). -/
structure Position.Ended (x : Position) (r : EndReason) (clock : Clock) : Prop where
  state : x.ses.state = .venting
  endReason : x.ses.endReason = some r
  endStamp : x.ses.endStamp = some clock
  supply : x.ses.supply = none
  control : x.ses.control = .closed
  vent : x.ses.vent = .opened
  timers : x.tmr = { PosTimers.stopped with vent := seconds x.cfg.ventTime }

theorem Work.endCore_ended (w : Work) (p : PosId) (r : EndReason) :
    ((w.endCore p r).pos p).Ended r w.station.clock := by
  have kept : (w.modPos p (Position.markEnd r w.station.clock)).KeepsEnds
      ((((w.modPos p (Position.markEnd r w.station.clock)).releaseNamed p).leaveWaitList p).leaveLoop p) :=
    ((Work.keepsEnds_releaseNamed _ p).trans (.of_positions rfl)).trans (Work.keepsEnds_leaveLoop _ p)
  obtain ⟨reason, stamp⟩ := kept p
  unfold Work.endCore
  dsimp only
  rw [Work.modPos_pos_self] at reason stamp ⊢
  exact ⟨rfl, reason, stamp, rfl, rfl, rfl, rfl⟩

theorem Work.endFill_ended {w : Work} {p : PosId} (h : (w.pos p).ses.state.live = true) (r : EndReason) :
    ((w.endFill p r).pos p).Ended r w.station.clock := by
  unfold Work.endFill
  rw [if_pos h]
  exact w.endCore_ended p r

/-! ### Isolation -/

/-- An isolation of a bank in service: the bank's record, then its claimant is told, then it leaves the queue
(02, R28). -/
theorem Work.isolateBank_steps {w : Work} {b : BankId} (h : (w.bank b).inService = true) (r : IsoReason) :
    ∃ v : Work, Work.Evolves (w.modBank b (Bank.isolateWith r)) v ∧ w.isolateBank b r = (v.leaveQueue b).raise 11 := by
  unfold Work.isolateBank
  dsimp only
  rw [if_pos h]
  refine ⟨_, ?_, rfl⟩
  split
  · exact Work.evolves_bankLost _ _ b
  · split
    · exact Work.evolves_unloadComp _ _
    · exact .refl _
  · exact .refl _

/-- A bank in service that is isolated is ISOLATED for the reason, with N11 (02, R28). -/
theorem Work.isolateBank_isolates {w : Work} {b : BankId} (h : (w.bank b).inService = true) (r : IsoReason) :
    ((w.isolateBank b r).bank b).state = .isolated ∧ ((w.isolateBank b r).bank b).isolation = some r ∧
      (w.isolateBank b r).requested 11 := by
  obtain ⟨v, told, steps⟩ := Work.isolateBank_steps h r
  have kept := told.bank b
  rw [Work.modBank_bank_self] at kept
  have bank : (w.isolateBank b r).bank b = { (w.bank b).isolateWith r with yields := (v.bank b).yields } := by
    rw [steps]
    exact kept.outOfService rfl
  rw [bank, steps]
  refine ⟨rfl, rfl, ?_⟩
  show (v.notices.requests ||| BitVec.twoPow 16 11).getLsbD 11 = true
  simp

/-- An isolated bank and a set request stand through the end of the rule. -/
theorem State.Settles.isolated {s t : State} (h : s.Settles t) {b : BankId} {r : IsoReason}
    (hs : (s.bank b).state = .isolated) (hr : (s.bank b).isolation = some r) :
    (t.bank b).state = .isolated ∧ (t.bank b).isolation = some r := by
  have out : (s.bank b).inService = false := by simp [Bank.inService, hs]
  rw [(h.bank b).outOfService out]
  exact ⟨hs, hr⟩

theorem State.Settles.requested {s t : State} (h : s.Settles t) {i : Nat} (hi : s.requested i) : t.requested i := by
  unfold State.requested at *
  rw [← h.requests, BitVec.getLsbD_and, Bool.and_eq_true] at hi
  exact hi.2

/-! ### The end of a rule that makes no evaluation -/

/-- What the serving of the waiting order leaves besides `Work.Winds`. -/
structure Work.Serves (w t : Work) : Prop where
  banks : t.banks = w.banks
  comps : t.comps = w.comps
  refillQueue : t.refillQueue = w.refillQueue
  suction : t.suction = w.suction
  station : t.station = w.station

theorem Work.Serves.refl (w : Work) : w.Serves w := ⟨rfl, rfl, rfl, rfl, rfl⟩

theorem Work.Serves.trans {a b c : Work} (h : a.Serves b) (g : b.Serves c) : a.Serves c :=
  ⟨g.banks.trans h.banks, g.comps.trans h.comps, g.refillQueue.trans h.refillQueue, g.suction.trans h.suction,
    g.station.trans h.station⟩

theorem Work.serves_serveWaiting (w : Work) : w.Serves w.serveWaiting := by
  refine Work.each_keeps Work.Serves .refl .trans _ (fun l w => ?_) _ w
  unfold Work.serveOne
  split
  · exact .refl w
  · split
    · exact ⟨rfl, rfl, rfl, rfl, rfl⟩
    · exact .refl w

/-- An evaluation does nothing: the station does not evaluate, or no bank waits (03, R49, R50). -/
def Work.Unevaluated (w : Work) : Prop :=
  ¬(w.station.phase = .service ∧ w.station.halt = .running ∧ w.suction = .sufficient) ∨ w.refillQueue = []

theorem Work.Unevaluated.evaluate {w : Work} (h : w.Unevaluated) : w.evaluate = w := by
  unfold Work.evaluate
  obtain idle | empty := h
  · exact if_neg idle
  · rw [empty]
    exact ite_self w

theorem Work.Unevaluated.wound {w : Work} (h : w.Unevaluated) :
    w.wound = if w.serveDue then w.serveWaiting else w := by
  have served : (if w.serveDue then w.serveWaiting else w).Unevaluated := by
    unfold Work.Unevaluated at *
    split
    · rw [w.serves_serveWaiting.station, w.serves_serveWaiting.suction, w.serves_serveWaiting.refillQueue]
      exact h
    · exact h
  unfold Work.wound
  dsimp only
  rw [served.evaluate]
  exact ite_self _

/-- Without an evaluation the end of a rule leaves banks, compressors and the refill queue. -/
theorem Work.Unevaluated.close {w : Work} (h : w.Unevaluated) (s0 : State) : (w.close s0).banks = w.banks ∧
    (w.close s0).comps = w.comps ∧ (w.close s0).refillQueue = w.refillQueue := by
  have served : w.Serves w.wound := by
    rw [h.wound]
    split
    · exact w.serves_serveWaiting
    · exact .refl w
  rw [Work.close_eq]
  split <;> exact ⟨served.banks, served.comps, served.refillQueue⟩

end Sys2Proof.Machine
end

section
/-! SUPPORT. Places in the refill queue (03, R43), and the loss of a refill (03, R45, R55). -/
open Sys2Proof Sys2Proof.Machine
namespace Sys2Proof.Machine

/-! ### Places in a queue in priority order -/

/-- In a list where what meets a test stands in front, the longest part that meets it is all that meets it. -/
theorem takeWhile_eq_filter {α : Type} {p : α → Bool} {q : List α}
    (h : q.Pairwise (fun x y => p y = true → p x = true)) :
    q.takeWhile p = q.filter p ∧ q.dropWhile p = q.filter (fun x => !p x) := by
  induction q with
  | nil => exact ⟨rfl, rfl⟩
  | cons x xs ih =>
    obtain ⟨front, rest⟩ := List.pairwise_cons.mp h
    obtain ⟨take, drop⟩ := ih rest
    cases px : p x with
    | true => simp [px, take, drop]
    | false =>
      have none : ∀ y ∈ xs, p y = false := fun y hy => by
        by_contra py
        rw [front y hy (by simpa using py)] at px
        cases px
      have out : xs.filter p = [] := List.filter_eq_nil_iff.mpr fun y hy => by simp [none y hy]
      have all : xs.filter (fun x => !p x) = xs := List.filter_eq_self.mpr fun y hy => by simp [none y hy]
      simp [px, out, all]

/-- A queue in priority order, highest first (03, R43). -/
abbrev InOrder (prio : BankId → Nat) (q : List QueueEntry) : Prop :=
  q.Pairwise (fun x y => prio y.bank ≤ prio x.bank)

/-- The queue with an entry at the front of its class, as a filter of the rest (03, R43). -/
def atFront (prio : BankId → Nat) (e : QueueEntry) (q : List QueueEntry) : List QueueEntry :=
  q.filter (fun x => x.bank != e.bank && decide (prio e.bank < prio x.bank)) ++ [e] ++
    q.filter (fun x => x.bank != e.bank && decide (prio x.bank ≤ prio e.bank))

theorem placeFront_eq {prio : BankId → Nat} {e : QueueEntry} {q : List QueueEntry} (h : InOrder prio q) :
    placeFront prio e (withoutBank e.bank q) = atFront prio e q := by
  have sorted : (withoutBank e.bank q).Pairwise (fun x y =>
      decide (prio e.bank < prio y.bank) = true → decide (prio e.bank < prio x.bank) = true) := by
    refine (h.sublist List.filter_sublist).imp fun order above => ?_
    rw [decide_eq_true_eq] at *
    omega
  obtain ⟨take, drop⟩ := takeWhile_eq_filter sorted
  unfold placeFront atFront
  rw [take, drop]
  unfold withoutBank
  simp only [List.filter_filter, ← decide_not, not_lt, List.append_assoc, List.singleton_append, Bool.and_comm]

/-- The queue with an entry at the back of its class, as a filter of the rest (03, R43). -/
def atBack (prio : BankId → Nat) (e : QueueEntry) (q : List QueueEntry) : List QueueEntry :=
  q.filter (fun x => x.bank != e.bank && decide (prio e.bank ≤ prio x.bank)) ++ [e] ++
    q.filter (fun x => x.bank != e.bank && decide (prio x.bank < prio e.bank))

theorem placeBack_eq {prio : BankId → Nat} {e : QueueEntry} {q : List QueueEntry} (h : InOrder prio q) :
    placeBack prio e (withoutBank e.bank q) = atBack prio e q := by
  have sorted : (withoutBank e.bank q).Pairwise (fun x y =>
      decide (prio e.bank ≤ prio y.bank) = true → decide (prio e.bank ≤ prio x.bank) = true) := by
    refine (h.sublist List.filter_sublist).imp fun order above => ?_
    rw [decide_eq_true_eq] at *
    omega
  obtain ⟨take, drop⟩ := takeWhile_eq_filter sorted
  unfold placeBack atBack
  rw [take, drop]
  unfold withoutBank
  simp only [List.filter_filter, ← decide_not, not_le, List.append_assoc, List.singleton_append, Bool.and_comm]

theorem atFront_inOrder {prio : BankId → Nat} {e : QueueEntry} {q : List QueueEntry} (h : InOrder prio q) :
    InOrder prio (atFront prio e q) := by
  unfold atFront InOrder
  rw [List.append_assoc, List.pairwise_append]
  refine ⟨h.sublist List.filter_sublist, ?_, fun x hx y hy => ?_⟩
  · rw [List.singleton_append, List.pairwise_cons]
    exact ⟨fun y hy => by simp at hy; omega, h.sublist List.filter_sublist⟩
  · simp at hx hy
    obtain rfl | below := hy <;> omega

/-- An entry that is placed keeps every other entry. -/
theorem mem_placeFront (prio : BankId → Nat) (e x : QueueEntry) (q : List QueueEntry) :
    x ∈ placeFront prio e q ↔ x = e ∨ x ∈ q := by
  conv_rhs => rw [← List.takeWhile_append_dropWhile (p := fun y => decide (prio e.bank < prio y.bank)) (l := q)]
  unfold placeFront
  simp only [List.mem_append, List.mem_cons]
  tauto

/-- The refill priorities of the banks. -/
abbrev State.priorities (s : State) : BankId → Nat := fun b => (s.bank b).priority

/-! ### The loss of a refill -/

theorem Work.frontQueue_refillQueue (w : Work) (b : BankId) : (w.frontQueue b).refillQueue =
    placeFront w.priorities { bank := b, stamp := w.station.clock } (withoutBank b w.refillQueue) := rfl

/-- With no position waiting, a give-back leaves the bank READY at the front of its class (03, R45). -/
theorem Work.giveBack_nobody {w : Work} {k : CompId} {b : BankId} (nobody : w.waitList = [])
    (held : w.heldBy (.comp k) b = true) : w.giveBack k b = (w.makeReady b).frontQueue b := by
  unfold Work.giveBack
  rw [if_pos held]
  exact Work.offerBank_nobody b nobody

theorem Work.giveBack_notHeld {w : Work} {k : CompId} {b : BankId} (h : (w.bank b).claimant ≠ some (.comp k)) :
    w.giveBack k b = w := by
  unfold Work.giveBack State.heldBy
  exact if_neg (by simp [h])

/-- A bank that is REFILLING for a compressor is held by it. -/
theorem State.heldBy_refilling {s : State} {k : CompId} {b : BankId} (hc : (s.bank b).claimant = some (.comp k))
    (hs : (s.bank b).state = .refilling) : s.heldBy (.comp k) b = true := by
  simp [State.heldBy, hc, hs]

/-- A party that holds a bank is its claimant. -/
theorem State.heldBy_claimant {s : State} {c : Claimant} {b : BankId} (h : s.heldBy c b = true) :
    (s.bank b).claimant = some c := by
  unfold State.heldBy at h
  rw [Bool.and_eq_true, beq_iff_eq] at h
  exact h.1

/-- A compressor that is STARTING or RUNNING loses its refill (03, R55). -/
def Work.loseIfActive (k : CompId) (w : Work) : Work := if (w.comp k).active then w.loseRefill k else w

theorem Work.suctionLoss_eq (w : Work) : w.suctionLoss = (w.loseIfActive 0).loseIfActive 1 := rfl

theorem Work.evolves_loseIfActive (w : Work) (k : CompId) : w.Evolves (w.loseIfActive k) := by
  unfold Work.loseIfActive
  split
  · exact w.evolves_loseRefill k
  · exact .refl _

theorem Work.loseIfActive_idle {w : Work} {k : CompId} (h : (w.comp k).active = false) : w.loseIfActive k = w :=
  if_neg (by simp [h])

/-- A loss of a refill, by what the compressor refills (03, R45, R55). -/
theorem Work.loseIfActive_active {w : Work} {k : CompId} (h : (w.comp k).active = true) : w.loseIfActive k =
    match (w.comp k).bank with
    | some b => (w.unloadComp k).giveBack k b
    | none => w.unloadComp k := if_pos h

theorem Work.loseIfActive_comp (w : Work) (k j : CompId) : (w.loseIfActive k).comp j =
    if j = k ∧ (w.comp k).active = true then Unloading (w.comp k) else w.comp j := by
  have unloaded : (w.unloadComp k).comp j = if j = k then Unloading (w.comp k) else w.comp j :=
    Work.modComp_comp w k j _
  have given : ∀ b, ((w.unloadComp k).giveBack k b).comp j = (w.unloadComp k).comp j := fun b => by
    unfold State.comp
    rw [(Work.hands_giveBack (w.unloadComp k) k b).comps]
  by_cases h : (w.comp k).active = true
  · rw [Work.loseIfActive_active h]
    simp only [h, and_true]
    split
    · rw [given, unloaded]
    · exact unloaded
  · rw [Work.loseIfActive_idle (by simpa using h), if_neg (fun x => h x.2)]

/-- A bank that the compressor does not claim stands. -/
theorem Work.loseIfActive_other {w : Work} {k : CompId} {b : BankId} (h : (w.bank b).claimant ≠ some (.comp k)) :
    (w.loseIfActive k).bank b = w.bank b := by
  by_cases ha : (w.comp k).active = true
  · rw [Work.loseIfActive_active ha]
    split
    · next c _ =>
      by_cases e : b = c
      · subst e
        rw [Work.giveBack_notHeld (w := w.unloadComp k) h]
        rfl
      · exact (Work.hands_giveBack (w.unloadComp k) k c).others b e
    · rfl
  · rw [Work.loseIfActive_idle (by simpa using ha)]

/-- A lost bank keeps its yield count. -/
theorem Work.loseIfActive_yields (w : Work) (k : CompId) (b : BankId) :
    ((w.loseIfActive k).bank b).yields = (w.bank b).yields := by
  by_cases ha : (w.comp k).active = true
  · rw [Work.loseIfActive_active ha]
    split
    · next c _ =>
      have hands := Work.hands_giveBack (w.unloadComp k) k c
      by_cases e : b = c
      · rw [e]; exact hands.yields
      · rw [hands.others b e]; rfl
    · rfl
  · rw [Work.loseIfActive_idle (by simpa using ha)]

/-- No loss makes a compressor the claimant of a bank. -/
theorem Work.loseIfActive_claimant (w : Work) (k j : CompId) (b : BankId)
    (h : ((w.loseIfActive k).bank b).claimant = some (.comp j)) : (w.bank b).claimant = some (.comp j) := by
  by_cases ha : (w.comp k).active = true
  · rw [Work.loseIfActive_active ha] at h
    split at h
    · next c _ =>
      have hands := Work.hands_giveBack (w.unloadComp k) k c
      by_cases e : b = c
      · rw [e] at h ⊢; exact hands.claimant j h
      · rw [hands.others b e] at h; exact h
    · exact h
  · rw [Work.loseIfActive_idle (by simpa using ha)] at h; exact h

/-- The refilled bank of a lost refill is not the compressor's any more. -/
theorem Work.loseIfActive_lost {w : Work} {k : CompId} {b : BankId} (ha : (w.comp k).active = true)
    (hb : (w.comp k).bank = some b) (hc : (w.bank b).claimant = some (.comp k)) (hs : (w.bank b).state = .refilling) :
    ((w.loseIfActive k).bank b).claimant ≠ some (.comp k) := by
  have held : (w.unloadComp k).heldBy (.comp k) b = true := State.heldBy_refilling (s := (w.unloadComp k).toState) hc hs
  rw [Work.loseIfActive_active ha, hb]
  dsimp only
  unfold Work.giveBack
  rw [if_pos held]
  intro claimed
  have ready := (Work.hands_offerBank (((w.unloadComp k).makeReady b).frontQueue b) b).claimant k claimed
  have free : (((w.unloadComp k).makeReady b).bank b).claimant = none :=
    congrArg Bank.claimant (Work.modBank_bank_self (w.unloadComp k) b _)
  rw [show ((((w.unloadComp k).makeReady b).frontQueue b).bank b) = ((w.unloadComp k).makeReady b).bank b from rfl,
    free] at ready
  cases ready

/-- A lost refill with no position waiting: the bank is READY at the front of its class (03, R45). -/
structure Work.GivenBack (w t : Work) (b : BankId) : Prop where
  ready : (t.bank b).state = .ready
  queue : t.refillQueue =
    placeFront w.priorities { bank := b, stamp := w.station.clock } (withoutBank b w.refillQueue)

theorem Bank.enterReady_priority (k : Bank) (c : Clock) (n : Nat) : (k.enterReady c n).priority = k.priority := by
  obtain ⟨_, _, _, _, priority, _⟩ := k.withFlags_settings
  exact priority

theorem Work.loseIfActive_givenBack {w : Work} {k : CompId} {b : BankId} (nobody : w.waitList = [])
    (ha : (w.comp k).active = true) (hb : (w.comp k).bank = some b) (hc : (w.bank b).claimant = some (.comp k))
    (hs : (w.bank b).state = .refilling) : w.GivenBack (w.loseIfActive k) b := by
  have held : (w.unloadComp k).heldBy (.comp k) b = true := State.heldBy_refilling (s := (w.unloadComp k).toState) hc hs
  have lost : w.loseIfActive k = ((w.unloadComp k).makeReady b).frontQueue b := by
    rw [Work.loseIfActive_active ha, hb]
    exact Work.giveBack_nobody (w := w.unloadComp k) nobody held
  have bank : ∀ c, ((w.unloadComp k).makeReady b).bank c =
      if c = b then (w.bank b).enterReady w.station.clock w.station.leakWindow else w.bank c :=
    fun c => Work.modBank_bank (w.unloadComp k) b c _
  rw [lost]
  constructor
  · show (((w.unloadComp k).makeReady b).bank b).state = .ready
    rw [bank, if_pos rfl]
    rfl
  · show placeFront (fun x => (((w.unloadComp k).makeReady b).bank x).priority) _ _ = _
    congr 1
    funext c
    rw [bank]
    split
    · next e => rw [e]; exact Bank.enterReady_priority _ _ _
    · rfl

/-- With no position waiting none waits after a loss. -/
theorem Work.loseIfActive_nobody {w : Work} (k : CompId) (nobody : w.waitList = []) :
    (w.loseIfActive k).waitList = [] := by
  by_cases ha : (w.comp k).active = true
  · rw [Work.loseIfActive_active ha]
    split
    · next c _ =>
      by_cases held : (w.unloadComp k).heldBy (.comp k) c = true
      · rw [Work.giveBack_nobody (w := w.unloadComp k) nobody held]
        exact nobody
      · unfold Work.giveBack
        rw [if_neg held]
        exact nobody
    · exact nobody
  · rw [Work.loseIfActive_idle (by simpa using ha)]
    exact nobody

/-- With no position waiting, a bank that another claims or none stays queued. -/
theorem Work.loseIfActive_queued {w : Work} {k : CompId} {b : BankId} (nobody : w.waitList = [])
    (hc : (w.bank b).claimant ≠ some (.comp k)) (hq : w.queued b = true) : (w.loseIfActive k).queued b = true := by
  by_cases ha : (w.comp k).active = true
  · rw [Work.loseIfActive_active ha]
    split
    · next c _ =>
      by_cases held : (w.unloadComp k).heldBy (.comp k) c = true
      · have other : b ≠ c := by
          rintro rfl
          exact hc (State.heldBy_claimant held)
        rw [Work.giveBack_nobody (w := w.unloadComp k) nobody held]
        obtain ⟨e, he, eb⟩ := List.any_eq_true.mp hq
        refine List.any_eq_true.mpr ⟨e, ?_, eb⟩
        rw [Work.frontQueue_refillQueue]
        refine (mem_placeFront _ _ _ _).mpr (.inr (List.mem_filter.mpr ⟨he, ?_⟩))
        rw [beq_iff_eq] at eb
        simpa [eb] using other
      · unfold Work.giveBack
        rw [if_neg held]
        exact hq
    · exact hq
  · rw [Work.loseIfActive_idle (by simpa using ha)]
    exact hq

/-- A bank given back is queued. -/
theorem Work.GivenBack.queued {w t : Work} {b : BankId} (h : w.GivenBack t b) : t.queued b = true := by
  unfold State.queued
  rw [h.queue]
  exact List.any_eq_true.mpr ⟨_, (mem_placeFront _ _ _ _).mpr (.inl rfl), by simp⟩

end Sys2Proof.Machine
end

section
/-! A channel that goes BAD: the suction loss, the owners' reactions, and O5 (01, R7, R8). -/
open Sys2Proof Sys2Proof.Machine
namespace Sys2Proof.Machine

/-! ### A suction loss -/

theorem Work.suctionLoss_comp (w : Work) (k : CompId) : w.suctionLoss.comp k =
    if (w.comp k).active = true then Unloading (w.comp k) else w.comp k := by
  rw [Work.suctionLoss_eq, Work.loseIfActive_comp, Work.loseIfActive_comp, Work.loseIfActive_comp]
  match k with
  | 0 => simp
  | 1 => simp

/-- Of the two losses, the one of compressor `k`, between what came before it and what comes after. -/
structure Work.LossOf (k : CompId) (w v u : Work) : Prop where
  evolves : w.Evolves v
  comp : v.comp k = w.comp k
  bank : ∀ b, (w.bank b).claimant = some (.comp k) → v.bank b = w.bank b
  nobody : w.waitList = [] → v.waitList = []
  alone : (∀ j, j ≠ k → (w.comp j).active = false) → v = w ∧ u = v.loseIfActive k
  yields : ∀ b, (u.bank b).yields = (w.bank b).yields
  lost : ∀ b, ((v.loseIfActive k).bank b).claimant ≠ some (.comp k) → (u.bank b).claimant ≠ some (.comp k)
  stays : ∀ b, w.waitList = [] → (∀ j, j ≠ k → ((v.loseIfActive k).bank b).claimant ≠ some (.comp j)) →
    (v.loseIfActive k).queued b = true → u.bank b = (v.loseIfActive k).bank b ∧ u.queued b = true

theorem Work.suctionLoss_yields (w : Work) (b : BankId) : (w.suctionLoss.bank b).yields = (w.bank b).yields := by
  rw [Work.suctionLoss_eq, Work.loseIfActive_yields, Work.loseIfActive_yields]

theorem Work.lossOf (w : Work) (k : CompId) : ∃ v, Work.LossOf k w v w.suctionLoss := by
  match k with
  | 0 =>
    refine ⟨w, .refl _, rfl, fun _ _ => rfl, id, fun idle => ⟨rfl, ?_⟩, w.suctionLoss_yields, fun b free claimed => ?_,
      fun b nobody others queued => ?_⟩
    · rw [Work.suctionLoss_eq]
      refine Work.loseIfActive_idle ?_
      rw [Work.loseIfActive_comp, if_neg (by simp)]
      exact idle 1 (by decide)
    · exact free (Work.loseIfActive_claimant _ 1 0 b claimed)
    · have other := others 1 (by decide)
      exact ⟨Work.loseIfActive_other other, Work.loseIfActive_queued (Work.loseIfActive_nobody 0 nobody) other queued⟩
  | 1 =>
    refine ⟨w.loseIfActive 0, w.evolves_loseIfActive 0, ?_, fun b hc => Work.loseIfActive_other (by simp [hc]),
      Work.loseIfActive_nobody 0, fun idle => ⟨Work.loseIfActive_idle (idle 0 (by decide)), rfl⟩, w.suctionLoss_yields,
      fun _ free => free, fun _ _ _ queued => ⟨rfl, queued⟩⟩
    rw [Work.loseIfActive_comp, if_neg (by simp)]

/-- A bank given back with no position waiting is claimed by no compressor: it is READY as its entry left it. -/
theorem Work.loseIfActive_free {w : Work} {k : CompId} {b : BankId} (ha : (w.comp k).active = true)
    (hb : (w.comp k).bank = some b) (hc : (w.bank b).claimant = some (.comp k)) (hs : (w.bank b).state = .refilling)
    (j : CompId) : ((w.loseIfActive k).bank b).claimant ≠ some (.comp j) := by
  intro claimed
  have before := Work.loseIfActive_claimant w k j b claimed
  rw [hc] at before
  cases before
  exact Work.loseIfActive_lost ha hb hc hs claimed

theorem State.Evolves.priorities {s t : State} (h : s.Evolves t) : t.priorities = s.priorities :=
  funext fun b => (h.bank b).priority

/-- A suction loss, its queue in the places of R43 (03, R45, R55). -/
theorem Work.suctionLoss_lost (w : Work) (s0 : State) (short : w.suction = .short) :
    SuctionLost w.toState (w.suctionLoss.close s0) := by
  have after : w.suctionLoss.suction = .short := w.evolves_suctionLoss.suction.trans short
  obtain ⟨banks, comps, queue⟩ :=
    Work.Unevaluated.close (w := w.suctionLoss) (.inl fun on => by rw [after] at on; cases on.2.2) s0
  have bank : ∀ b, (w.suctionLoss.close s0).bank b = w.suctionLoss.bank b := fun b => by unfold State.bank; rw [banks]
  have comp : ∀ k, (w.suctionLoss.close s0).comp k = w.suctionLoss.comp k := fun k => by unfold State.comp; rw [comps]
  have queued : ∀ b, (w.suctionLoss.close s0).queued b = w.suctionLoss.queued b := fun b => by
    unfold State.queued; rw [queue]
  refine ⟨(w.suctionLoss.settles_close s0).suction.trans after, fun k => ?_, fun k b ha hb hc hs => ?_,
    fun b c nobody law ha0 ha1 hb0 hb1 hc0 hc1 hs0 hs1 => ?_⟩
  · rw [comp, Work.suctionLoss_comp]
    exact ⟨fun ha => if_pos ha, fun ha => if_neg (by simp [ha])⟩
  · obtain ⟨v, loss⟩ := w.lossOf k
    have ha' : (v.comp k).active = true := loss.comp ▸ ha
    have hb' : (v.comp k).bank = some b := loss.comp ▸ hb
    have hc' : (v.bank b).claimant = some (.comp k) := loss.bank b hc ▸ hc
    have hs' : (v.bank b).state = .refilling := loss.bank b hc ▸ hs
    have free := Work.loseIfActive_free ha' hb' hc' hs'
    rw [bank, queued, queue]
    refine ⟨loss.lost b (free k), loss.yields b, fun nobody => ?_, fun nobody law idle => ?_⟩
    · have given := Work.loseIfActive_givenBack (loss.nobody nobody) ha' hb' hc' hs'
      obtain ⟨same, stays⟩ := loss.stays b nobody (fun j _ => free j) given.queued
      exact ⟨same ▸ given.ready, stays⟩
    · obtain ⟨before, last⟩ := loss.alone idle
      have given := Work.loseIfActive_givenBack (loss.nobody nobody) ha' hb' hc' hs'
      rw [last, given.queue, before]
      exact placeFront_eq (e := { bank := b, stamp := w.station.clock }) law.2.2
  · have first := Work.loseIfActive_givenBack nobody ha0 hb0 hc0 hs0
    have second := Work.loseIfActive_givenBack (w := w.loseIfActive 0) (k := 1) (b := c)
      (Work.loseIfActive_nobody 0 nobody)
      (by rw [Work.loseIfActive_comp, if_neg (by simp)]; exact ha1)
      (by rw [Work.loseIfActive_comp, if_neg (by simp)]; exact hb1)
      (by rw [Work.loseIfActive_other (by simp [hc1])]; exact hc1)
      (by rw [Work.loseIfActive_other (by simp [hc1])]; exact hs1)
    have evolves := w.evolves_loseIfActive 0
    rw [queue, Work.suctionLoss_eq, second.queue, first.queue, evolves.priorities, evolves.station,
      placeFront_eq (e := { bank := b, stamp := w.station.clock }) law.2.2]
    exact placeFront_eq (e := { bank := c, stamp := w.station.clock }) (atFront_inOrder law.2.2)

/-! ### The owners' reactions -/

/-- The rule of a channel that goes BAD, up to its owner's report (01, R7). -/
def State.lossBegun (s : State) (c : Channel) : Work :=
  { s.begin with link := s.link.setChan c (s.link.chan c).toBad }

theorem State.channelLost_rule (s : State) (c : Channel) :
    s.rule (Work.channelLost c) = ((s.lossBegun c).badReport c).close s := rfl

/-- A bank in service whose channel goes BAD is isolated, with N11 (02, R26). -/
theorem State.channelLost_isolates {s : State} {c : Channel} {b : BankId} (hc : c = .bankP b ∨ c = .bankT b)
    (serves : (s.bank b).inService = true) :
    ((s.rule (Work.channelLost c)).bank b).state = .isolated ∧
      ((s.rule (Work.channelLost c)).bank b).isolation = some .sensor ∧ (s.rule (Work.channelLost c)).requested 11 := by
  have isolated : ∀ w : Work, (w.bank b).inService = true →
      (((w.isolateBank b .sensor).close s).bank b).state = .isolated ∧
      (((w.isolateBank b .sensor).close s).bank b).isolation = some .sensor ∧
      ((w.isolateBank b .sensor).close s).requested 11 := by
    intro w serves
    obtain ⟨state, reason, notice⟩ := Work.isolateBank_isolates serves .sensor
    have settles := (w.isolateBank b .sensor).settles_close s
    obtain ⟨state', reason'⟩ := settles.isolated state reason
    exact ⟨state', reason', settles.requested notice⟩
  rw [State.channelLost_rule]
  obtain rfl | rfl := hc
  · exact isolated ((s.lossBegun _).modBank b _) (by rw [Work.modBank_bank_self]; exact serves)
  · exact isolated ((s.lossBegun _).modBank b _) (by rw [Work.modBank_bank_self]; exact serves)

/-- A fill whose hose channel goes BAD ends with SENSOR (05, R90). -/
theorem State.channelLost_endsFill {s : State} {p : PosId} (live : (s.pos p).ses.state.live = true) :
    ((s.rule (Work.channelLost (.hoseP p))).pos p).Ended .sensor s.station.clock := by
  rw [State.channelLost_rule, Work.close_pos]
  exact Work.endFill_ended (w := (s.lossBegun _).modPos p _) (by rw [Work.modPos_pos_self]; exact live) .sensor

theorem Work.judgeSuction_lost {w : Work} (h : w.suction = .sufficient) :
    w.judgeSuction false = ({ w with suction := .short } : Work).suctionLoss := by
  unfold Work.judgeSuction
  rw [h]

theorem Work.judgeSuction_short {w : Work} (h : w.suction = .short) : w.judgeSuction false = w := by
  unfold Work.judgeSuction
  rw [h]

/-- The suction channel going BAD is a suction loss when the condition was SUFFICIENT, and nothing more when it was
SHORT (03, R48). -/
theorem State.channelLost_suction (s : State) :
    (s.suction = .sufficient → SuctionLost s (s.rule (Work.channelLost .suctionP))) ∧
    (s.suction = .short → (s.rule (Work.channelLost .suctionP)).suction = .short ∧
      (s.rule (Work.channelLost .suctionP)).comps = s.comps) := by
  rw [State.channelLost_rule]
  unfold Work.badReport
  dsimp only
  refine ⟨fun enough => ?_, fun short => ?_⟩
  · rw [Work.judgeSuction_lost (w := (s.lossBegun .suctionP).modStation _) enough]
    exact Work.suctionLoss_lost { (s.lossBegun .suctionP).modStation _ with suction := .short } s rfl
  · rw [Work.judgeSuction_short (w := (s.lossBegun .suctionP).modStation _) short,
      Work.close_quiet (s0 := s) (w := (s.lossBegun .suctionP).modStation _) rfl rfl rfl]
    exact ⟨short, rfl⟩

/-- A channel that goes BAD (01, R7, R8). -/
theorem State.channelLost_wentBad (s : State) (c : Channel) : ChannelWentBad s (s.rule (Work.channelLost c)) c := by
  have judged := s.channelLost_judged c
  have took : s.Took (s.rule (Work.channelLost c)) c none :=
    State.Took.stands ((s.stands_link _).took ((s.lossBegun c).badReport_took c))
      (Work.settles_close ((s.lossBegun c).badReport c) s).stands
  refine ⟨?_, fun d hd => ?_, took.reading, took.others, fun b hb serves => State.channelLost_isolates hb serves,
    fun p hp live => ?_, fun hc => hc ▸ s.channelLost_suction, took.settings, took.holds, took.port⟩
  · exact (judged.chan c).trans (if_pos rfl)
  · exact (judged.chan d).trans (if_neg hd)
  · subst hp
    have ended := State.channelLost_endsFill live
    exact ⟨ended.state, ended.endReason⟩

end Sys2Proof.Machine

/-- Settles O5: a frame judged BAD and a silence expiry are the loss of the channel, unless it is BAD already. -/
theorem channelGoesBadAndItsOwnerIsTold : Obligations.ChannelGoesBadAndItsOwnerIsTold := by
  unfold Obligations.ChannelGoesBadAndItsOwnerIsTold
  refine ⟨fun c kind index lo hi quality check v s rx hk hi' sum hv bad => ?_,
    fun c s => ⟨fun runs => ?_, fun none => ?_⟩⟩
  · have known : quality.toNat ≤ 1 := by
      obtain rfl | ⟨rfl, _⟩ := bad <;> decide
    have parsed := parseSample_taken hk hi' sum known
    rw [channelValue_bytes, ← hv] at parsed
    have judgedBad : ¬((quality == 0) = true ∧ plausible c v = true) := by
      rintro ⟨good, inside⟩
      obtain rfl | ⟨_, outside⟩ := bad
      · exact absurd good (by decide)
      · exact outside ((plausible_iff c v).mp inside)
    rw [sampleFrame_whole rx, parsed]
    dsimp only
    rw [State.badSample_eq s { chan := c, value := v, good := quality == 0 } judgedBad]
    refine ⟨fun good => ⟨_, rfl, ?_⟩, fun bad => ?_⟩
    · rw [if_pos good]
      exact s.channelLost_wentBad c
    · rw [if_neg (by rw [bad]; decide)]
  · refine ⟨_, rfl, ?_⟩
    rw [if_pos runs]
    exact s.channelLost_wentBad c
  · refine congrArg Host.Outcome.next (if_neg ?_)
    rw [none]
    decide
end

section
/-! The coupling of a session: selection in PULSING, a grant request, and O26 (05, R92 to R94; 04, R78 to R80). -/
open Sys2Proof Sys2Proof.Machine
namespace Sys2Proof.Machine

/-! ### A rule that owes nothing at its end -/

/-- Where the end of a rule does no work it leaves at most a route frame. -/
theorem Work.close_still {w : Work} (h : w.wound = w) (s0 : State) :
    w.close s0 = { w.toState with link := (w.close s0).link } := by
  rw [Work.close_eq, h]
  split <;> rfl

/-- A rule that owes neither a serving nor an evaluation leaves at its end at most a route frame. -/
theorem Work.close_nothingDue {w : Work} (hs : w.serveDue = false) (he : w.evalDue = false) (s0 : State) :
    w.close s0 = { w.toState with link := (w.close s0).link } :=
  Work.close_still (by unfold Work.wound; simp [hs, he]) s0

/-! ### Selection -/

/-- Selection reads the banks alone. -/
theorem State.select_congr {s t : State} (h : t.banks = s.banks) (need : Nat) (tiers : List Tier) :
    t.select need tiers = s.select need tiers := by
  have keys : ∀ tier, t.selectKey tier need = s.selectKey tier need := fun tier => by
    funext b
    unfold State.selectKey State.bank
    rw [h]
  induction tiers with
  | nil => rfl
  | cons tier rest ih =>
    unfold State.select
    rw [keys, ih]

theorem pickLowest_some {key : BankId → Option Nat} {bs : List BankId} {b : BankId} (h : pickLowest key bs = some b) :
    (key b).isSome = true := by
  induction bs with
  | nil => cases h
  | cons c cs ih =>
    unfold pickLowest at h
    split at h
    · exact ih h
    · next v hv _ => cases h; rw [hv]; rfl
    · next v d hv hd =>
      split at h
      · cases h; exact ih hd
      · cases h; rw [hv]; rfl

/-- A selected bank is READY (05, R94). -/
theorem State.select_ready {s : State} {need : Nat} {tiers : List Tier} {b : BankId}
    (h : s.select need tiers = some b) : (s.bank b).state = .ready := by
  induction tiers with
  | nil => cases h
  | cons tier rest ih =>
    unfold State.select at h
    split at h
    · next c found =>
      cases h
      have chosen := pickLowest_some found
      unfold State.selectKey at chosen
      dsimp only at chosen
      split at chosen
      · next ready => exact ready.1
      · cases chosen
    · exact ih h

/-! ### The wait list -/

/-- A position that joins the wait list waits. -/
theorem Work.joinWaitList_waits_self (w : Work) (p : PosId) (ts : List Tier) :
    (w.joinWaitList p ts).waits p = true := by
  unfold Work.joinWaitList
  split
  · next waits =>
    obtain ⟨e, he, ep⟩ := List.any_eq_true.mp waits
    refine List.any_eq_true.mpr ⟨_, List.mem_map_of_mem he, ?_⟩
    simp [ep]
  · simp [Work.raisePos, State.waits]

/-- No other position's place on the list depends on it. -/
theorem Work.joinWaitList_waits_ne (w : Work) {p q : PosId} (ts : List Tier) (h : p ≠ q) :
    (w.joinWaitList q ts).waits p = w.waits p := by
  unfold Work.joinWaitList
  split
  · unfold State.waits
    rw [List.any_map]
    congr 1
    funext e
    simp only [Function.comp_apply]
    split <;> rfl
  · simp [Work.raisePos, State.waits, h.symm]

/-! ### Selection in PULSING -/

/-- What selection in PULSING leaves of everything but the bank, the wait list and the position's pulse (05, R94). -/
structure Work.Selected (p : PosId) (w t : Work) : Prop where
  loops : t.loops = w.loops
  serveDue : t.serveDue = w.serveDue
  evalDue : t.evalDue = w.evalDue
  state : (t.pos p).ses.state = (w.pos p).ses.state
  connect : (t.pos p).tmr.connect = (w.pos p).tmr.connect
  cooling : (t.pos p).tmr.cooling = (w.pos p).tmr.cooling
  others : ∀ q, q ≠ p → t.pos q = w.pos q ∧ t.waits q = w.waits q

theorem Work.pulsingSelect_found {w : Work} {p : PosId} {b : BankId}
    (h : w.select (w.needOf p) (w.pos p).cfg.cls.tiers = some b) :
    w.pulsingSelect p = (w.claimBank (.pos p) b).modPos p (Position.startPulse b) := by
  unfold Work.pulsingSelect
  dsimp only
  rw [h]

theorem Work.pulsingSelect_none {w : Work} {p : PosId} (h : w.select (w.needOf p) (w.pos p).cfg.cls.tiers = none) :
    w.pulsingSelect p = (w.joinWaitList p (w.pos p).cfg.cls.tiers).modPos p
      (fun x => { x with tmr.bankWait := some Config.bankWaitMs }) := by
  unfold Work.pulsingSelect
  dsimp only
  rw [h]

/-- Joining the wait list changes the list and the notices alone. -/
theorem Work.joinWaitList_frame (w : Work) (p : PosId) (ts : List Tier) : (w.joinWaitList p ts).loops = w.loops ∧
    (w.joinWaitList p ts).serveDue = w.serveDue ∧ (w.joinWaitList p ts).evalDue = w.evalDue ∧
    ∀ q, (w.joinWaitList p ts).pos q = w.pos q := by
  unfold Work.joinWaitList
  split <;> exact ⟨rfl, rfl, rfl, fun _ => rfl⟩

theorem Work.pulsingSelect_selected (w : Work) (p : PosId) : Work.Selected p w (w.pulsingSelect p) := by
  cases found : w.select (w.needOf p) (w.pos p).cfg.cls.tiers with
  | some b =>
    rw [Work.pulsingSelect_found found]
    refine ⟨rfl, rfl, rfl, ?_, ?_, ?_, fun q hq => ⟨Work.modPos_pos_ne _ _ hq, rfl⟩⟩ <;>
      (rw [Work.modPos_pos_self]; rfl)
  | none =>
    rw [Work.pulsingSelect_none found]
    obtain ⟨loops, serve, eval, pos⟩ := w.joinWaitList_frame p (w.pos p).cfg.cls.tiers
    refine ⟨loops, serve, eval, ?_, ?_, ?_, fun q hq => ⟨?_, w.joinWaitList_waits_ne _ hq⟩⟩
    · rw [Work.modPos_pos_self, pos]
    · rw [Work.modPos_pos_self, pos]
    · rw [Work.modPos_pos_self, pos]
    · rw [Work.modPos_pos_ne _ _ hq, pos]

/-! ### Serving a loop's queue spares a session that is not COOLING -/

/-- State and place on the wait list of position `p` stand. -/
structure Work.Spares (p : PosId) (w t : Work) : Prop where
  state : (t.pos p).ses.state = (w.pos p).ses.state
  waits : t.waits p = w.waits p

theorem Work.Spares.refl (p : PosId) (w : Work) : Work.Spares p w w := ⟨rfl, rfl⟩

theorem Work.Spares.trans {p : PosId} {a b c : Work} (h : Work.Spares p a b) (g : Work.Spares p b c) :
    Work.Spares p a c := ⟨g.state.trans h.state, g.waits.trans h.waits⟩

theorem Work.spares_modPos (w : Work) (p q : PosId) {f : Position → Position}
    (h : (f (w.pos q)).ses.state = (w.pos q).ses.state) : Work.Spares p w (w.modPos q f) := by
  refine ⟨?_, rfl⟩
  rw [Work.modPos_pos]
  split
  · next e => rw [e, h]
  · rfl

theorem Work.spares_grantGiven (w : Work) (p q : PosId) (h : (w.pos p).ses.state ≠ .cooling) :
    Work.Spares p w (w.grantGiven q) := by
  have told : Work.Spares p w (w.modPos q (fun x => { x with ses.band := .cold })) := w.spares_modPos p q rfl
  unfold Work.grantGiven
  dsimp only
  split
  · next cooling =>
    have other : p ≠ q := by
      rintro rfl
      exact h cooling
    refine told.trans ?_
    have selected := Work.pulsingSelect_selected ((w.modPos q (fun x => { x with ses.band := .cold })).modPos q
      (fun x => { x with ses.state := .pulsing, tmr.cooling := none })) q
    obtain ⟨pos, waits⟩ := selected.others p other
    rw [Work.modPos_pos_ne _ _ other] at pos
    exact ⟨by rw [pos], waits⟩
  · exact told

theorem Work.spares_serveQueueN (p : PosId) (n : Nat) (l : LoopId) (w : Work) (h : (w.pos p).ses.state ≠ .cooling) :
    Work.Spares p w (Work.serveQueueN n l w) := by
  induction n generalizing w with
  | zero => exact .refl p w
  | succ n ih =>
    unfold Work.serveQueueN
    split
    · exact .refl p w
    · next q rest _ =>
      split
      · have given := Work.spares_grantGiven
          (w.modLoop l (fun x => { x with grants := x.grants ++ [q], queue := rest })) p q h
        refine Work.Spares.trans ⟨given.state, given.waits⟩ (ih _ ?_)
        rw [given.state]
        exact h
      · exact .refl p w

theorem Work.spares_leaveLoop (w : Work) (p q : PosId) (h : (w.pos p).ses.state ≠ .cooling) :
    Work.Spares p w (w.leaveLoop q) := by
  unfold Work.leaveLoop
  split
  · exact .refl p w
  · next l _ =>
    split
    · obtain ⟨state, waits⟩ := Work.spares_serveQueueN p 2 l (w.modLoop l (Loop.dropGrant q)) h
      exact ⟨state, waits⟩
    · split
      · obtain ⟨state, waits⟩ := Work.spares_serveQueueN p 2 l
          (w.modLoop l (fun x => { x with queue := x.queue.filter (fun y => y != q) })) h
        exact ⟨state, waits⟩
      · exact .refl p w

/-- A session that names no bank and is not COOLING leaves the wait list when its fill ends (05, R101). -/
theorem Work.endCore_waits {w : Work} {p : PosId} (hc : (w.pos p).ses.current = none)
    (hs : (w.pos p).ses.staged = none) (cooling : (w.pos p).ses.state ≠ .cooling) (r : EndReason) :
    (w.endCore p r).waits p = false := by
  have marked : (w.modPos p (Position.markEnd r w.station.clock)).pos p = (w.pos p).markEnd r w.station.clock :=
    Work.modPos_pos_self w p _
  have released : (w.modPos p (Position.markEnd r w.station.clock)).releaseNamed p =
      (w.modPos p (Position.markEnd r w.station.clock)).modPos p
        (fun y => { y with ses := { y.ses with current := none, staged := none } }) := by
    unfold Work.releaseNamed
    rw [marked]
    unfold Position.markEnd
    dsimp only
    rw [hc, hs]
  have uncooled : (((w.modPos p (Position.markEnd r w.station.clock)).releaseNamed p).pos p).ses.state ≠ .cooling := by
    rw [released, Work.modPos_pos_self, marked]
    exact cooling
  have spared := Work.spares_leaveLoop
    (((w.modPos p (Position.markEnd r w.station.clock)).releaseNamed p).leaveWaitList p) p p uncooled
  refine spared.waits.trans ?_
  show List.any (List.filter _ _) _ = false
  simp

/-! ### The coupling -/

/-- The stamp and the connect timer at a coupling (05, R92). -/
def Position.stampCoupling (clock : Clock) (x : Position) : Position :=
  { x with ses.coupledStamp := some clock, tmr := { x.tmr with connect := none } }

/-- A coupled session that asks for a grant (05, R92). -/
def Position.toCooling (x : Position) : Position :=
  { x with ses.state := .cooling, tmr.cooling := some Config.coolingMs }

/-- A coupled session that needs no grant (05, R92). -/
def Position.toPulsing (x : Position) : Position := { x with ses.state := .pulsing }

theorem Work.couple_noHose {w : Work} {p : PosId} (h : (w.pos p).ses.hose = none) :
    w.couple p = (w.modPos p (Position.stampCoupling w.station.clock)).endCore p .sensor := by
  unfold Work.couple
  exact if_pos h

theorem Work.couple_direct {w : Work} {p : PosId} {v : Nat} (h : (w.pos p).ses.hose = some v)
    (hp : (w.pos p).cfg.precool = false) :
    w.couple p =
      ((w.modPos p (Position.stampCoupling w.station.clock)).modPos p Position.toPulsing).pulsingSelect p := by
  unfold Work.couple
  dsimp only
  rw [if_neg (by simp [h]), if_neg (by simp [hp])]
  rfl

theorem Work.couple_precool {w : Work} {p : PosId} {v : Nat} {l : LoopId} (h : (w.pos p).ses.hose = some v)
    (hp : (w.pos p).cfg.precool = true) (hl : (w.pos p).cfg.loop = some l) :
    w.couple p =
      ((w.modPos p (Position.stampCoupling w.station.clock)).modPos p Position.toCooling).requestGrant p l := by
  unfold Work.couple
  dsimp only
  rw [if_neg (by simp [h]), if_pos hp, hl]
  rfl

/-- Beyond the stamp a coupling is made of shared operations. -/
theorem Work.couple_evolves (w : Work) (p : PosId) :
    (w.modPos p (Position.stampCoupling w.station.clock)).Evolves (w.couple p) := by
  unfold Work.couple
  dsimp only
  split
  · exact Work.evolves_endCore _ p _
  · split
    · have cooled := Work.evolves_modPos (w.modPos p (Position.stampCoupling w.station.clock)) p Position.toCooling
        fun _ => ⟨rfl, rfl, rfl, rfl, rfl, rfl, rfl, rfl, rfl, rfl, rfl⟩
      split
      · exact cooled.trans (Work.evolves_requestGrant _ p _)
      · exact cooled
    · have pulsing := Work.evolves_modPos (w.modPos p (Position.stampCoupling w.station.clock)) p Position.toPulsing
        fun _ => ⟨rfl, rfl, rfl, rfl, rfl, rfl, rfl, rfl, rfl, rfl, rfl⟩
      exact pulsing.trans (Work.evolves_pulsingSelect _ p)

/-! ### A grant request -/

/-- A loop that cannot grant puts the position at the back of its queue (04, R78, R79). -/
theorem Work.requestGrant_waits {w : Work} {p : PosId} {l : LoopId} (hg : p ∉ (w.loop l).grants)
    (hq : p ∉ (w.loop l).queue) (h : (w.loop l).canGrant = false) :
    w.requestGrant p l = w.modLoop l (fun x => { x with queue := x.queue ++ [p] }) := by
  have shut : ((w.modLoop l (fun x => { x with queue := x.queue ++ [p] })).loop l).canGrant = false := by
    rw [Work.modLoop_loop_self]
    exact h
  unfold Work.requestGrant
  rw [if_neg (by simp [hg, hq])]
  unfold Work.serveQueue Work.serveQueueN
  split
  · rfl
  · rw [if_neg (by rw [shut]; decide)]

/-- A loop with an empty queue that can grant grants at once (04, R78, R79). -/
theorem Work.requestGrant_granted {w : Work} {p : PosId} {l : LoopId} (hg : p ∉ (w.loop l).grants)
    (hq : (w.loop l).queue = []) (h : (w.loop l).canGrant = true) :
    ∃ v : Work, w.requestGrant p l = v.grantGiven p ∧ v.positions = w.positions ∧ v.serveDue = w.serveDue ∧
      v.evalDue = w.evalDue ∧ v.loop l = { w.loop l with grants := (w.loop l).grants ++ [p] } := by
  have asked : (w.modLoop l (fun x => { x with queue := x.queue ++ [p] })).loop l =
      { w.loop l with queue := [p] } := by
    rw [Work.modLoop_loop_self, hq]
    rfl
  have granted : (((w.modLoop l (fun x => { x with queue := x.queue ++ [p] })).modLoop l
      (fun x => { x with grants := x.grants ++ [p], queue := [] })).loop l) =
      { w.loop l with grants := (w.loop l).grants ++ [p] } := by
    rw [Work.modLoop_loop_self, asked, ← hq]
  refine ⟨(w.modLoop l (fun x => { x with queue := x.queue ++ [p] })).modLoop l
    (fun x => { x with grants := x.grants ++ [p], queue := [] }), ?_, rfl, rfl, rfl, granted⟩
  have served : ∀ v : Work, (v.loop l).queue = [] → Work.serveQueueN 1 l v = v := fun v empty => by
    unfold Work.serveQueueN
    rw [empty]
  have loops : ∀ v : Work, (v.grantGiven p).loops = v.loops := fun v => by
    unfold Work.grantGiven
    dsimp only
    split
    · exact (Work.pulsingSelect_selected _ p).loops
    · rfl
  unfold Work.requestGrant
  rw [if_neg (by simp [hg, hq])]
  unfold Work.serveQueue Work.serveQueueN
  rw [asked]
  dsimp only
  rw [if_pos (by exact h), served]
  show (State.loop _ l).queue = []
  unfold State.loop
  rw [loops]
  exact (congrArg Loop.queue granted).trans hq

end Sys2Proof.Machine
end

section
/-! O26: a coupled arrival, branch by branch of the coupling (01, R11; 05, R92 to R94; 04, R78, R79). -/
open Sys2Proof Sys2Proof.Machine
namespace Sys2Proof.Machine

/-! ### The connect timer stands through a grant -/

/-- The connect timer of every position stands from `w` to `t`. -/
def Work.KeepsConnect (w t : Work) : Prop := ∀ q, (t.pos q).tmr.connect = (w.pos q).tmr.connect

theorem Work.KeepsConnect.trans {a b c : Work} (h : a.KeepsConnect b) (g : b.KeepsConnect c) : a.KeepsConnect c :=
  fun q => (g q).trans (h q)

theorem Work.keepsConnect_modPos (w : Work) (p : PosId) {f : Position → Position}
    (h : (f (w.pos p)).tmr.connect = (w.pos p).tmr.connect) : w.KeepsConnect (w.modPos p f) := by
  intro q
  rw [Work.modPos_pos]
  split
  · next e => rw [e, h]
  · rfl

theorem Work.keepsConnect_pulsingSelect (w : Work) (p : PosId) : w.KeepsConnect (w.pulsingSelect p) := by
  intro q
  have selected := w.pulsingSelect_selected p
  by_cases e : q = p
  · rw [e, selected.connect]
  · rw [(selected.others q e).1]

theorem Work.keepsConnect_grantGiven (w : Work) (p : PosId) : w.KeepsConnect (w.grantGiven p) := by
  have told : w.KeepsConnect (w.modPos p (fun x => { x with ses.band := .cold })) := w.keepsConnect_modPos p rfl
  unfold Work.grantGiven
  dsimp only
  split
  · exact (told.trans (Work.keepsConnect_modPos _ p rfl)).trans (Work.keepsConnect_pulsingSelect _ p)
  · exact told

theorem Work.keepsConnect_serveQueueN (n : Nat) (l : LoopId) (w : Work) : w.KeepsConnect (Work.serveQueueN n l w) := by
  induction n generalizing w with
  | zero => exact fun _ => rfl
  | succ n ih =>
    unfold Work.serveQueueN
    split
    · exact fun _ => rfl
    · next q rest _ =>
      split
      · have given := Work.keepsConnect_grantGiven
          (w.modLoop l (fun x => { x with grants := x.grants ++ [q], queue := rest })) q
        exact Work.KeepsConnect.trans (fun x => given x) (ih _)
      · exact fun _ => rfl

theorem Work.keepsConnect_requestGrant (w : Work) (p : PosId) (l : LoopId) : w.KeepsConnect (w.requestGrant p l) := by
  unfold Work.requestGrant
  split
  · exact fun _ => rfl
  · exact fun q => Work.keepsConnect_serveQueueN 2 l (w.modLoop l (fun x => { x with queue := x.queue ++ [p] })) q

/-! ### What a coupling leaves of its position -/

theorem Work.couple_stamp (w : Work) (p : PosId) :
    ((w.couple p).pos p).ses.coupledStamp = some w.station.clock := by
  rw [((w.couple_evolves p).pos p).coupledStamp, Work.modPos_pos_self]
  rfl

theorem Work.couple_connect (w : Work) (p : PosId) : ((w.couple p).pos p).tmr.connect = none := by
  have stamped : ((w.modPos p (Position.stampCoupling w.station.clock)).pos p).tmr.connect = none := by
    rw [Work.modPos_pos_self]
    rfl
  cases hose : (w.pos p).ses.hose with
  | none =>
    rw [Work.couple_noHose hose, (Work.endCore_ended _ p _).timers]
    rfl
  | some v =>
    cases precool : (w.pos p).cfg.precool with
    | false =>
      rw [Work.couple_direct hose precool]
      exact (((Work.keepsConnect_modPos _ p rfl).trans (Work.keepsConnect_pulsingSelect _ p)) p).trans stamped
    | true =>
      have cooled := ((w.modPos p (Position.stampCoupling w.station.clock)).keepsConnect_modPos p
        (f := Position.toCooling) rfl)
      unfold Work.couple
      dsimp only
      rw [if_neg (by simp [hose]), if_pos precool]
      split
      · exact ((cooled.trans (Work.keepsConnect_requestGrant _ p _)) p).trans stamped
      · exact (cooled p).trans stamped

/-! ### Branch by branch -/

/-- The session after a selection in PULSING, from the state `s` it selects in (05, R94). -/
structure State.PulsingFrom (s t : State) (p : PosId) (need : Nat) : Prop where
  state : (t.pos p).ses.state = .pulsing
  found : ∀ b : BankId, s.select need (s.pos p).cfg.cls.tiers = some b →
    (t.pos p).ses.current = some b ∧ (t.pos p).ses.supply = some b ∧ (t.pos p).ses.control = .opened ∧
    (t.pos p).tmr.pulse = some 1000 ∧ (t.bank b).state = .serving ∧ (t.bank b).claimant = some (.pos p)
  none : s.select need (s.pos p).cfg.cls.tiers = none →
    (t.pos p).ses.current = none ∧ (t.pos p).tmr.bankWait = some 60000 ∧ t.waits p = true

/-- A claimed READY bank serves its position (02, R31, R36). -/
theorem Bank.claim_serving {k : Bank} (h : k.state = .ready) (p : PosId) :
    (k.claim (.pos p)).state = .serving ∧ (k.claim (.pos p)).claimant = some (.pos p) := by
  unfold Bank.claim
  rw [if_pos h]
  exact ⟨rfl, rfl⟩

theorem Work.pulsingSelect_pulsingFrom {w : Work} {p : PosId} (h : (w.pos p).ses.state = .pulsing)
    (hc : (w.pos p).ses.current = none) : w.toState.PulsingFrom (w.pulsingSelect p).toState p (w.needOf p) where
  state := (w.pulsingSelect_selected p).state.trans h
  found := fun b found => by
    obtain ⟨serving, claimant⟩ := Bank.claim_serving (State.select_ready found) p
    have bank : (w.pulsingSelect p).bank b = (w.bank b).claim (.pos p) := by
      rw [Work.pulsingSelect_found found]
      exact Work.modBank_bank_self w b _
    rw [bank]
    refine ⟨?_, ?_, ?_, ?_, serving, claimant⟩ <;>
      (rw [Work.pulsingSelect_found found, Work.modPos_pos_self]; rfl)
  none := fun nothing => by
    rw [Work.pulsingSelect_none nothing, Work.modPos_pos_self]
    refine ⟨?_, rfl, w.joinWaitList_waits_self p _⟩
    obtain ⟨_, _, _, pos⟩ := w.joinWaitList_frame p (w.pos p).cfg.cls.tiers
    rw [pos]
    exact hc

/-- With the hose channel BAD the session ends (05, R93). -/
theorem Work.couple_ends {w : Work} {p : PosId} (ha : (w.pos p).ses.state = .authorised)
    (hc : (w.pos p).ses.current = none) (hs : (w.pos p).ses.staged = none) (hose : (w.pos p).ses.hose = none) :
    ((w.couple p).pos p).Ended .sensor w.station.clock ∧ (w.couple p).waits p = false := by
  have stamped : (w.modPos p (Position.stampCoupling w.station.clock)).pos p =
      (w.pos p).stampCoupling w.station.clock := Work.modPos_pos_self w p _
  rw [Work.couple_noHose hose]
  refine ⟨Work.endCore_ended _ p .sensor, Work.endCore_waits ?_ ?_ ?_ .sensor⟩ <;> rw [stamped]
  · exact hc
  · exact hs
  · show (w.pos p).ses.state ≠ _
    rw [ha]
    decide

/-- Without precooling the session selects its bank in PULSING (05, R92, R94). -/
theorem Work.couple_pulses {w : Work} {p : PosId} {v : Nat} (hc : (w.pos p).ses.current = none)
    (hose : (w.pos p).ses.hose = some v) (hp : (w.pos p).cfg.precool = false) :
    w.toState.PulsingFrom (w.couple p).toState p (v + w.station.switchMargin) ∧
      (w.couple p).serveDue = w.serveDue ∧ (w.couple p).evalDue = w.evalDue := by
  rw [Work.couple_direct hose hp]
  generalize hv : (w.modPos p (Position.stampCoupling w.station.clock)).modPos p Position.toPulsing = u
  have pos : u.pos p = ((w.pos p).stampCoupling w.station.clock).toPulsing := by
    rw [← hv, Work.modPos_pos_self, Work.modPos_pos_self]
  have select : ∀ n ts, u.select n ts = w.select n ts := State.select_congr (by rw [← hv]; rfl)
  have need : u.needOf p = v + w.station.switchMargin := by
    have hoseOf : u.hoseOf p = v := by
      unfold State.hoseOf
      rw [pos]
      exact congrArg (Option.getD · _) hose
    unfold State.needOf
    rw [hoseOf, ← hv]
    rfl
  have selected := u.pulsingSelect_selected p
  obtain ⟨state, found, nothing⟩ := Work.pulsingSelect_pulsingFrom (w := u) (p := p) (by rw [pos]; rfl)
    (by rw [pos]; exact hc)
  rw [need, select, pos] at found nothing
  have debts : u.serveDue = w.serveDue ∧ u.evalDue = w.evalDue := by rw [← hv]; exact ⟨rfl, rfl⟩
  exact ⟨⟨state, found, nothing⟩, selected.serveDue.trans debts.1, selected.evalDue.trans debts.2⟩

theorem Loop.canGrant_iff (x : Loop) :
    x.canGrant = true ↔ x.grants.length < 2 ∧ x.band = .cold ∧ x.floor ≤ x.reserve := by
  simp [Loop.canGrant, and_assoc]

/-- A grant given to a COOLING session takes it to PULSING (04, R79; 05, R93). -/
theorem Work.grantGiven_cooling {v : Work} {p : PosId} (h : (v.pos p).ses.state = .cooling) :
    ((v.grantGiven p).pos p).ses.state = .pulsing ∧ ((v.grantGiven p).pos p).tmr.cooling = none ∧
      (v.grantGiven p).loops = v.loops ∧ (v.grantGiven p).serveDue = v.serveDue ∧
      (v.grantGiven p).evalDue = v.evalDue := by
  unfold Work.grantGiven
  dsimp only
  rw [if_pos h]
  have selected := Work.pulsingSelect_selected ((v.modPos p (fun x => { x with ses.band := .cold })).modPos p
    (fun x => { x with ses.state := .pulsing, tmr.cooling := none })) p
  refine ⟨selected.state.trans ?_, selected.cooling.trans ?_, selected.loops, selected.serveDue, selected.evalDue⟩ <;>
    rw [Work.modPos_pos_self]

/-- The stamped session that asks for a grant. -/
theorem Work.cooled_pos (w : Work) (p : PosId) :
    ((w.modPos p (Position.stampCoupling w.station.clock)).modPos p Position.toCooling).pos p =
      ((w.pos p).stampCoupling w.station.clock).toCooling := by
  rw [Work.modPos_pos_self, Work.modPos_pos_self]

/-- With precooling and a loop that cannot grant the session waits in COOLING (05, R92; 04, R79). -/
theorem Work.couple_cools {w : Work} {p : PosId} {v : Nat} {l : LoopId} (hose : (w.pos p).ses.hose = some v)
    (hp : (w.pos p).cfg.precool = true) (hl : (w.pos p).cfg.loop = some l) (hg : p ∉ (w.loop l).grants)
    (hq : p ∉ (w.loop l).queue) (h : (w.loop l).canGrant = false) :
    ((w.couple p).pos p).ses.state = .cooling ∧ ((w.couple p).pos p).tmr.cooling = some 300000 ∧
      (w.couple p).loop l = { w.loop l with queue := (w.loop l).queue ++ [p] } ∧
      (w.couple p).serveDue = w.serveDue ∧ (w.couple p).evalDue = w.evalDue := by
  have pos := w.cooled_pos p
  rw [Work.couple_precool hose hp hl, Work.requestGrant_waits
    (w := (w.modPos p (Position.stampCoupling w.station.clock)).modPos p Position.toCooling) (l := l) hg hq h]
  refine ⟨?_, ?_, Work.modLoop_loop_self _ l _, rfl, rfl⟩
  · exact congrArg (fun x : Position => x.ses.state) pos
  · exact congrArg (fun x : Position => x.tmr.cooling) pos

/-- With precooling and a loop that can grant at once the session goes on to PULSING (05, R92, R93; 04, R79). -/
theorem Work.couple_granted {w : Work} {p : PosId} {v : Nat} {l : LoopId} (hose : (w.pos p).ses.hose = some v)
    (hp : (w.pos p).cfg.precool = true) (hl : (w.pos p).cfg.loop = some l) (hg : p ∉ (w.loop l).grants)
    (hq : (w.loop l).queue = []) (h : (w.loop l).canGrant = true) :
    ((w.couple p).pos p).ses.state = .pulsing ∧ ((w.couple p).pos p).tmr.cooling = none ∧
      (w.couple p).loop l = { w.loop l with grants := (w.loop l).grants ++ [p] } ∧
      (w.couple p).serveDue = w.serveDue ∧ (w.couple p).evalDue = w.evalDue := by
  have pos := w.cooled_pos p
  obtain ⟨u, granted, positions, serve, eval, loop⟩ := Work.requestGrant_granted
    (w := (w.modPos p (Position.stampCoupling w.station.clock)).modPos p Position.toCooling) (l := l) hg hq h
  have cooling : (u.pos p).ses.state = .cooling := by
    unfold State.pos at pos ⊢
    rw [positions]
    exact congrArg (fun x : Position => x.ses.state) pos
  obtain ⟨state, timer, loops, served, evaluated⟩ := Work.grantGiven_cooling cooling
  rw [Work.couple_precool hose hp hl, granted]
  refine ⟨state, timer, ?_, served.trans serve, evaluated.trans eval⟩
  unfold State.loop at loop ⊢
  rw [loops]
  exact loop

/-! ### The rule -/

/-- A coupling in a rule that owes nothing is `Coupled` at the rule's end. -/
theorem Work.couple_coupled {w : Work} {p : PosId} (ha : (w.pos p).ses.state = .authorised)
    (hc : (w.pos p).ses.current = none) (hs : (w.pos p).ses.staged = none) (serve : w.serveDue = false)
    (eval : w.evalDue = false) (s0 : State) : Coupled w.toState ((w.couple p).close s0) p := by
  have end_ : ∀ {u : Work}, u.serveDue = w.serveDue → u.evalDue = w.evalDue →
      (∀ b, (u.close s0).bank b = u.bank b) ∧ ∀ l, (u.close s0).loop l = u.loop l := fun hs he => by
    rw [Work.close_nothingDue (hs.trans serve) (he.trans eval)]
    exact ⟨fun _ => rfl, fun _ => rfl⟩
  refine ⟨?_, ?_, fun hose => ?_, fun v hose hp => ?_, fun v l hose hp hl hg hq =>
    ⟨fun shut => ?_, fun cold floor few empty => ?_⟩⟩
  · rw [Work.close_pos]
    exact w.couple_stamp p
  · rw [Work.close_pos]
    exact w.couple_connect p
  · obtain ⟨ended, waits⟩ := Work.couple_ends ha hc hs hose
    rw [Work.close_pos]
    refine ⟨ended.state, ended.endReason, ended.vent, ?_⟩
    unfold State.waits at waits ⊢
    rw [Work.close_waitList]
    exact waits
  · obtain ⟨⟨state, found, nothing⟩, hs, he⟩ := Work.couple_pulses hc hose hp
    obtain ⟨bank, _⟩ := end_ hs he
    rw [Work.close_pos]
    refine ⟨state, fun b hb => ?_, fun hn => ?_⟩
    · rw [bank]
      exact found b hb
    · unfold State.waits
      rw [Work.close_waitList]
      exact nothing hn
  · have blocked : (w.loop l).canGrant = false := by
      rw [← Bool.not_eq_true, Loop.canGrant_iff]
      rintro ⟨few, cold, floor⟩
      obtain other | low | full := shut
      · exact other cold
      · exact absurd floor (by omega)
      · omega
    obtain ⟨state, timer, loop, hs, he⟩ := Work.couple_cools hose hp hl hg hq blocked
    rw [Work.close_pos, (end_ hs he).2, loop]
    exact ⟨state, timer, rfl, rfl⟩
  · obtain ⟨state, timer, loop, hs, he⟩ := Work.couple_granted hose hp hl hg empty
      ((Loop.canGrant_iff _).mpr ⟨few, cold, floor⟩)
    rw [Work.close_pos, (end_ hs he).2, loop]
    exact ⟨state, timer, empty, rfl⟩

/-- Selection and the record of a position do not depend on the station's inputs. -/
theorem Coupled.of_station {s t : State} {x : Station} {p : PosId} (hc : x.clock = s.station.clock)
    (hm : x.switchMargin = s.station.switchMargin) (h : Coupled { s with station := x } t p) : Coupled s t p := by
  have select : ∀ n ts, ({ s with station := x } : State).select n ts = s.select n ts := State.select_congr rfl
  unfold Coupled at h ⊢
  simp only [select, hc, hm] at h
  exact h

/-- The stamp of a coupling is no setting. -/
theorem Work.sameSettings_stamp (w : Work) (p : PosId) (clock : Clock) :
    w.SameSettings (w.modPos p (Position.stampCoupling clock)).toState :=
  ⟨rfl, rfl, rfl, rfl, rfl, fun q => by rw [Work.modPos_pos]; split <;> simp [*, Position.stampCoupling],
    fun _ => ⟨rfl, rfl, rfl, rfl, rfl⟩, fun _ => ⟨rfl, rfl, rfl, rfl, rfl⟩, fun _ => ⟨rfl, rfl, rfl, rfl, rfl⟩⟩

end Sys2Proof.Machine

/-- Settles O26: the coupling's own branches are `Work.couple_coupled`; the rest stands. -/
theorem coupledArrivalIsTheCoupling : Obligations.CoupledArrivalIsTheCoupling := by
  unfold Obligations.CoupledArrivalIsTheCoupling
  refine fun p s => ⟨fun other => ?_, fun ha hc hs _ => ?_⟩
  · refine congrArg Host.Outcome.next ?_
    unfold State.rule
    dsimp only
    rw [if_neg (by exact other)]
    exact Work.close_quiet rfl rfl rfl
  · have coupled := Work.couple_coupled (w := s.begin.modStation (Station.setCoupled p true)) ha hc hs rfl rfl s
    have settled := ((s.begin.modStation (Station.setCoupled p true)).couple_evolves p).toSettles.trans
      (Work.settles_close _ s)
    refine ⟨((s.begin.modStation (Station.setCoupled p true)).couple p).close s, ?_,
      Coupled.of_station (x := s.station.setCoupled p true) rfl rfl coupled, settled.station, settled.holds,
      settled.port, (Work.sameSettings_stamp (s.begin.modStation (Station.setCoupled p true)) p _).trans
        settled.sameSettings⟩
    refine congrArg Host.Outcome.next ?_
    unfold State.rule
    dsimp only
    rw [if_pos (by exact ha)]
end

section
/-! The halt handed to every block, block by block, and O8 (01, R15; 02, R39; 03, R66; 04, R85; 05, R105). -/
open Sys2Proof Sys2Proof.Machine
namespace Sys2Proof.Machine

/-! ### What a list of actions establishes -/

/-- In a list without repetition that holds `x`: what stands until the action of `x`, what that action makes of it, and
what stands after it. -/
theorem Work.each_establishes {α : Type} {f : α → Work → Work} {xs : List α} (once : xs.Nodup) {x : α} (hx : x ∈ xs)
    (P Q : Work → Prop) (before : ∀ y, y ≠ x → ∀ v, P v → P (f y v)) (act : ∀ v, P v → Q (f x v))
    (after : ∀ y, y ≠ x → ∀ v, Q v → Q (f y v)) (w : Work) (hw : P w) : Q (Work.each f xs w) := by
  have stays : ∀ ys : List α, x ∉ ys → ∀ v, Q v → Q (Work.each f ys v) := fun ys => by
    induction ys with
    | nil => exact fun _ _ hv => hv
    | cons y ys ih =>
      intro out v hv
      obtain ⟨here, rest⟩ := not_or.mp (fun e => out (List.mem_cons.mpr e))
      exact ih rest _ (after y (Ne.symm here) v hv)
  induction xs generalizing w with
  | nil => cases hx
  | cons y ys ih =>
    obtain ⟨out, rest⟩ := List.nodup_cons.mp once
    rw [Work.each_cons]
    by_cases e : y = x
    · rw [e] at out ⊢
      exact stays ys out _ (act w hw)
    · exact ih rest (List.mem_of_ne_of_mem (Ne.symm e) hx) _ (before y e w hw)

theorem allBanks_nodup : allBanks.Nodup := by decide
theorem allPositions_nodup : allPositions.Nodup := by decide
theorem allComps_nodup : allComps.Nodup := by decide
theorem allLoops_nodup : allLoops.Nodup := by decide

/-! ### A bank that joins the queue -/

/-- An entry that is placed keeps every other entry. -/
theorem mem_placeBack (prio : BankId → Nat) (e x : QueueEntry) (q : List QueueEntry) :
    x ∈ placeBack prio e q ↔ x = e ∨ x ∈ q := by
  conv_rhs => rw [← List.takeWhile_append_dropWhile (p := fun y => decide (prio e.bank ≤ prio y.bank)) (l := q)]
  unfold placeBack
  simp only [List.mem_append, List.mem_cons]
  tauto

theorem sublist_placeBack (prio : BankId → Nat) (e : QueueEntry) (q : List QueueEntry) :
    q.Sublist (placeBack prio e q) := by
  conv_lhs => rw [← List.takeWhile_append_dropWhile (p := fun y => decide (prio e.bank ≤ prio y.bank)) (l := q)]
  exact List.Sublist.append_left (List.sublist_cons_self _ _) _

/-- A bank that joins is queued, and no other bank's place changes. -/
theorem Work.joinQueue_queued (w : Work) (b c : BankId) :
    (w.joinQueue b).queued c = (w.queued c || decide (b = c)) := by
  unfold Work.joinQueue
  split
  · next queued =>
    by_cases e : b = c
    · rw [← e, queued, Bool.true_or]
    · simp [e]
  · rw [Bool.eq_iff_iff]
    unfold State.queued
    simp only [List.any_eq_true, mem_placeBack, Bool.or_eq_true, decide_eq_true_eq, beq_iff_eq]
    constructor
    · rintro ⟨x, rfl | old, bank⟩
      · exact .inr bank
      · exact .inl ⟨x, old, bank⟩
    · rintro (⟨x, old, bank⟩ | rfl)
      · exact ⟨x, .inr old, bank⟩
      · exact ⟨_, .inl rfl, rfl⟩

/-! ### The halt at one bank -/

/-- The halt at one bank (02, R39). -/
def Work.haltBank (b : BankId) (w : Work) : Work :=
  if (w.bank b).claimed then
    if ((w.makeReady b).bank b).belowLow then (w.makeReady b).joinQueue b else w.makeReady b
  else w

theorem Work.haltBanks_eq (w : Work) :
    w.haltBanks = { Work.each Work.haltBank allBanks w with waitList := [] } := by
  have step : (fun (b : BankId) (w : Work) =>
      if (w.bank b).claimed = true then
        let w1 := w.makeReady b
        if (w1.bank b).belowLow = true then w1.joinQueue b else w1
      else w) = Work.haltBank := rfl
  unfold Work.haltBanks
  rw [step]

/-- The bank as the halt leaves it (02, R39). -/
def Bank.halted (clock : Clock) (leakWindow : Nat) (k : Bank) : Bank :=
  if k.claimed then k.enterReady clock leakWindow else k

/-- The bank is claimed and not queued, and below its low mark (02, R39). -/
def State.joinsAtHalt (s : State) (b : BankId) : Prop :=
  (s.bank b).claimed = true ∧ ((s.bank b).enterReady s.station.clock s.station.leakWindow).belowLow = true ∧
    s.queued b = false

/-- The banks and the queue are all the halt of a bank changes. -/
def Work.BankWork (w t : Work) : Prop :=
  t = { w with banks := t.banks, refillQueue := t.refillQueue, evalDue := t.evalDue }

theorem Work.BankWork.trans {a b c : Work} (h : a.BankWork b) (g : b.BankWork c) : a.BankWork c := by
  unfold Work.BankWork at *
  rw [g, h]

theorem Work.haltBank_frame (w : Work) (b : BankId) : w.BankWork (w.haltBank b) := by
  unfold Work.haltBank Work.joinQueue
  split
  · split
    · split <;> rfl
    · rfl
  · rfl

theorem Work.haltBank_station (w : Work) (b : BankId) : (w.haltBank b).station = w.station := by
  rw [w.haltBank_frame b]

theorem Work.haltBank_bank (w : Work) (b c : BankId) : (w.haltBank b).bank c =
    if c = b then (w.bank b).halted w.station.clock w.station.leakWindow else w.bank c := by
  have ready : (w.makeReady b).bank c =
      if c = b then (w.bank b).enterReady w.station.clock w.station.leakWindow else w.bank c :=
    Work.modBank_bank w b c _
  unfold Work.haltBank Bank.halted
  split
  · split
    · rw [Work.joinQueue_bank, ready]
    · exact ready
  · split
    · next e => rw [e]
    · rfl

theorem Work.makeReady_priorities (w : Work) (b : BankId) : (w.makeReady b).priorities = w.priorities := by
  funext c
  show ((w.makeReady b).bank c).priority = (w.bank c).priority
  unfold Work.makeReady
  rw [Work.modBank_bank]
  split
  · next e => rw [e]; exact Bank.enterReady_priority _ _ _
  · rfl

/-- A bank that joins at the halt is placed at the back of its class (02, R39; 03, R44). -/
theorem Work.haltBank_joins {w : Work} {b : BankId} (h : w.joinsAtHalt b) :
    (w.haltBank b).refillQueue = placeBack w.priorities { bank := b, stamp := w.station.clock } w.refillQueue := by
  obtain ⟨claimed, low, out⟩ := h
  have ready : (w.makeReady b).bank b = (w.bank b).enterReady w.station.clock w.station.leakWindow :=
    Work.modBank_bank_self w b _
  have notQueued : ¬ (w.makeReady b).queued b = true := by
    show ¬ w.queued b = true
    simp [out]
  unfold Work.haltBank
  rw [if_pos claimed, ready, if_pos low, ← Work.makeReady_priorities w b]
  unfold Work.joinQueue
  rw [if_neg notQueued]
  rfl

theorem Work.haltBank_stays {w : Work} {b : BankId} (h : ¬ w.joinsAtHalt b) :
    (w.haltBank b).refillQueue = w.refillQueue := by
  have ready : (w.makeReady b).bank b = (w.bank b).enterReady w.station.clock w.station.leakWindow :=
    Work.modBank_bank_self w b _
  unfold Work.haltBank
  split
  · next claimed =>
    rw [ready]
    split
    · next low =>
      have queued : (w.makeReady b).queued b = true := by
        show w.queued b = true
        by_contra out
        exact h ⟨claimed, low, by simpa using out⟩
      unfold Work.joinQueue
      rw [if_pos queued]
      rfl
    · rfl
  · rfl

theorem Work.haltBank_queued (w : Work) (b c : BankId) : (w.haltBank b).queued c =
    if c = b then w.queued b || ((w.bank b).claimed && ((w.haltBank b).bank b).belowLow) else w.queued c := by
  have ready : (w.makeReady b).bank b = (w.bank b).enterReady w.station.clock w.station.leakWindow :=
    Work.modBank_bank_self w b _
  have unmoved : ∀ d, (w.makeReady b).queued d = w.queued d := fun _ => rfl
  rw [Work.haltBank_bank, if_pos rfl]
  unfold Work.haltBank Bank.halted
  by_cases claimed : (w.bank b).claimed = true
  · rw [if_pos claimed, if_pos claimed, ready]
    by_cases low : ((w.bank b).enterReady w.station.clock w.station.leakWindow).belowLow = true
    · rw [if_pos low, Work.joinQueue_queued, unmoved]
      by_cases e : c = b
      · simp [e, claimed, low]
      · simp [e, Ne.symm e]
    · rw [if_neg low, unmoved]
      by_cases e : c = b
      · simp [e, low]
      · simp [e]
  · rw [if_neg claimed]
    by_cases e : c = b
    · simp [e, claimed]
    · simp [e]

/-- The queue grows only by entries of this rule. -/
theorem Work.haltBank_grows (w : Work) (b : BankId) : w.refillQueue.Sublist (w.haltBank b).refillQueue ∧
    ∀ e ∈ (w.haltBank b).refillQueue, e ∈ w.refillQueue ∨ e.stamp = w.station.clock := by
  by_cases joins : w.joinsAtHalt b
  · rw [Work.haltBank_joins joins]
    refine ⟨sublist_placeBack _ _ _, fun e he => ?_⟩
    obtain rfl | old := (mem_placeBack _ _ _ _).mp he
    · exact .inr rfl
    · exact .inl old
  · rw [Work.haltBank_stays joins]
    exact ⟨.refl _, fun _ he => .inl he⟩

/-- The halt of one bank does not decide whether another joins. -/
theorem Work.haltBank_joinsAtHalt (w : Work) {b c : BankId} (h : c ≠ b) :
    (w.haltBank b).joinsAtHalt c ↔ w.joinsAtHalt c := by
  unfold State.joinsAtHalt
  rw [Work.haltBank_bank, if_neg h, Work.haltBank_queued, if_neg h, Work.haltBank_station]

/-- A bank that the halt has passed does not join. -/
theorem Work.haltBank_joined (w : Work) (b : BankId) : ¬ (w.haltBank b).joinsAtHalt b := by
  rintro ⟨claimed, _⟩
  rw [Work.haltBank_bank, if_pos rfl] at claimed
  unfold Bank.halted at claimed
  split at claimed
  · cases claimed
  · next free => exact free claimed

theorem Bank.halted_priority (k : Bank) (clock : Clock) (leakWindow : Nat) :
    (k.halted clock leakWindow).priority = k.priority := by
  unfold Bank.halted
  split
  · exact Bank.enterReady_priority _ _ _
  · rfl

theorem Work.haltBank_priorities (w : Work) (b : BankId) : (w.haltBank b).priorities = w.priorities := by
  funext c
  show ((w.haltBank b).bank c).priority = (w.bank c).priority
  rw [Work.haltBank_bank]
  split
  · next e => rw [e]; exact Bank.halted_priority _ _ _
  · rfl

/-! ### The halt at the bank table -/

theorem Work.haltBanks_frame (w : Work) : w.haltBanks =
    { w with banks := w.haltBanks.banks, refillQueue := w.haltBanks.refillQueue, evalDue := w.haltBanks.evalDue,
             waitList := [] } := by
  have worked : w.BankWork (Work.each Work.haltBank allBanks w) :=
    Work.each_keeps Work.BankWork (fun _ => rfl) .trans _ (fun b w => w.haltBank_frame b) _ w
  rw [Work.haltBanks_eq]
  generalize Work.each Work.haltBank allBanks w = u at worked ⊢
  unfold Work.BankWork at worked
  rw [worked]

/-- Each bank and its place in the queue after the halt (02, R39). -/
theorem Work.haltBanks_bank (w : Work) (b : BankId) :
    w.haltBanks.bank b = (w.bank b).halted w.station.clock w.station.leakWindow ∧
      w.haltBanks.queued b = (w.queued b || ((w.bank b).claimed && (w.haltBanks.bank b).belowLow)) := by
  suffices after : (Work.each Work.haltBank allBanks w).bank b =
      (w.bank b).halted w.station.clock w.station.leakWindow ∧ (Work.each Work.haltBank allBanks w).queued b =
        (w.queued b || ((w.bank b).claimed && ((Work.each Work.haltBank allBanks w).bank b).belowLow)) by
    rw [Work.haltBanks_eq]
    generalize Work.each Work.haltBank allBanks w = u at after ⊢
    exact after
  refine Work.each_establishes (f := Work.haltBank) allBanks_nodup (mem_allBanks b)
    (fun v => v.station = w.station ∧ v.bank b = w.bank b ∧ v.queued b = w.queued b)
    (fun v => v.bank b = (w.bank b).halted w.station.clock w.station.leakWindow ∧
      v.queued b = (w.queued b || ((w.bank b).claimed && (v.bank b).belowLow))) ?_ ?_ ?_ w ⟨rfl, rfl, rfl⟩
  · rintro y other v ⟨st, bank, queued⟩
    rw [Work.haltBank_station, Work.haltBank_bank, if_neg (Ne.symm other), Work.haltBank_queued, if_neg (Ne.symm other)]
    exact ⟨st, bank, queued⟩
  · rintro v ⟨st, bank, queued⟩
    rw [Work.haltBank_queued, if_pos rfl, Work.haltBank_bank, if_pos rfl, bank, queued, st]
    exact ⟨rfl, rfl⟩
  · rintro y other v ⟨bank, queued⟩
    rw [Work.haltBank_queued, if_neg (Ne.symm other), Work.haltBank_bank, if_neg (Ne.symm other)]
    exact ⟨bank, queued⟩

/-- What the halt adds to the queue (02, R39). -/
def Work.Grows (w t : Work) : Prop :=
  t.station = w.station ∧ w.refillQueue.Sublist t.refillQueue ∧
    ∀ e ∈ t.refillQueue, e ∈ w.refillQueue ∨ e.stamp = w.station.clock

theorem Work.Grows.trans {a b c : Work} (h : a.Grows b) (g : b.Grows c) : a.Grows c := by
  obtain ⟨hs, hq, hn⟩ := h
  obtain ⟨gs, gq, gn⟩ := g
  refine ⟨gs.trans hs, hq.trans gq, fun e he => ?_⟩
  obtain old | new := gn e he
  · exact hn e old
  · exact .inr (new.trans (congrArg Station.clock hs))

theorem Work.haltBanks_grows (w : Work) : w.Grows w.haltBanks := by
  have grown : w.Grows (Work.each Work.haltBank allBanks w) :=
    Work.each_keeps Work.Grows (fun _ => ⟨rfl, .refl _, fun _ he => .inl he⟩) .trans _
      (fun b v => ⟨v.haltBank_station b, v.haltBank_grows b⟩) _ w
  rw [Work.haltBanks_eq]
  generalize Work.each Work.haltBank allBanks w = u at grown ⊢
  exact grown

/-- One bank alone joins: it is placed at the back of its class (02, R39; 03, R43, R44). -/
theorem Work.haltBanks_one {w : Work} {b : BankId} (joins : w.joinsAtHalt b) (alone : ∀ c, c ≠ b → ¬ w.joinsAtHalt c) :
    w.haltBanks.refillQueue = placeBack w.priorities { bank := b, stamp := w.station.clock } w.refillQueue := by
  have still : ∀ (y : BankId) (v : Work), (∀ c, c ≠ b → ¬ v.joinsAtHalt c) →
      ∀ c, c ≠ b → ¬ (v.haltBank y).joinsAtHalt c := fun y v none c hc => by
    by_cases e : c = y
    · rw [e]
      exact v.haltBank_joined y
    · rw [v.haltBank_joinsAtHalt e]
      exact none c hc
  suffices after : (Work.each Work.haltBank allBanks w).refillQueue =
      placeBack w.priorities { bank := b, stamp := w.station.clock } w.refillQueue by
    rw [Work.haltBanks_eq]
    generalize Work.each Work.haltBank allBanks w = u at after ⊢
    exact after
  refine (Work.each_establishes (f := Work.haltBank) allBanks_nodup (mem_allBanks b)
    (fun v => v.refillQueue = w.refillQueue ∧ v.station = w.station ∧ v.priorities = w.priorities ∧
      v.joinsAtHalt b ∧ ∀ c, c ≠ b → ¬ v.joinsAtHalt c)
    (fun v => v.refillQueue = placeBack w.priorities { bank := b, stamp := w.station.clock } w.refillQueue ∧
      ∀ c, c ≠ b → ¬ v.joinsAtHalt c) ?_ ?_ ?_ w ⟨rfl, rfl, rfl, joins, alone⟩).1
  · rintro y other v ⟨queue, st, prio, here, none⟩
    rw [Work.haltBank_stays (none y other), Work.haltBank_station, Work.haltBank_priorities,
      Work.haltBank_joinsAtHalt v (Ne.symm other)]
    exact ⟨queue, st, prio, here, still y v none⟩
  · rintro v ⟨queue, st, prio, here, none⟩
    rw [Work.haltBank_joins here, queue, st, prio]
    exact ⟨rfl, still b v none⟩
  · rintro y other v ⟨queue, none⟩
    rw [Work.haltBank_stays (none y other)]
    exact ⟨queue, still y v none⟩

/-! ### The halt at the compressors and the loops -/

/-- The halt at one compressor (03, R66). -/
def Work.haltComp (k : CompId) (w : Work) : Work := if (w.comp k).active then w.unloadComp k else w

/-- The compressor as the halt leaves it (03, R66). -/
def Compressor.halted (k : Compressor) : Compressor := if k.active then Unloading k else k

theorem Work.haltComp_comp (w : Work) (k j : CompId) :
    (w.haltComp k).comp j = if j = k then (w.comp k).halted else w.comp j := by
  unfold Work.haltComp Compressor.halted
  split
  · exact Work.modComp_comp w k j _
  · split
    · next e => rw [e]
    · rfl

/-- The compressors and the debts of the rule's end are all the halt of the compressors changes. -/
def Work.CompWork (w t : Work) : Prop := t = { w with comps := t.comps, serveDue := t.serveDue, evalDue := t.evalDue }

theorem Work.CompWork.trans {a b c : Work} (h : a.CompWork b) (g : b.CompWork c) : a.CompWork c := by
  unfold Work.CompWork at *
  rw [g, h]

theorem Work.haltComps_frame (w : Work) : w.CompWork w.haltComps :=
  Work.each_keeps Work.CompWork (fun _ => rfl) .trans Work.haltComp (fun k v => by
    unfold Work.haltComp
    split <;> rfl) _ w

theorem Work.haltComps_comp (w : Work) (k : CompId) : w.haltComps.comp k = (w.comp k).halted := by
  refine Work.each_establishes (f := Work.haltComp) allComps_nodup (mem_allComps k) (fun v => v.comp k = w.comp k)
    (fun v => v.comp k = (w.comp k).halted) ?_ ?_ ?_ w rfl
  · intro y other v same
    rw [Work.haltComp_comp, if_neg (Ne.symm other), same]
  · intro v same
    rw [Work.haltComp_comp, if_pos rfl, same]
  · intro y other v same
    rw [Work.haltComp_comp, if_neg (Ne.symm other), same]

/-- The loop as the halt leaves it (04, R85). -/
def Loop.halted (x : Loop) : Loop := { x with tick := none, chiller := .off, grants := [], queue := [], loss := 0 }

/-- The loops are all the halt of a loop changes. -/
def Work.LoopWork (w t : Work) : Prop := t = { w with loops := t.loops }

theorem Work.LoopWork.trans {a b c : Work} (h : a.LoopWork b) (g : b.LoopWork c) : a.LoopWork c := by
  unfold Work.LoopWork at *
  rw [g, h]

theorem Work.haltLoops_eq (w : Work) : w.haltLoops =
    { Work.each (fun l w => w.modLoop l Loop.halted) allLoops w with powerQueue := [] } := rfl

theorem Work.haltLoops_frame (w : Work) : w.haltLoops = { w with loops := w.haltLoops.loops, powerQueue := [] } := by
  have worked : w.LoopWork (Work.each (fun l w => w.modLoop l Loop.halted) allLoops w) :=
    Work.each_keeps Work.LoopWork (fun _ => rfl) .trans (fun l w => w.modLoop l Loop.halted) (fun _ _ => rfl) _ w
  rw [Work.haltLoops_eq]
  generalize Work.each (fun l w => w.modLoop l Loop.halted) allLoops w = u at worked ⊢
  unfold Work.LoopWork at worked
  rw [worked]

theorem Work.haltLoops_loop (w : Work) (l : LoopId) : w.haltLoops.loop l = (w.loop l).halted := by
  rw [Work.haltLoops_eq]
  refine Work.each_establishes (f := fun l w => w.modLoop l Loop.halted) allLoops_nodup (mem_allLoops l)
    (fun v => v.loop l = w.loop l) (fun v => v.loop l = (w.loop l).halted) ?_ ?_ ?_ w rfl
  · intro y other v same
    rw [Work.modLoop_loop_ne v _ (Ne.symm other), same]
  · intro v same
    rw [Work.modLoop_loop_self, same]
  · intro y other v same
    rw [Work.modLoop_loop_ne v _ (Ne.symm other), same]

/-! ### The halt at one position -/

/-- Positions and holds are all the halt of a session changes, once the other blocks are halted. -/
def Work.SessionWork (w t : Work) : Prop := t = { w with positions := t.positions, holds := t.holds }

theorem Work.SessionWork.trans {a b c : Work} (h : a.SessionWork b) (g : b.SessionWork c) : a.SessionWork c := by
  unfold Work.SessionWork at *
  rw [g, h]

theorem Work.SessionWork.station {w t : Work} (h : w.SessionWork t) : t.station = w.station := by
  unfold Work.SessionWork at h
  rw [h]

/-- The other blocks are halted: no bank is claimed, no position waits for a bank or a grant. -/
structure Work.Halted (w : Work) : Prop where
  banks : ∀ b, (w.bank b).claimed = false
  waitList : w.waitList = []
  grants : ∀ l, (w.loop l).grants = []
  queue : ∀ l, (w.loop l).queue = []

theorem Work.Halted.of_sessionWork {w t : Work} (h : w.Halted) (g : w.SessionWork t) : t.Halted := by
  unfold Work.SessionWork at g
  rw [g]
  exact ⟨h.banks, h.waitList, h.grants, h.queue⟩

theorem Work.Halted.modPos {w : Work} (h : w.Halted) (p : PosId) (f : Position → Position) : (w.modPos p f).Halted :=
  ⟨h.banks, h.waitList, h.grants, h.queue⟩

theorem Work.Halted.releaseBank {w : Work} (h : w.Halted) (c : Claimant) (b : BankId) : w.releaseBank c b = w := by
  have free := h.banks b
  unfold Bank.claimed at free
  unfold Work.releaseBank State.heldBy
  rw [free, Bool.and_false]
  exact if_neg Bool.false_ne_true

theorem Work.Halted.releaseNamed {w : Work} (h : w.Halted) (p : PosId) : w.releaseNamed p =
    w.modPos p (fun y => { y with ses := { y.ses with current := none, staged := none } }) := by
  unfold Work.releaseNamed
  dsimp only
  split <;> split
  · rw [(h.modPos p _).releaseBank, (h.modPos p _).releaseBank]
  · rw [(h.modPos p _).releaseBank]
  · rw [(h.modPos p _).releaseBank]
  · rfl

theorem Work.Halted.leaveWaitList {w : Work} (h : w.Halted) (p : PosId) : w.leaveWaitList p = w := by
  have empty := h.waitList
  unfold Work.leaveWaitList
  rw [empty, List.filter_nil, ← empty]

theorem Work.Halted.leaveLoop {w : Work} (h : w.Halted) (p : PosId) : w.leaveLoop p = w := by
  unfold Work.leaveLoop
  split
  · rfl
  · next l _ =>
    rw [h.grants l, h.queue l]
    rfl

/-- With the other blocks halted, the end of a fill is its position's alone. -/
theorem Work.Halted.endFill {w : Work} (h : w.Halted) (p : PosId) (r : EndReason) :
    w.SessionWork (w.endFill p r) ∧ ∀ q, q ≠ p → (w.endFill p r).pos q = w.pos q := by
  unfold Work.endFill
  split
  · have marked := h.modPos p (Position.markEnd r w.station.clock)
    have released := marked.modPos p (fun y => { y with ses := { y.ses with current := none, staged := none } })
    unfold Work.endCore
    dsimp only
    rw [marked.releaseNamed, released.leaveWaitList, released.leaveLoop]
    refine ⟨rfl, fun q hq => ?_⟩
    rw [Work.modPos_pos_ne _ _ hq, Work.modPos_pos_ne _ _ hq, Work.modPos_pos_ne _ _ hq]
  · exact ⟨rfl, fun _ _ => rfl⟩

theorem Work.undoAuthorise_session (w : Work) (p : PosId) :
    w.SessionWork (w.undoAuthorise p) ∧ ∀ q, q ≠ p → (w.undoAuthorise p).pos q = w.pos q := by
  unfold Work.undoAuthorise
  dsimp only
  split
  · exact ⟨rfl, fun q hq => Work.modPos_pos_ne _ _ hq⟩
  · exact ⟨rfl, fun q hq => Work.modPos_pos_ne _ _ hq⟩

theorem Work.Halted.haltSession {w : Work} (h : w.Halted) (p : PosId) :
    w.SessionWork (w.haltSession p) ∧ ∀ q, q ≠ p → (w.haltSession p).pos q = w.pos q := by
  unfold Work.haltSession
  split
  · exact w.undoAuthorise_session p
  · exact h.endFill p _

/-- A position after the halt (05, R105). -/
structure Position.HaltedFrom (x y : Position) (clock : Clock) : Prop where
  authorised : x.ses.state = .authorised → y.ses.state = .idle
  live : x.ses.state.live = true → y.Ended .stationHalt clock
  rest : x.ses.state = .idle ∨ x.ses.state = .venting ∨ x.ses.state = .done → y = x

theorem Work.haltSession_pos (w : Work) (p : PosId) :
    (w.pos p).HaltedFrom ((w.haltSession p).pos p) w.station.clock := by
  unfold Work.haltSession
  by_cases authorised : (w.pos p).ses.state = .authorised
  · rw [if_pos authorised]
    refine ⟨fun _ => ?_, fun live => ?_, fun rest => ?_⟩
    · unfold Work.undoAuthorise
      dsimp only
      rw [Work.modPos_pos_self]
      rfl
    · rw [authorised] at live
      cases live
    · rw [authorised] at rest
      simp at rest
  · rw [if_neg authorised]
    refine ⟨fun h => absurd h authorised, fun live => Work.endFill_ended live _, fun rest => ?_⟩
    have out : ¬ (w.pos p).ses.state.live = true := by
      obtain e | e | e := rest <;> rw [e] <;> decide
    unfold Work.endFill
    rw [if_neg out]

/-- The hold is OPEN without price and ceiling (08, R152). -/
def Hold.Unpriced (k : Hold) : Prop := k.state = .opened ∧ k.price = none ∧ k.massCeiling = none

theorem Work.haltSession_unpriced {w : Work} {p : PosId} {h : HoldId}
    (hw : (w.hold h).Unpriced ∨ ((w.pos p).ses.state = .authorised ∧ (w.pos p).ses.boundHold = some h)) :
    ((w.haltSession p).hold h).Unpriced := by
  unfold Work.haltSession
  split
  · unfold Work.undoAuthorise
    dsimp only
    split
    · next g bound =>
      show ((w.modHold g Hold.unbind).hold h).Unpriced
      rw [Work.modHold_hold]
      split
      · exact ⟨rfl, rfl, rfl⟩
      · next other =>
        obtain open_ | ⟨_, named⟩ := hw
        · exact open_
        · rw [named] at bound
          exact absurd (Option.some.inj bound) other
    · next unbound =>
      obtain open_ | ⟨_, named⟩ := hw
      · exact open_
      · rw [named] at unbound
        cases unbound
  · next other =>
    obtain open_ | ⟨authorised, _⟩ := hw
    · unfold State.hold
      rw [(w.evolves_endFill p .stationHalt).holds]
      exact open_
    · exact absurd authorised other

/-! ### The halt of every block -/

/-- Every session after the halt of every session. -/
theorem Work.Halted.sessions {w : Work} (h : w.Halted) :
    w.SessionWork (Work.each Work.haltSession allPositions w) ∧
      ∀ p, (w.pos p).HaltedFrom ((Work.each Work.haltSession allPositions w).pos p) w.station.clock := by
  have frame : ∀ (ps : List PosId) (v : Work), v.Halted →
      v.SessionWork (Work.each Work.haltSession ps v) := fun ps => by
    induction ps with
    | nil => exact fun _ _ => rfl
    | cons p ps ih =>
      intro v hv
      obtain ⟨work, _⟩ := hv.haltSession p
      exact work.trans (ih _ (hv.of_sessionWork work))
  refine ⟨frame _ w h, fun p => ?_⟩
  refine Work.each_establishes (f := Work.haltSession) allPositions_nodup (mem_allPositions p)
    (fun v => v.Halted ∧ v.station = w.station ∧ v.pos p = w.pos p)
    (fun v => v.Halted ∧ (w.pos p).HaltedFrom (v.pos p) w.station.clock) ?_ ?_ ?_ w ⟨h, rfl, rfl⟩ |>.2
  · rintro q other v ⟨hv, st, pos⟩
    obtain ⟨work, others⟩ := hv.haltSession q
    exact ⟨hv.of_sessionWork work, work.station.trans st, (others p (Ne.symm other)).trans pos⟩
  · rintro v ⟨hv, st, pos⟩
    refine ⟨hv.of_sessionWork (hv.haltSession p).1, ?_⟩
    rw [← pos, ← st]
    exact v.haltSession_pos p
  · rintro q other v ⟨hv, pos⟩
    obtain ⟨work, others⟩ := hv.haltSession q
    rw [others p (Ne.symm other)]
    exact ⟨hv.of_sessionWork work, pos⟩

/-- The hold of an AUTHORISED session after the halt of every session (05, R105). -/
theorem Work.Halted.unpriced {w : Work} (h : w.Halted) {p : PosId} {g : HoldId}
    (authorised : (w.pos p).ses.state = .authorised) (bound : (w.pos p).ses.boundHold = some g) :
    ((Work.each Work.haltSession allPositions w).hold g).Unpriced := by
  refine Work.each_establishes (f := Work.haltSession) allPositions_nodup (mem_allPositions p)
    (fun v => v.Halted ∧ v.pos p = w.pos p) (fun v => (v.hold g).Unpriced) ?_ ?_ ?_ w ⟨h, rfl⟩
  · rintro q other v ⟨hv, pos⟩
    obtain ⟨work, others⟩ := hv.haltSession q
    exact ⟨hv.of_sessionWork work, (others p (Ne.symm other)).trans pos⟩
  · rintro v ⟨_, pos⟩
    exact Work.haltSession_unpriced (.inr (by rw [pos]; exact ⟨authorised, bound⟩))
  · exact fun q _ v unpriced => Work.haltSession_unpriced (.inl unpriced)

/-- What the halt of banks, compressors and loops leaves, block by block (01, R15). -/
structure Work.BlocksHalted (w : Work) (t : State) : Prop where
  station : t.station = w.station
  port : t.port = w.port
  notices : t.notices = w.notices
  waitList : t.waitList = []
  powerQueue : t.powerQueue = []
  bank : ∀ b, t.bank b = (w.bank b).halted w.station.clock w.station.leakWindow
  queued : ∀ b, t.queued b = (w.queued b || ((w.bank b).claimed && (t.bank b).belowLow))
  sublist : w.refillQueue.Sublist t.refillQueue
  stamps : ∀ e ∈ t.refillQueue, e ∈ w.refillQueue ∨ e.stamp = w.station.clock
  one : ∀ b, w.joinsAtHalt b → (∀ c, c ≠ b → ¬ w.joinsAtHalt c) →
    t.refillQueue = placeBack w.priorities { bank := b, stamp := w.station.clock } w.refillQueue
  comp : ∀ k, t.comp k = (w.comp k).halted
  loop : ∀ l, t.loop l = (w.loop l).halted

/-- Positions, holds and the link are no part of the halted blocks. -/
theorem Work.BlocksHalted.of_eq {w : Work} {t u : State} (h : w.BlocksHalted t)
    (g : u = { t with positions := u.positions, holds := u.holds, link := u.link }) : w.BlocksHalted u := by
  rw [g]
  exact ⟨h.station, h.port, h.notices, h.waitList, h.powerQueue, h.bank, h.queued, h.sublist, h.stamps, h.one, h.comp,
    h.loop⟩

theorem Bank.halted_claimed (k : Bank) (clock : Clock) (leakWindow : Nat) :
    (k.halted clock leakWindow).claimed = false := by
  unfold Bank.halted
  split
  · rfl
  · next free => exact Bool.eq_false_iff.mpr free

/-- The blocks halted one after the other; positions and holds stand. -/
theorem Work.blocksHalted (w : Work) : w.BlocksHalted w.haltBanks.haltComps.haltLoops.toState ∧
    w.haltBanks.haltComps.haltLoops.positions = w.positions ∧ w.haltBanks.haltComps.haltLoops.holds = w.holds := by
  have banks := w.haltBanks_frame
  have bank := w.haltBanks_bank
  obtain ⟨_, sublist, stamps⟩ := w.haltBanks_grows
  have one := fun b => w.haltBanks_one (b := b)
  generalize w.haltBanks = a at *
  have comps := a.haltComps_frame
  have comp := a.haltComps_comp
  generalize a.haltComps = b at *
  have loops := b.haltLoops_frame
  have loop := b.haltLoops_loop
  generalize b.haltLoops = c at *
  have sameComp : ∀ k, a.comp k = w.comp k := fun k => by rw [banks]; rfl
  have sameLoop : ∀ l, b.loop l = w.loop l := fun l => by rw [comps, banks]; rfl
  unfold Work.CompWork at comps
  have sameBank : ∀ x, c.bank x = a.bank x := fun x => by rw [loops, comps]; rfl
  have queue : c.refillQueue = a.refillQueue := by rw [loops, comps]
  have queued : ∀ x, c.queued x = a.queued x := fun x => by unfold State.queued; rw [queue]
  refine ⟨?_, ?_, ?_⟩
  · exact
      { station := by rw [loops, comps, banks]
        port := by rw [loops, comps, banks]
        notices := by rw [loops, comps, banks]
        waitList := by rw [loops, comps, banks]
        powerQueue := by rw [loops]
        bank := fun x => by rw [sameBank, (bank x).1]
        queued := fun x => by rw [queued, sameBank, (bank x).2]
        sublist := by rw [queue]; exact sublist
        stamps := by rw [queue]; exact stamps
        one := by rw [queue]; exact one
        comp := fun k => by
          have same : c.comp k = b.comp k := by rw [loops]; rfl
          rw [same, comp, sameComp]
        loop := fun l => by rw [loop, sameLoop] }
  · rw [loops, comps, banks]
  · rw [loops, comps, banks]

/-- What the halt handed to every block leaves (01, R15). -/
structure Work.HaltsAll (w : Work) (t : State) : Prop extends Work.BlocksHalted w t where
  pos : ∀ p, (w.pos p).HaltedFrom (t.pos p) w.station.clock
  unpriced : ∀ p h, (w.pos p).ses.state = .authorised → (w.pos p).ses.boundHold = some h → (t.hold h).Unpriced

theorem Work.BlocksHalted.halted {w u : Work} (h : w.BlocksHalted u.toState) : u.Halted where
  banks := fun b => by rw [h.bank]; exact Bank.halted_claimed _ _ _
  waitList := h.waitList
  grants := fun l => by rw [h.loop]; rfl
  queue := fun l => by rw [h.loop]; rfl

theorem Work.haltAll_haltsAll (w : Work) : w.HaltsAll w.haltAll.toState := by
  obtain ⟨blocks, positions, holds⟩ := w.blocksHalted
  unfold Work.haltAll
  generalize w.haltBanks.haltComps.haltLoops = c at *
  have pos : ∀ p, c.pos p = w.pos p := fun p => by unfold State.pos; rw [positions]
  obtain ⟨frame, sessions⟩ := blocks.halted.sessions
  have unpriced := fun p h => blocks.halted.unpriced (p := p) (g := h)
  generalize Work.each Work.haltSession allPositions c = d at *
  have left : w.BlocksHalted d.toState := blocks.of_eq (by
    unfold Work.SessionWork at frame
    rw [frame])
  refine { left with pos := fun p => ?_, unpriced := fun p h => ?_ }
  · rw [← pos, ← blocks.station]
    exact sessions p
  · rw [← pos]
    exact unpriced p h

/-! ### The end of the rule -/

/-- A halted station makes no evaluation, and with an empty waiting order nothing is served. -/
theorem Work.HaltsAll.close {w u : Work} (h : w.HaltsAll u.toState) (halted : w.station.halt = .halted) (s0 : State) :
    w.HaltsAll (u.close s0) := by
  have unevaluated : u.Unevaluated := .inl fun on => by
    rw [h.station, halted] at on
    cases on.2.1
  have wound : u.wound = u := by
    rw [unevaluated.wound]
    unfold Work.serveWaiting
    rw [h.powerQueue]
    exact ite_self u
  rw [Work.close_still wound s0]
  exact { h.toBlocksHalted.of_eq rfl with pos := h.pos, unpriced := h.unpriced }

/-- A claimed bank after the halt (02, R23, R27, R39). -/
theorem Bank.halted_ready {k : Bank} (h : k.claimed = true) (clock : Clock) (leakWindow : Nat) :
    k.halted clock leakWindow = k.enterReady clock leakWindow := if_pos h

theorem Bank.halted_free {k : Bank} (h : k.claimed = false) (clock : Clock) (leakWindow : Nat) :
    k.halted clock leakWindow = k := if_neg (by rw [h]; exact Bool.false_ne_true)

theorem Bank.claimed_iff (k : Bank) : k.claimed = true ↔ k.state = .serving ∨ k.state = .refilling := by
  simp [Bank.claimed]

/-- The flags of a bank that enters READY (02, R23). -/
theorem Bank.enterReady_flags {k : Bank} {v : Nat} (h : k.pressure = some v) (clock : Clock) (leakWindow : Nat) :
    (k.enterReady clock leakWindow).belowLow = decide (v < k.low) ∧
      (k.enterReady clock leakWindow).atHigh = decide (k.high ≤ v) := by
  unfold Bank.enterReady Bank.withFlags
  rw [h]
  exact ⟨rfl, rfl⟩

theorem Compressor.halted_active (k : Compressor) : k.halted.active = false := by
  unfold Compressor.halted
  split
  · rfl
  · next idle => exact Bool.eq_false_iff.mpr idle

theorem Work.HaltsAll.claimed {w : Work} {t : State} (h : w.HaltsAll t) {b : BankId} (hc : (w.bank b).claimed = true) :
    (t.bank b).state = .ready ∧ (t.bank b).claimant = none ∧ (t.bank b).yields = (w.bank b).yields ∧
      (t.bank b).leakRef = (w.bank b).pressure ∧ (t.bank b).leakStamp = some w.station.clock ∧
      (t.bank b).leakTimer = some (w.station.leakWindow * 1000) ∧
      (∀ v : Nat, (w.bank b).pressure = some v → (t.bank b).belowLow = decide (v < (w.bank b).low) ∧
        (t.bank b).atHigh = decide ((w.bank b).high ≤ v)) ∧
      t.queued b = (w.queued b || (t.bank b).belowLow) := by
  have queued := h.queued b
  rw [hc, Bool.true_and] at queued
  rw [queued, h.bank, Bank.halted_ready hc]
  exact ⟨rfl, rfl, Bank.withFlags_yields _, rfl, rfl, rfl, fun _ known => Bank.enterReady_flags known _ _, rfl⟩

theorem Work.HaltsAll.free {w : Work} {t : State} (h : w.HaltsAll t) {b : BankId} (hc : (w.bank b).claimed = false) :
    t.bank b = w.bank b ∧ t.queued b = w.queued b := by
  have queued := h.queued b
  rw [hc, Bool.false_and, Bool.or_false] at queued
  exact ⟨(h.bank b).trans (Bank.halted_free hc _ _), queued⟩

/-- If of all banks `b` alone joins, it joins at the back of its class (02, R39; 03, R43, R44). -/
theorem Work.HaltsAll.queuedAtBack {w : Work} {t : State} (h : w.HaltsAll t) {b : BankId} (law : w.QueueLaw)
    (out : w.queued b = false) (joined : t.queued b = true) (alone : ∀ c, c ≠ b → t.queued c = w.queued c) :
    t.refillQueue = QueuedAtBack w.toState { bank := b, stamp := w.station.clock } := by
  obtain ⟨_, _, order⟩ := law
  have joins : w.joinsAtHalt b := by
    rw [h.queued, out, Bool.false_or, Bool.and_eq_true] at joined
    obtain ⟨claimed, low⟩ := joined
    rw [h.bank, Bank.halted_ready claimed] at low
    exact ⟨claimed, low, out⟩
  have others : ∀ c, c ≠ b → ¬ w.joinsAtHalt c := by
    rintro c hc ⟨claimed, low, unqueued⟩
    have stays := alone c hc
    rw [h.queued, h.bank, Bank.halted_ready claimed, claimed, low, unqueued] at stays
    cases stays
  have absent : withoutBank b w.refillQueue = w.refillQueue := List.filter_eq_self.mpr fun e he => by
    have other : (e.bank == b) = false := by
      rw [← Bool.not_eq_true]
      intro same
      rw [State.queued, List.any_eq_false] at out
      exact out e he same
    rw [bne, other]
    rfl
  rw [h.one b joins others]
  exact (congrArg (placeBack w.priorities _) absent.symm).trans (placeBack_eq order)

end Sys2Proof.Machine

/-- Settles O8: `Work.HaltsAll` says what the halt leaves, and the rule's end adds nothing on a halted station. -/
theorem emergencyStopHaltsEveryBlock : Obligations.EmergencyStopHaltsEveryBlock := by
  unfold Obligations.EmergencyStopHaltsEveryBlock
  refine fun s => ⟨fun running => ?_, fun halted => ?_⟩
  · generalize hw : (s.begin.modStation (fun x => { x with halt := .halted, inputs.esd := true })).raise 0 = w
    have halts : w.HaltsAll (w.haltAll.close s) := w.haltAll_haltsAll.close (by rw [← hw]; rfl) s
    refine ⟨w.haltAll.close s, ?_, ?_⟩
    · refine congrArg Host.Outcome.next ?_
      unfold State.rule
      dsimp only
      rw [if_pos (by exact running), hw]
    · generalize w.haltAll.close s = t at halts ⊢
      subst hw
      refine ⟨halts.station, ?_, fun b => ?_, halts.waitList, halts.powerQueue,
        fun b => ⟨fun claimed => halts.claimed ((Bank.claimed_iff _).mpr claimed), fun free => halts.free ?_⟩,
        halts.sublist, halts.stamps, fun b law out joined alone => halts.queuedAtBack law out joined alone,
        fun k => ⟨fun active => ?_, fun idle => ?_⟩, fun k => ?_, fun l => ?_, fun p => (halts.pos p).authorised,
        fun p h => halts.unpriced p h, fun p live => ?_, fun p => (halts.pos p).rest, halts.port⟩
      · rw [State.requested, halts.notices]
        show (s.notices.requests ||| BitVec.twoPow 16 0).getLsbD 0 = true
        simp
      · have out := Bank.halted_claimed (s.bank b) s.station.clock s.station.leakWindow
        rw [← not_or, ← Bank.claimed_iff, halts.bank]
        exact Bool.eq_false_iff.mp out
      · rw [← Bool.not_eq_true, Bank.claimed_iff]
        exact free
      · rw [halts.comp]
        exact if_pos active
      · rw [halts.comp]
        exact if_neg (by simp [idle])
      · rw [halts.comp]
        exact Compressor.halted_active _
      · rw [halts.loop]
        exact ⟨rfl, rfl, rfl, rfl, rfl, rfl, rfl⟩
      · obtain ⟨venting, reason⟩ := (halts.pos p).live live
        exact ⟨venting, reason⟩
  · refine congrArg Host.Outcome.next ?_
    unfold State.rule
    dsimp only
    rw [if_neg (by rw [show s.begin.station.halt = .halted from halted]; decide), ← halted]
    exact Work.close_quiet rfl rfl rfl
end

section
/-! SUPPORT. CLEAR in every block, block by block (01, R18; 02, R38; 03, R65; 04, R84; 05, R106; 08, R155). -/
open Sys2Proof Sys2Proof.Machine
namespace Sys2Proof.Machine

/-! ### CLEAR at the bank table -/

/-- CLEAR at one bank (02, R38). -/
def Work.clearBank (b : BankId) (w : Work) : Work := if (w.bank b).claimed then w.makeReady b else w

theorem Work.clearBanks_eq (w : Work) : w.clearBanks =
    { Work.each Work.clearBank allBanks w with waitList := [], refillQueue := [] } := by
  have step : (fun (b : BankId) (w : Work) => if (w.bank b).claimed = true then w.makeReady b else w) =
      Work.clearBank := rfl
  unfold Work.clearBanks
  rw [step]

theorem Work.clearBank_bank (w : Work) (b c : BankId) : (w.clearBank b).bank c =
    if c = b then (w.bank b).halted w.station.clock w.station.leakWindow else w.bank c := by
  unfold Work.clearBank Bank.halted
  split
  · exact Work.modBank_bank w b c _
  · split
    · next e => rw [e]
    · rfl

theorem Work.clearBank_frame (w : Work) (b : BankId) : w.BankWork (w.clearBank b) := by
  unfold Work.clearBank
  split <;> rfl

theorem Work.clearBanks_frame (w : Work) :
    w.clearBanks = { w with banks := w.clearBanks.banks, waitList := [], refillQueue := [],
                            evalDue := w.clearBanks.evalDue } := by
  have worked : w.BankWork (Work.each Work.clearBank allBanks w) :=
    Work.each_keeps Work.BankWork (fun _ => rfl) .trans _ (fun b v => v.clearBank_frame b) _ w
  rw [Work.clearBanks_eq]
  generalize Work.each Work.clearBank allBanks w = u at worked ⊢
  unfold Work.BankWork at worked
  rw [worked]

/-- Each bank after CLEAR: as after a halt (02, R38, R39). -/
theorem Work.clearBanks_bank (w : Work) (b : BankId) :
    w.clearBanks.bank b = (w.bank b).halted w.station.clock w.station.leakWindow := by
  suffices after : (Work.each Work.clearBank allBanks w).bank b =
      (w.bank b).halted w.station.clock w.station.leakWindow by
    rw [Work.clearBanks_eq]
    generalize Work.each Work.clearBank allBanks w = u at after ⊢
    exact after
  have station : ∀ (y : BankId) (v : Work), (v.clearBank y).station = v.station := fun y v => by
    rw [v.clearBank_frame y]
  refine Work.each_establishes (f := Work.clearBank) allBanks_nodup (mem_allBanks b)
    (fun v => v.station = w.station ∧ v.bank b = w.bank b)
    (fun v => v.bank b = (w.bank b).halted w.station.clock w.station.leakWindow) ?_ ?_ ?_ w ⟨rfl, rfl⟩
  · rintro y other v ⟨st, bank⟩
    rw [station, Work.clearBank_bank, if_neg (Ne.symm other)]
    exact ⟨st, bank⟩
  · rintro v ⟨st, bank⟩
    rw [Work.clearBank_bank, if_pos rfl, bank, st]
  · intro y other v bank
    rw [Work.clearBank_bank, if_neg (Ne.symm other), bank]

/-! ### CLEAR at the compressors and the loops -/

/-- The compressor as CLEAR leaves it (03, R65). -/
def Compressor.cleared (k : Compressor) : Compressor :=
  if k.state = .stopped ∨ k.state = .faulted then k
  else { k with state := .stopped, bank := none, startTimer := none, unloadTimer := none }

theorem Compressor.cleared_active (k : Compressor) : k.cleared.active = false := by
  unfold Compressor.cleared
  split
  · next idle =>
    unfold Compressor.active
    obtain e | e := idle <;> (rw [e]; rfl)
  · rfl

theorem Work.clearComp_comp (w : Work) (k j : CompId) :
    (w.clearComp k).comp j = if j = k then (w.comp k).cleared else w.comp j := by
  have stopped := Work.modComp_comp w k j (fun x =>
    { x with state := .stopped, bank := none, startTimer := none, unloadTimer := none })
  unfold Work.clearComp Compressor.cleared
  dsimp only
  split
  · split
    · next e => rw [e]
    · rfl
  · split <;> exact stopped

theorem Work.clearComp_frame (w : Work) (k : CompId) : w.CompWork (w.clearComp k) := by
  unfold Work.clearComp
  dsimp only
  split
  · rfl
  · split <;> rfl

/-- A compressor that held its draw releases it (03, R63, R65). -/
theorem Work.clearComp_debt (w : Work) (k : CompId) :
    (w.clearComp k).serveDue = (w.serveDue || (w.comp k).active) := by
  unfold Work.clearComp
  dsimp only
  split
  · next idle =>
    have none : (w.comp k).active = false := by
      unfold Compressor.active
      obtain e | e := idle <;> (rw [e]; rfl)
    rw [none, Bool.or_false]
  · split
    · next active => rw [active, Bool.or_true]; rfl
    · next idle => rw [Bool.eq_false_iff.mpr idle, Bool.or_false]; rfl

theorem Work.clearComps_comp (w : Work) (k : CompId) :
    (Work.each Work.clearComp allComps w).comp k = (w.comp k).cleared := by
  refine Work.each_establishes (f := Work.clearComp) allComps_nodup (mem_allComps k) (fun v => v.comp k = w.comp k)
    (fun v => v.comp k = (w.comp k).cleared) ?_ ?_ ?_ w rfl
  · intro y other v same
    rw [Work.clearComp_comp, if_neg (Ne.symm other), same]
  · intro v same
    rw [Work.clearComp_comp, if_pos rfl, same]
  · intro y other v same
    rw [Work.clearComp_comp, if_neg (Ne.symm other), same]

/-- The waiting order is owed a serving when a compressor released its draw (03, R63). -/
theorem Work.clearComps_owes {w : Work} {k : CompId} (h : (w.comp k).active = true) :
    (Work.each Work.clearComp allComps w).serveDue = true := by
  refine Work.each_establishes (f := Work.clearComp) allComps_nodup (mem_allComps k) (fun v => v.comp k = w.comp k)
    (fun v => v.serveDue = true) ?_ ?_ ?_ w rfl
  · intro y other v same
    rw [Work.clearComp_comp, if_neg (Ne.symm other), same]
  · intro v same
    rw [Work.clearComp_debt, same, h, Bool.or_true]
  · intro y _ v owed
    rw [Work.clearComp_debt, owed, Bool.true_or]

/-- From `w` to `t` no compressor becomes active, and with none active no serving becomes owed. -/
def Work.OwesNothingNew (w t : Work) : Prop :=
  (∀ k, (w.comp k).active = false) → (∀ k, (t.comp k).active = false) ∧ t.serveDue = w.serveDue

theorem Work.OwesNothingNew.trans {a b c : Work} (h : a.OwesNothingNew b) (g : b.OwesNothingNew c) :
    a.OwesNothingNew c := fun idle => by
  obtain ⟨still, due⟩ := h idle
  obtain ⟨after, owed⟩ := g still
  exact ⟨after, owed.trans due⟩

theorem Work.clearComps_owesNothing {w : Work} (h : ∀ k, (w.comp k).active = false) :
    (Work.each Work.clearComp allComps w).serveDue = w.serveDue := by
  have kept : w.OwesNothingNew (Work.each Work.clearComp allComps w) :=
    Work.each_keeps Work.OwesNothingNew (fun _ idle => ⟨idle, rfl⟩) .trans _ (fun k v idle => by
      refine ⟨fun j => ?_, by rw [Work.clearComp_debt, idle k, Bool.or_false]⟩
      rw [Work.clearComp_comp]
      split
      · exact Compressor.cleared_active _
      · exact idle j) _ w
  exact (kept h).2

/-- The loop as CLEAR leaves it (04, R84). -/
def Loop.cleared (x : Loop) : Loop := { x with grants := [], queue := [], loss := 0 }

theorem Work.clearLoops_loop (w : Work) (l : LoopId) :
    (Work.each Work.clearLoop allLoops w).loop l = (w.loop l).cleared := by
  refine Work.each_establishes (f := Work.clearLoop) allLoops_nodup (mem_allLoops l)
    (fun v => v.loop l = w.loop l) (fun v => v.loop l = (w.loop l).cleared) ?_ ?_ ?_ w rfl
  · intro y other v same
    exact (Work.modLoop_loop_ne v _ (Ne.symm other)).trans same
  · intro v same
    rw [← same]
    exact Work.modLoop_loop_self v l _
  · intro y other v same
    exact (Work.modLoop_loop_ne v _ (Ne.symm other)).trans same

/-! ### CLEAR at the positions -/

/-- The session as CLEAR leaves it (05, R106). -/
def Position.cleared (clock : Clock) (x : Position) : Position :=
  if x.ses.state = .idle then x
  else ({ x with ses := { x.ses with endReason := some .cleared, endStamp := some clock } } : Position).enterIdle

/-- Positions, holds and the next free value are all that CLEAR of a session changes. -/
def Work.ClearWork (w t : Work) : Prop :=
  t = { w with positions := t.positions, holds := t.holds, freeIndex := t.freeIndex }

theorem Work.ClearWork.trans {a b c : Work} (h : a.ClearWork b) (g : b.ClearWork c) : a.ClearWork c := by
  unfold Work.ClearWork at *
  rw [g, h]

theorem Work.ClearWork.station {w t : Work} (h : w.ClearWork t) : t.station = w.station := by
  unfold Work.ClearWork at h
  rw [h]

theorem Work.settle_frame (w : Work) (h : HoldId) (r : Option EndReason) :
    w.ClearWork (w.settle h r) ∧ (w.settle h r).positions = w.positions := by
  unfold Work.settle Work.addConditioning Work.addMass
  dsimp only
  split
  · split <;> exact ⟨rfl, rfl⟩
  · exact ⟨rfl, rfl⟩

/-- Settlement touches no other hold. -/
theorem Work.settle_hold_ne (w : Work) {h g : HoldId} (r : Option EndReason) (e : g ≠ h) :
    (w.settle h r).hold g = w.hold g := by
  unfold Work.settle Work.addConditioning Work.addMass
  dsimp only
  rw [Work.modHold_hold_ne _ _ e]
  split
  · rw [Work.modHold_hold_ne _ _ e, Work.modHold_hold_ne _ _ e]
    split <;> rfl
  · rfl

/-- A settlement with CLEARED (08, R153, R155). -/
theorem Work.settle_cleared {w : Work} {h : HoldId} (fits : (w.hold h).conditioning + (w.hold h).sold ≤ 4294967295) :
    (w.settle h (some .cleared)).hold h =
      SettledWith (w.hold h) .cleared w.station.graceMass w.station.clock := by
  have fault : StationFault .cleared = true := by decide
  unfold Work.settle SettledWith
  dsimp only
  rw [Work.modHold_hold_self]
  by_cases small : (w.hold h).sold ≤ w.station.graceMass
  · rw [if_pos ⟨rfl, small⟩, if_pos ⟨fault, small⟩, Work.modHold_hold_self]
    have added : w.addMass (w.hold h).conditioning (w.hold h).sold =
        ((w.hold h).conditioning + (w.hold h).sold, w) := if_pos fits
    unfold Work.addConditioning
    dsimp only
    rw [added, Work.modHold_hold_self]
  · rw [if_neg (fun x => small x.2), if_neg (fun x => small x.2)]

theorem Work.clearSession_idle {w : Work} {p : PosId} (h : (w.pos p).ses.state = .idle) : w.clearSession p = w :=
  if_pos h

/-- A session that is not IDLE: its bound hold is settled, and it enters IDLE (05, R106). -/
theorem Work.clearSession_live {w : Work} {p : PosId} (h : (w.pos p).ses.state ≠ .idle) : w.clearSession p =
    (match (w.pos p).ses.boundHold with
      | some g => w.settle g (some .cleared)
      | none => w).modPos p (fun x =>
        ({ x with ses := { x.ses with endReason := some .cleared, endStamp := some w.station.clock } } :
          Position).enterIdle) := if_neg h

theorem Work.clearSession_frame (w : Work) (p : PosId) : w.ClearWork (w.clearSession p) ∧
    ∀ q, (w.clearSession p).pos q = if q = p then (w.pos p).cleared w.station.clock else w.pos q := by
  unfold Position.cleared
  by_cases idle : (w.pos p).ses.state = .idle
  · rw [Work.clearSession_idle idle, if_pos idle]
    refine ⟨rfl, fun q => ?_⟩
    split
    · next e => rw [e]
    · rfl
  · rw [Work.clearSession_live idle, if_neg idle]
    split
    · next g _ =>
      obtain ⟨frame, positions⟩ := w.settle_frame g (some .cleared)
      have pos : ∀ q, (w.settle g (some .cleared)).pos q = w.pos q := fun q => by unfold State.pos; rw [positions]
      refine ⟨frame.trans rfl, fun q => ?_⟩
      rw [Work.modPos_pos, pos, pos]
    · exact ⟨rfl, fun q => Work.modPos_pos w p q _⟩

/-- A hold the session does not name stands. -/
theorem Work.clearSession_hold_ne {w : Work} {p : PosId} {h : HoldId} (hp : (w.pos p).ses.boundHold ≠ some h) :
    (w.clearSession p).hold h = w.hold h := by
  by_cases idle : (w.pos p).ses.state = .idle
  · rw [Work.clearSession_idle idle]
  · rw [Work.clearSession_live idle, Work.modPos_hold]
    split
    · next g named =>
      refine w.settle_hold_ne _ fun e => hp ?_
      rw [named, e]
    · rfl

/-- The named hold of a session that is not IDLE is settled (05, R106; 08, R155). -/
theorem Work.clearSession_hold {w : Work} {p : PosId} {h : HoldId} (live : (w.pos p).ses.state ≠ .idle)
    (named : (w.pos p).ses.boundHold = some h) :
    (w.clearSession p).hold h = (w.settle h (some .cleared)).hold h := by
  rw [Work.clearSession_live live, Work.modPos_hold, named]

/-- A cleared session names no other hold. -/
theorem Position.cleared_boundHold {x : Position} {clock : Clock} {h : HoldId} (hx : x.ses.boundHold ≠ some h) :
    (x.cleared clock).ses.boundHold ≠ some h := by
  unfold Position.cleared
  split
  · exact hx
  · exact fun e => by cases e

theorem Work.clearSession_boundHold {w : Work} {p q : PosId} {h : HoldId} (hq : (w.pos q).ses.boundHold ≠ some h) :
    ((w.clearSession p).pos q).ses.boundHold ≠ some h := by
  rw [(w.clearSession_frame p).2]
  split
  · next e => rw [e] at hq; exact Position.cleared_boundHold hq
  · exact hq

theorem Work.clearSessions_frame (w : Work) : w.ClearWork (Work.each Work.clearSession allPositions w) :=
  Work.each_keeps Work.ClearWork (fun _ => rfl) .trans _ (fun p v => (v.clearSession_frame p).1) _ w

theorem Work.clearSessions_pos (w : Work) (p : PosId) :
    (Work.each Work.clearSession allPositions w).pos p = (w.pos p).cleared w.station.clock := by
  refine Work.each_establishes (f := Work.clearSession) allPositions_nodup (mem_allPositions p)
    (fun v => v.station = w.station ∧ v.pos p = w.pos p) (fun v => v.pos p = (w.pos p).cleared w.station.clock)
    ?_ ?_ ?_ w ⟨rfl, rfl⟩
  · rintro q other v ⟨st, pos⟩
    obtain ⟨frame, each⟩ := v.clearSession_frame q
    exact ⟨frame.station.trans st, (each p).trans ((if_neg (Ne.symm other)).trans pos)⟩
  · rintro v ⟨st, pos⟩
    rw [(v.clearSession_frame p).2, if_pos rfl, pos, st]
  · intro q other v pos
    rw [(v.clearSession_frame q).2, if_neg (Ne.symm other), pos]

/-- The hold that one session alone names is settled with CLEARED (08, R155). -/
theorem Work.clearSessions_settled {w : Work} {p : PosId} {h : HoldId} (live : (w.pos p).ses.state ≠ .idle)
    (named : (w.pos p).ses.boundHold = some h) (alone : ∀ q, q ≠ p → (w.pos q).ses.boundHold ≠ some h)
    (fits : (w.hold h).conditioning + (w.hold h).sold ≤ 4294967295) :
    (Work.each Work.clearSession allPositions w).hold h =
      SettledWith (w.hold h) .cleared w.station.graceMass w.station.clock := by
  refine (Work.each_establishes (f := Work.clearSession) allPositions_nodup (mem_allPositions p)
    (fun v => v.station = w.station ∧ v.pos p = w.pos p ∧ v.hold h = w.hold h ∧
      ∀ q, q ≠ p → (v.pos q).ses.boundHold ≠ some h)
    (fun v => v.hold h = SettledWith (w.hold h) .cleared w.station.graceMass w.station.clock ∧
      ∀ q, q ≠ p → (v.pos q).ses.boundHold ≠ some h) ?_ ?_ ?_ w ⟨rfl, rfl, rfl, alone⟩).1
  · rintro q other v ⟨st, pos, hold, names⟩
    obtain ⟨frame, each⟩ := v.clearSession_frame q
    exact ⟨frame.station.trans st, (each p).trans ((if_neg (Ne.symm other)).trans pos),
      (Work.clearSession_hold_ne (names q other)).trans hold, fun x hx => Work.clearSession_boundHold (names x hx)⟩
  · rintro v ⟨st, pos, hold, names⟩
    refine ⟨?_, fun x hx => Work.clearSession_boundHold (names x hx)⟩
    rw [← pos] at live named
    rw [← hold] at fits
    rw [Work.clearSession_hold live named, Work.settle_cleared fits, hold, st]
  · rintro q other v ⟨hold, names⟩
    exact ⟨(Work.clearSession_hold_ne (names q other)).trans hold,
      fun x hx => Work.clearSession_boundHold (names x hx)⟩

/-- A hold that no session names, before and after. -/
def Work.KeepsUnnamed (h : HoldId) (w t : Work) : Prop :=
  (∀ q, (w.pos q).ses.boundHold ≠ some h) → (∀ q, (t.pos q).ses.boundHold ≠ some h) ∧ t.hold h = w.hold h

theorem Work.KeepsUnnamed.trans {h : HoldId} {a b c : Work} (f : Work.KeepsUnnamed h a b)
    (g : Work.KeepsUnnamed h b c) : Work.KeepsUnnamed h a c := fun unnamed => by
  obtain ⟨still, hold⟩ := f unnamed
  obtain ⟨after, kept⟩ := g still
  exact ⟨after, kept.trans hold⟩

theorem Work.clearSessions_unnamed {w : Work} {h : HoldId} (unnamed : ∀ q, (w.pos q).ses.boundHold ≠ some h) :
    (Work.each Work.clearSession allPositions w).hold h = w.hold h := by
  have kept : Work.KeepsUnnamed h w (Work.each Work.clearSession allPositions w) :=
    Work.each_keeps (Work.KeepsUnnamed h) (fun _ un => ⟨un, rfl⟩) .trans _ (fun p v un =>
      ⟨fun q => Work.clearSession_boundHold (un q), Work.clearSession_hold_ne (un p)⟩) _ w
  exact (kept unnamed).2

end Sys2Proof.Machine
end

section
/-! O52: CLEAR in every block, then the serving of the waiting order with the power the compressors release (01, R18;
03, R63). -/
open Sys2Proof Sys2Proof.Machine
namespace Sys2Proof.Machine

/-! ### CLEAR in every block -/

/-- What CLEAR leaves before the rule's end, block by block (01, R18). -/
structure Work.ClearsAll (w t : Work) : Prop where
  frame : t.toState = { w.toState with
    banks := t.banks, waitList := [], refillQueue := [], comps := t.comps, loops := t.loops, positions := t.positions,
    holds := t.holds, freeIndex := t.freeIndex, notices := t.notices }
  passedOver : t.passedOver = w.passedOver
  bank : ∀ b, t.bank b = (w.bank b).halted w.station.clock w.station.leakWindow
  comp : ∀ k, t.comp k = (w.comp k).cleared
  loop : ∀ l, t.loop l = (w.loop l).cleared
  pos : ∀ p, t.pos p = (w.pos p).cleared w.station.clock
  settled : ∀ p h, (w.pos p).ses.state ≠ .idle → (w.pos p).ses.boundHold = some h →
    (∀ q, q ≠ p → (w.pos q).ses.boundHold ≠ some h) → (w.hold h).conditioning + (w.hold h).sold ≤ 4294967295 →
    t.hold h = SettledWith (w.hold h) .cleared w.station.graceMass w.station.clock
  unnamed : ∀ h, (∀ q, (w.pos q).ses.boundHold ≠ some h) → t.hold h = w.hold h
  owes : ∀ k, (w.comp k).active = true → t.serveDue = true
  owesNothing : (∀ k, (w.comp k).active = false) → t.serveDue = w.serveDue
  enables : t.notices.enables = w.notices.enables
  requests : t.notices.requests = if allPositions.any w.clearSettles then 1024 else 0

/-- CLEAR before its notices. -/
def Work.clearBlocks (w : Work) : Work :=
  Work.each Work.clearSession allPositions
    (Work.each Work.clearLoop allLoops (Work.each Work.clearComp allComps w.clearBanks))

/-- The notices after CLEAR (10, R171). -/
def Work.clearNotices (settled : Bool) (w : Work) : Work :=
  if settled then ({ w with notices.requests := 0 } : Work).raise 10 else { w with notices.requests := 0 }

theorem Work.clearAll_eq (w : Work) : w.clearAll = w.clearBlocks.clearNotices (allPositions.any w.clearSettles) := by
  unfold Work.clearAll Work.clearBlocks
  dsimp only
  generalize Work.each Work.clearSession allPositions _ = u
  rfl

/-- Besides the notices nothing depends on whether a hold was settled. -/
theorem Work.clearNotices_frame (w : Work) (settled : Bool) : w.clearNotices settled =
    { w with notices := { w.notices with requests := if settled then 1024 else 0 } } := by
  have bit : (0 : BitVec 16) ||| BitVec.twoPow 16 10 = 1024 := by decide
  unfold Work.clearNotices Work.raise Notices.raise
  cases settled with
  | false => rfl
  | true =>
    dsimp only
    rw [if_pos rfl, if_pos rfl, bit]

theorem Work.clearAll_clearsAll (w : Work) : w.ClearsAll w.clearAll := by
  have banks := w.clearBanks_frame
  have bank := w.clearBanks_bank
  rw [Work.clearAll_eq, Work.clearNotices_frame]
  generalize hs : allPositions.any w.clearSettles = settled
  unfold Work.clearBlocks
  generalize w.clearBanks = a at *
  have comps : a.CompWork (Work.each Work.clearComp allComps a) :=
    Work.each_keeps Work.CompWork (fun _ => rfl) .trans _ (fun k v => v.clearComp_frame k) _ a
  have comp := a.clearComps_comp
  have owes := fun k => Work.clearComps_owes (w := a) (k := k)
  have owesNothing := Work.clearComps_owesNothing (w := a)
  generalize Work.each Work.clearComp allComps a = b at *
  have loops : b.LoopWork (Work.each Work.clearLoop allLoops b) :=
    Work.each_keeps Work.LoopWork (fun _ => rfl) .trans Work.clearLoop (fun _ _ => rfl) _ b
  have loop := b.clearLoops_loop
  generalize Work.each Work.clearLoop allLoops b = c at *
  have sessions := c.clearSessions_frame
  have pos := c.clearSessions_pos
  have holds := fun p h => Work.clearSessions_settled (w := c) (p := p) (h := h)
  have unnamed := fun h => Work.clearSessions_unnamed (w := c) (h := h)
  generalize Work.each Work.clearSession allPositions c = d at *
  unfold Work.CompWork at comps
  unfold Work.LoopWork at loops
  unfold Work.ClearWork at sessions
  have before : c.positions = w.positions ∧ c.holds = w.holds ∧ c.station = w.station := by
    rw [loops, comps, banks]
    exact ⟨rfl, rfl, rfl⟩
  obtain ⟨positions, heldBefore, station⟩ := before
  have samePos : ∀ p, c.pos p = w.pos p := fun p => by unfold State.pos; rw [positions]
  have sameHold : ∀ h, c.hold h = w.hold h := fun h => by unfold State.hold; rw [heldBefore]
  have sameComp : ∀ k, a.comp k = w.comp k := fun k => by rw [banks]; rfl
  simp only [samePos, sameHold, station, sameComp] at pos holds unnamed comp owes owesNothing
  have due : d.serveDue = b.serveDue ∧ a.serveDue = w.serveDue := by
    rw [sessions, loops, banks]
    exact ⟨rfl, rfl⟩
  obtain ⟨dueAfter, dueBefore⟩ := due
  exact
    { frame := by rw [sessions, loops, comps, banks]
      passedOver := by rw [sessions, loops, comps, banks]
      bank := fun x => by
        rw [← bank, sessions, loops, comps]
        rfl
      comp := fun k => by
        rw [← comp, sessions, loops]
        rfl
      loop := fun l => by
        have same : b.loop l = w.loop l := by rw [comps, banks]; rfl
        rw [← same, ← loop, sessions]
        rfl
      pos := pos
      settled := holds
      unnamed := unnamed
      owes := fun k active => dueAfter.trans (owes k active)
      owesNothing := fun idle => (dueAfter.trans (owesNothing idle)).trans dueBefore
      enables := by rw [sessions, loops, comps, banks]
      requests := by rw [hs] }

/-! ### The serving of the waiting order -/

/-- What of a state the serving of its waiting order looks at, in a state whose loops are cleared. -/
structure Work.ServesLike (w : Work) (x : State) : Prop where
  passedOver : w.passedOver = []
  powerQueue : w.powerQueue = x.powerQueue
  station : w.station = x.station
  comp : ∀ k, w.comp k = x.comp k
  loop : ∀ l, w.loop l = (x.loop l).cleared

theorem Work.ServesLike.granted {w : Work} {x : State} (h : w.ServesLike x) : w.granted = x.granted := by
  unfold State.granted
  rw [h.comp, h.comp, h.loop, h.loop]
  rfl

/-- One chiller of the waiting order served, in a state (03, R63). -/
def State.serveOne (x : State) (l : LoopId) : State :=
  if x.granted + (x.loop l).draw ≤ x.station.allowance then
    { x with
      powerQueue := x.powerQueue.filter (fun m => m != l),
      loops := x.loops.set l { x.loop l with chiller := .running } }
  else x

theorem servedOrder_eq (s : State) : ServedOrder s = s.powerQueue.foldl State.serveOne s := rfl

theorem Work.ServesLike.serveOne {w : Work} {x : State} (h : w.ServesLike x) (l : LoopId) :
    (w.serveOne l).ServesLike (x.serveOne l) := by
  have fits : w.chillerFits l = decide (x.granted + (x.loop l).draw ≤ x.station.allowance) := by
    unfold State.chillerFits
    rw [h.granted, h.loop, h.station]
    rfl
  have free : ¬ w.passedOver.contains l = true := by
    rw [h.passedOver]
    exact Bool.false_ne_true
  unfold Work.serveOne State.serveOne
  rw [if_neg free, fits]
  by_cases room : x.granted + (x.loop l).draw ≤ x.station.allowance
  · rw [if_pos (decide_eq_true room), if_pos room]
    refine ⟨h.passedOver, ?_, h.station, h.comp, fun m => ?_⟩
    · exact congrArg (List.filter _) h.powerQueue
    · refine (Work.modLoop_loop { w with powerQueue := w.powerQueue.filter (fun y => y != l) } l m _).trans ?_
      unfold State.loop
      rw [get_set_eq]
      split
      · exact congrArg (fun y : Loop => { y with chiller := .running }) (h.loop l)
      · exact h.loop m
  · rw [if_neg (by rw [decide_eq_true_eq]; exact room), if_neg room]
    exact h

/-- The waiting order served in a state with cleared loops is the order served in the state (03, R63). -/
theorem Work.ServesLike.serveWaiting {w : Work} {x : State} (h : w.ServesLike x) :
    w.serveWaiting.ServesLike (ServedOrder x) := by
  have served : ∀ (ls : List LoopId) (v : Work) (y : State), v.ServesLike y →
      (Work.each Work.serveOne ls v).ServesLike (ls.foldl State.serveOne y) := fun ls => by
    induction ls with
    | nil => exact fun _ _ same => same
    | cons l ls ih => exact fun v y same => ih _ _ (same.serveOne l)
  rw [servedOrder_eq, ← h.powerQueue]
  exact served _ w x h

/-- The serving of the waiting order changes chillers alone in a loop. -/
def Work.ServesChillers (w t : Work) : Prop := ∀ l, t.loop l = { w.loop l with chiller := (t.loop l).chiller }

theorem Work.ServesChillers.trans {a b c : Work} (h : a.ServesChillers b) (g : b.ServesChillers c) :
    a.ServesChillers c := fun l => by rw [g l, h l]

theorem Work.serveWaiting_chillers (w : Work) : w.ServesChillers w.serveWaiting :=
  Work.each_keeps Work.ServesChillers (fun _ _ => rfl) .trans Work.serveOne (fun l v m => by
    have granted : (v.grantChiller l).loop m = if m = l then { v.loop l with chiller := .running } else v.loop m :=
      Work.modLoop_loop { v with powerQueue := v.powerQueue.filter (fun y => y != l) } l m _
    unfold Work.serveOne
    split
    · rfl
    · split
      · rw [granted]
        split
        · next e => rw [e]
        · rfl
      · rfl) _ w

/-! ### The end of the rule -/

/-- The state after CLEAR and the end of its rule (01, R18; 03, R63). The serving of the order is that of any state `x`
with the order, loops and station of `s` and the compressors of `t`. -/
structure State.ClearedTo (s t : State) : Prop where
  stands : t.station = s.station ∧ t.port = s.port ∧ t.hostOut = s.hostOut
  tables : t.plans = s.plans ∧ t.rampTable = s.rampTable ∧ t.targetTable = s.targetTable ∧ t.fullTable = s.fullTable ∧
    t.notices.enables = s.notices.enables
  waitList : t.waitList = []
  refillQueue : t.refillQueue = []
  chan : ∀ c, t.link.chan c = s.link.chan c
  bank : ∀ b, t.bank b = (s.bank b).halted s.station.clock s.station.leakWindow
  comp : ∀ k, t.comp k = (s.comp k).cleared
  loop : ∀ l, t.loop l = { (s.loop l).cleared with chiller := (t.loop l).chiller }
  pos : ∀ p, t.pos p = (s.pos p).cleared s.station.clock
  settled : ∀ p h, (s.pos p).ses.state ≠ .idle → (s.pos p).ses.boundHold = some h →
    (∀ q, q ≠ p → (s.pos q).ses.boundHold ≠ some h) → (s.hold h).conditioning + (s.hold h).sold ≤ 4294967295 →
    t.hold h = SettledWith (s.hold h) .cleared s.station.graceMass s.station.clock
  unnamed : ∀ h, (∀ q, (s.pos q).ses.boundHold ≠ some h) → t.hold h = s.hold h
  served : (∃ k, (s.comp k).active = true) → ∀ x : State, x.powerQueue = s.powerQueue → x.loops = s.loops →
    x.station = s.station → x.comps = t.comps →
    t.powerQueue = (ServedOrder x).powerQueue ∧ ∀ l, (t.loop l).chiller = ((ServedOrder x).loop l).chiller
  unserved : (∀ k, (s.comp k).active = false) →
    t.powerQueue = s.powerQueue ∧ ∀ l, (t.loop l).chiller = (s.loop l).chiller
  requests : t.notices.requests = if allPositions.any s.clearSettles then 1024 else 0

/-- After CLEAR the refill queue is empty, so the rule's end serves the waiting order at most. -/
theorem Work.ClearsAll.wound {w u : Work} (h : w.ClearsAll u) :
    u.Unevaluated ∧ u.wound = if u.serveDue then u.serveWaiting else u := by
  have unevaluated : u.Unevaluated := .inr (congrArg State.refillQueue h.frame)
  exact ⟨unevaluated, unevaluated.wound⟩

theorem Work.close_loops (w : Work) (s0 : State) : (w.close s0).loops = w.wound.loops := by
  rw [Work.close_eq]; split <;> rfl

theorem Work.close_powerQueue (w : Work) (s0 : State) : (w.close s0).powerQueue = w.wound.powerQueue := by
  rw [Work.close_eq]; split <;> rfl

theorem Work.ClearsAll.close {s : State} {u : Work} (h : s.begin.ClearsAll u) : s.ClearedTo (u.close s) := by
  obtain ⟨unevaluated, wound⟩ := h.wound
  obtain ⟨banks, comps, queue⟩ := unevaluated.close s
  have settles := u.settles_close s
  have loops := u.close_loops s
  have order := u.close_powerQueue s
  have before : u.station = s.station ∧ u.port = s.port ∧ u.hostOut = s.hostOut ∧ u.plans = s.plans ∧
      u.rampTable = s.rampTable ∧ u.targetTable = s.targetTable ∧ u.fullTable = s.fullTable ∧ u.waitList = [] ∧
      u.refillQueue = [] ∧ u.link = s.link ∧ u.powerQueue = s.powerQueue := by
    rw [h.frame]
    exact ⟨rfl, rfl, rfl, rfl, rfl, rfl, rfl, rfl, rfl, rfl, rfl⟩
  obtain ⟨station, port, hostOut, plans, ramps, targets, fulls, waitList, refillQueue, link, powerQueue⟩ := before
  have loop : ∀ l, (u.close s).loop l = u.wound.loop l := fun l => by unfold State.loop; rw [loops]
  have bank : ∀ b, (u.close s).bank b = u.bank b := fun b => by unfold State.bank; rw [banks]
  have comp : ∀ k, (u.close s).comp k = u.comp k := fun k => by unfold State.comp; rw [comps]
  have hold : ∀ x, (u.close s).hold x = u.hold x := fun x => by unfold State.hold; rw [settles.holds]
  exact
    { stands := ⟨settles.station.trans station, settles.port.trans port, settles.hostOut.trans hostOut⟩
      tables := ⟨settles.plans.trans plans, settles.rampTable.trans ramps, settles.targetTable.trans targets,
        settles.fullTable.trans fulls, settles.enables.trans h.enables⟩
      waitList := (u.close_waitList s).trans waitList
      refillQueue := queue.trans refillQueue
      chan := fun c => by rw [Work.close_link, FieldLink.routed_chan, link]
      bank := fun b => (bank b).trans (h.bank b)
      comp := fun k => (comp k).trans (h.comp k)
      loop := fun l => by
        have chillers : u.ServesChillers u.wound := by
          rw [wound]
          split
          · exact u.serveWaiting_chillers
          · exact fun _ => rfl
        rw [loop, chillers l, h.loop l]
        rfl
      pos := fun p => (u.close_pos s p).trans (h.pos p)
      settled := fun p x live named alone fits => (hold x).trans (h.settled p x live named alone fits)
      unnamed := fun x none => (hold x).trans (h.unnamed x none)
      served := fun ⟨k, active⟩ x sameOrder sameLoops sameStation sameComps => by
        have like : u.ServesLike x :=
          { passedOver := h.passedOver
            powerQueue := powerQueue.trans sameOrder.symm
            station := station.trans sameStation.symm
            comp := fun j => by
              unfold State.comp
              rw [sameComps, comps]
            loop := fun l => by
              rw [h.loop]
              unfold State.loop
              rw [sameLoops]
              rfl }
        rw [h.owes k active] at wound
        have after : u.wound.ServesLike (ServedOrder x) := by
          rw [wound]
          exact like.serveWaiting
        refine ⟨order.trans after.powerQueue, fun l => ?_⟩
        rw [loop, after.loop]
        rfl
      unserved := fun idle => by
        rw [h.owesNothing idle] at wound
        have same : u.wound = u := wound
        refine ⟨(order.trans (by rw [same])).trans powerQueue, fun l => ?_⟩
        rw [loop, same, h.loop]
        rfl
      requests := by
        rw [Work.close_notices]
        exact h.requests }

/-! ### Settings and readings after CLEAR -/

theorem Bank.halted_settings (k : Bank) (clock : Clock) (leakWindow : Nat) :
    (k.halted clock leakWindow).tier = k.tier ∧ (k.halted clock leakWindow).rated = k.rated ∧
      (k.halted clock leakWindow).low = k.low ∧ (k.halted clock leakWindow).high = k.high ∧
      (k.halted clock leakWindow).priority = k.priority ∧ (k.halted clock leakWindow).pressure = k.pressure ∧
      (k.halted clock leakWindow).temperature = k.temperature := by
  unfold Bank.halted
  split
  · exact k.withFlags_settings
  · exact ⟨rfl, rfl, rfl, rfl, rfl, rfl, rfl⟩

theorem Compressor.cleared_settings (k : Compressor) : k.cleared.reach = k.reach ∧ k.cleared.draw = k.draw ∧
    k.cleared.startTime = k.startTime ∧ k.cleared.unloadTime = k.unloadTime ∧ k.cleared.withheld = k.withheld := by
  unfold Compressor.cleared
  split <;> exact ⟨rfl, rfl, rfl, rfl, rfl⟩

theorem Position.cleared_settings (x : Position) (clock : Clock) :
    (x.cleared clock).cfg = x.cfg ∧ (x.cleared clock).ses.hose = x.ses.hose := by
  unfold Position.cleared
  split <;> exact ⟨rfl, rfl⟩

theorem State.ClearedTo.sameSettings {s t : State} (h : s.ClearedTo t) : s.SameSettings t := by
  obtain ⟨plans, ramps, targets, fulls, enables⟩ := h.tables
  refine ⟨plans, ramps, targets, fulls, enables, fun p => ?_, fun b => ?_, fun k => ?_, fun l => ?_⟩
  · rw [h.pos]
    exact (Position.cleared_settings _ _).1
  · obtain ⟨tier, rated, low, high, priority, _⟩ := Bank.halted_settings (s.bank b) s.station.clock s.station.leakWindow
    rw [h.bank]
    exact ⟨tier, rated, low, high, priority⟩
  · rw [h.comp]
    exact Compressor.cleared_settings _
  · rw [h.loop]
    exact ⟨rfl, rfl, rfl, rfl, rfl⟩

theorem State.ClearedTo.reading {s t : State} (h : s.ClearedTo t) (c : Channel) : t.reading c = s.reading c := by
  obtain ⟨station, _⟩ := h.stands
  cases c with
  | bankP b =>
    obtain ⟨_, _, _, _, _, pressure, _⟩ := Bank.halted_settings (s.bank b) s.station.clock s.station.leakWindow
    unfold State.reading
    dsimp only
    rw [h.bank, pressure]
  | bankT b =>
    obtain ⟨_, _, _, _, _, _, temperature⟩ := Bank.halted_settings (s.bank b) s.station.clock s.station.leakWindow
    exact (congrArg Bank.temperature (h.bank b)).trans temperature
  | hoseP p =>
    unfold State.reading
    dsimp only
    rw [h.pos, (Position.cleared_settings _ _).2]
  | suctionP => exact congrArg (fun x : Station => x.suction.map Int.ofNat) station
  | ambientT => exact congrArg Station.ambient station
  | loopT l =>
    show (t.loop l).outlet = (s.loop l).outlet
    rw [h.loop]
    rfl

/-! ### Bound holds -/

/-- A session that names a hold is not IDLE (08, R149). -/
theorem State.HoldsAgree.notIdle {s : State} (h : s.HoldsAgree) {p : PosId} {g : HoldId}
    (named : (s.pos p).ses.boundHold = some g) : (s.pos p).ses.state ≠ .idle := by
  obtain ⟨charged, _⟩ := h
  intro idle
  have none := charged p
  rw [named, idle] at none
  cases none

/-- A bound hold is one that CLEAR settles (05, R106; 08, R149). -/
theorem State.HoldsAgree.clearSettles_iff {s : State} (h : s.HoldsAgree) :
    allPositions.any s.clearSettles = true ↔ ∃ g : HoldId, (s.hold g).state = .bound := by
  obtain ⟨_, _, bound⟩ := id h
  rw [List.any_eq_true]
  unfold State.clearSettles
  constructor
  · rintro ⟨p, _, settles⟩
    obtain ⟨_, some⟩ := Bool.and_eq_true_iff.mp settles
    obtain ⟨g, named⟩ := Option.isSome_iff_exists.mp some
    exact ⟨g, (bound g).mpr ⟨p, named⟩⟩
  · rintro ⟨g, held⟩
    obtain ⟨p, named⟩ := (bound g).mp held
    refine ⟨p, mem_allPositions p, ?_⟩
    rw [named, Bool.and_eq_true]
    exact ⟨bne_iff_ne.mpr (h.notIdle named), rfl⟩

theorem State.ClearedTo.hold {s t : State} (h : s.ClearedTo t) (agree : s.HoldsAgree) (g : HoldId) :
    ((s.hold g).state = .bound → (s.hold g).conditioning + (s.hold g).sold ≤ 4294967295 →
      t.hold g = SettledWith (s.hold g) .cleared s.station.graceMass s.station.clock) ∧
    ((s.hold g).state ≠ .bound → t.hold g = s.hold g) := by
  obtain ⟨_, single, bound⟩ := id agree
  refine ⟨fun held fits => ?_, fun free => ?_⟩
  · obtain ⟨p, named⟩ := (bound g).mp held
    exact h.settled p g (agree.notIdle named) named (fun q other also => other (single q p g also named)) fits
  · exact h.unnamed g fun q named => free ((bound g).mpr ⟨q, named⟩)

/-- CLEAR is one rule on the state with its answer (09, R163). -/
theorem clear_cleared {a : Addr} {tail : Tail} {s : State} (names : a.Names .station s.port.window)
    (whole : tail.Whole 0) : ∃ t, exec (.clear a tail) s = .next { t with port.lastResult := .ok } ∧
      (s.heard (addrRequest a 3 0 3 tail)).ClearedTo t :=
  ⟨_, congrArg Host.Outcome.next (portRequest_verb_taken (ref := .station) (v := .clear) rfl whole
    (addrRequest_resolve names rfl _ _ _) rfl rfl), (Work.clearAll_clearsAll _).close⟩

end Sys2Proof.Machine

/-- Settles O52: CLEAR is one rule; `State.ClearedTo` says what it leaves, block by block. -/
theorem clearTearsEverythingDown : Obligations.ClearTearsEverythingDown := by
  unfold Obligations.ClearTearsEverythingDown
  intro a tail s names whole agree
  obtain ⟨t, run, cleared⟩ := clear_cleared names whole
  refine ⟨{ t with port.lastResult := .ok }, run, ?_⟩
  have holds := cleared.hold agree
  have requests := cleared.requests
  obtain ⟨station, port, hostOut⟩ := cleared.stands
  obtain ⟨_, _, _, _, enables⟩ := cleared.tables
  refine ⟨⟨?_, hostOut⟩, station, cleared.waitList, cleared.refillQueue, fun b => ⟨fun claimed => ?_, fun free => ?_⟩,
    fun k => ⟨fun idle => ?_, fun busy => ?_⟩, cleared.loop, fun active =>
      cleared.served active { s with comps := t.comps } rfl rfl rfl rfl,
    cleared.unserved, fun p => ⟨fun idle => ?_, fun live => ?_⟩, holds, enables, fun some => ?_,
    fun none => ?_, cleared.sameSettings, fun c => ⟨cleared.chan c, cleared.reading c⟩⟩
  · exact congrArg (fun x : Port => { x with lastResult := .ok }) port
  · have bank := (cleared.bank b).trans (Bank.halted_ready ((Bank.claimed_iff _).mpr claimed) _ _)
    show (t.bank b).state = _ ∧ (t.bank b).claimant = _ ∧ (t.bank b).leakRef = _ ∧ (t.bank b).leakStamp = _ ∧
      (t.bank b).leakTimer = _
    rw [bank]
    exact ⟨rfl, rfl, rfl, rfl, rfl⟩
  · refine (cleared.bank b).trans (Bank.halted_free ?_ _ _)
    rw [← Bool.not_eq_true, Bank.claimed_iff]
    exact free
  · exact (cleared.comp k).trans (if_pos (Or.symm idle))
  · exact (cleared.comp k).trans (if_neg fun idle => busy (Or.symm idle))
  · exact (cleared.pos p).trans (if_pos idle)
  · exact (cleared.pos p).trans (if_neg live)
  · exact requests.trans (if_pos (State.HoldsAgree.clearSettles_iff agree |>.mpr some))
  · exact requests.trans (if_neg fun any => by
      obtain ⟨h, bound⟩ := State.HoldsAgree.clearSettles_iff agree |>.mp any
      exact none h bound)
end

section
/-! SUPPORT. The rows of the records: `State.RowsKept s t` says that from `s` to `t` compressors and banks stay in their
rows and the waiting order goes on agreeing with the chillers, with one lemma per operation of the banks, the
sequencer and the compressors. -/
namespace Sys2Proof.Machine

/-! ### The row of a bank and of a compressor -/

theorem Bank.withFlags_isolation (k : Bank) : k.withFlags.isolation = k.isolation := by
  unfold Bank.withFlags; split <;> rfl

/-- What a row reads of a bank decides it. -/
theorem Bank.RowHolds.of_eq {k t : Bank} (h : k.RowHolds) (hs : t.state = k.state) (hc : t.claimant = k.claimant)
    (hi : t.isolation = k.isolation) (hr : t.leakRef = k.leakRef) (ht : t.leakTimer = k.leakTimer) : t.RowHolds := by
  unfold Bank.RowHolds
  rw [hs, hc, hi, hr, ht]
  exact h

theorem Bank.RowHolds.withFlags {k : Bank} (h : k.RowHolds) : k.withFlags.RowHolds := by
  unfold Bank.withFlags
  split
  · exact h
  · exact h.of_eq rfl rfl rfl rfl rfl

theorem Bank.RowHolds.unisolated {k : Bank} (h : k.RowHolds) (hs : k.state ≠ .isolated) : k.isolation = none := by
  obtain ⟨_, _, isolated, _, _⟩ := h
  cases hi : k.isolation with
  | none => rfl
  | some r => exact absurd (isolated.mp (by rw [hi]; rfl)) hs

theorem Bank.RowHolds.unclaimed {k : Bank} (h : k.RowHolds) (hv : k.state ≠ .serving) (hr : k.state ≠ .refilling) :
    k.claimant = none := by
  obtain ⟨serving, refilling, _, _, _⟩ := h
  cases hc : k.claimant with
  | none => rfl
  | some c =>
    cases c with
    | pos p => exact absurd (serving.mp ⟨p, hc⟩) hv
    | comp k => exact absurd (refilling.mp ⟨k, hc⟩) hr

theorem Bank.enterReady_row {k : Bank} (h : k.isolation = none) (clock : Clock) (n : Nat) :
    (k.enterReady clock n).RowHolds := by
  have kept : (k.enterReady clock n).isolation = none := k.withFlags_isolation.trans h
  unfold Bank.RowHolds
  rw [kept]
  simp [Bank.enterReady]

theorem Bank.isolateWith_row (r : IsoReason) (k : Bank) : (k.isolateWith r).RowHolds := by
  simp [Bank.RowHolds, Bank.isolateWith, Bank.dropLeak]

theorem Bank.toUnused_row (k : Bank) : k.toUnused.RowHolds := by
  simp [Bank.RowHolds, Bank.toUnused, Bank.dropLeak]

theorem Bank.RowHolds.claim {k : Bank} (h : k.RowHolds) (c : Claimant) : (k.claim c).RowHolds := by
  unfold Bank.claim
  split
  · next ready =>
    have whole := h.unisolated (by rw [ready]; decide)
    cases c <;> simp [Bank.RowHolds, Bank.dropLeak, Claimant.bankState, whole]
  · exact h

theorem Bank.inService_not_isolated {k : Bank} (h : k.inService = true) : k.state ≠ .isolated := by
  intro e
  unfold Bank.inService at h
  rw [e] at h
  cases h

theorem Bank.RowHolds.retakeLeak {k : Bank} (h : k.RowHolds) (ready : k.state = .ready) (clock : Clock) (n : Nat) :
    (k.retakeLeak clock n).RowHolds := by
  obtain ⟨serving, refilling, isolated, _, _⟩ := h
  exact ⟨serving, refilling, isolated, fun _ => ready, iff_of_true rfl ready⟩

/-- What a row reads of a compressor decides it. -/
theorem Compressor.RowHolds.of_eq {k t : Compressor} (h : k.RowHolds) (hs : t.state = k.state) (hb : t.bank = k.bank)
    (hr : t.startTimer = k.startTimer) (hu : t.unloadTimer = k.unloadTimer) : t.RowHolds := by
  unfold Compressor.RowHolds Compressor.active
  rw [hs, hb, hr, hu]
  exact h

theorem Compressor.RowHolds.bank_none {k : Compressor} (h : k.RowHolds) (idle : k.active = false) : k.bank = none := by
  obtain ⟨bank, _, _⟩ := h
  rw [idle] at bank
  exact Option.isSome_eq_false_iff.mp bank |> Option.isNone_iff_eq_none.mp

theorem Compressor.RowHolds.active {k : Compressor} (h : k.RowHolds) {b : BankId} (hb : k.bank = some b) :
    k.active = true := by
  obtain ⟨bank, _, _⟩ := h
  rw [← bank, hb]
  rfl

theorem Compressor.unload_row (k : Compressor) : k.unload.RowHolds := by
  simp [Compressor.RowHolds, Compressor.unload, Compressor.active, seconds]

theorem Compressor.fault_row (k : Compressor) : k.fault.RowHolds := by
  simp [Compressor.RowHolds, Compressor.fault, Compressor.active]

/-! ### The relation -/

/-- From `s` to `t` the records stay in their rows (02, R19; 03, R41; 04, R71). -/
structure State.RowsKept (s t : State) : Prop where
  comps : s.CompRows → t.CompRows
  banks : s.BankRows → t.BankRows
  order : s.WaitingOrder → t.WaitingOrder

namespace State.RowsKept

theorem refl (s : State) : s.RowsKept s := ⟨id, id, id⟩

theorem trans {a b c : State} (h : a.RowsKept b) (g : b.RowsKept c) : a.RowsKept c :=
  ⟨fun x => g.comps (h.comps x), fun x => g.banks (h.banks x), fun x => g.order (h.order x)⟩

/-- One bank changes, and its new record is in its row. -/
theorem of_bank {s t : State} (b : BankId) (hk : t.comps = s.comps) (hl : t.loops = s.loops)
    (ho : t.powerQueue = s.powerQueue) (others : ∀ c, c ≠ b → t.bank c = s.bank c)
    (row : s.BankRows → (t.bank b).RowHolds) : s.RowsKept t where
  comps := fun h k => by
    unfold State.comp
    rw [hk]
    exact h k
  banks := fun h c => by
    by_cases e : c = b
    · rw [e]
      exact row h
    · rw [others c e]
      exact h c
  order := fun h => by
    unfold State.WaitingOrder State.loop
    rw [hl, ho]
    exact h

/-- Banks, compressors, chillers and the waiting order stand. -/
theorem of_eq {s t : State} (hb : t.banks = s.banks) (hk : t.comps = s.comps) (hl : t.loops = s.loops)
    (ho : t.powerQueue = s.powerQueue) : s.RowsKept t :=
  have bank : ∀ c, t.bank c = s.bank c := fun c => by unfold State.bank; rw [hb]
  of_bank 0 hk hl ho (fun c _ => bank c) (fun h => by rw [bank]; exact h 0)

/-- A bank handed over stays in its row. -/
theorem of_hands {b : BankId} {w t : Work} (h : Work.Hands b w t) (row : w.BankRows → (t.bank b).RowHolds) :
    w.RowsKept t.toState := of_bank b h.comps h.loops h.powerQueue h.others row

end State.RowsKept

/-! ### The primary updates -/

theorem Work.rows_modBank (w : Work) (b : BankId) {f : Bank → Bank}
    (h : (w.bank b).RowHolds → (f (w.bank b)).RowHolds) : w.RowsKept (w.modBank b f).toState :=
  .of_bank b rfl rfl rfl (fun _ e => Work.modBank_bank_ne w f e)
    (fun rows => by rw [Work.modBank_bank_self]; exact h (rows b))

theorem Work.rows_modComp (w : Work) (k : CompId) {f : Compressor → Compressor}
    (h : (w.comp k).RowHolds → (f (w.comp k)).RowHolds) : w.RowsKept (w.modComp k f).toState where
  comps := fun rows c => by
    rw [Work.modComp_comp]
    split
    · exact h (rows k)
    · exact rows c
  banks := id
  order := id

/-- Writing a loop but not its chiller. -/
theorem Work.rows_modLoop (w : Work) (l : LoopId) {f : Loop → Loop}
    (h : (f (w.loop l)).chiller = (w.loop l).chiller) : w.RowsKept (w.modLoop l f).toState where
  comps := id
  banks := id
  order := fun ⟨once, agree⟩ => ⟨once, fun m => by
    show m ∈ w.powerQueue ↔ _
    rw [Work.modLoop_loop, agree m]
    split
    · next e => rw [h, e]
    · rfl⟩

theorem Work.rows_modPos (w : Work) (p : PosId) (f : Position → Position) : w.RowsKept (w.modPos p f).toState :=
  .of_eq rfl rfl rfl rfl

/-! ### Banks handed over -/

/-- A freed bank is the only one that changes: it has entered READY (02, R32). -/
theorem Work.freeBank_bank (w : Work) (b : BankId) :
    (w.freeBank b).bank b = (w.bank b).enterReady w.station.clock w.station.leakWindow := by
  unfold Work.freeBank Work.makeReady
  dsimp only
  split <;> split <;> simp [Work.oweEval, Work.joinQueue_bank]

theorem Work.freeBank_row {w : Work} {b : BankId} (h : (w.bank b).isolation = none) :
    ((w.freeBank b).bank b).RowHolds := by
  rw [Work.freeBank_bank]
  exact Bank.enterReady_row h _ _

theorem Work.rows_claimBank (w : Work) (c : Claimant) (b : BankId) : w.RowsKept (w.claimBank c b).toState :=
  w.rows_modBank b fun h => h.claim c

theorem Work.claimBank_bank (w : Work) (c : Claimant) (b : BankId) : (w.claimBank c b).bank b = (w.bank b).claim c :=
  Work.modBank_bank_self w b _

/-- An offered bank stays in its row through every round of the offer (02, R37). -/
theorem Work.offer_row {n : Nat} {b : BankId} {w : Work} (hs : (w.bank b).inService = true)
    (hr : (w.bank b).RowHolds) : ((Work.offer n b w).bank b).RowHolds := by
  induction n generalizing w with
  | zero => exact hr
  | succ n ih =>
    unfold Work.offer
    split
    · exact hr
    · next e _ =>
      have taken : (((w.leaveWaitList e.pos).claimBank (.pos e.pos) b).takeOffer e.pos b).2.bank b =
          (w.bank b).claim (.pos e.pos) := by
        rw [Work.takeOffer_bank, Work.claimBank_bank]
        rfl
      dsimp only
      split
      · rw [taken]
        exact hr.claim _
      · refine ih ?_ (Work.freeBank_row ?_)
        · unfold Bank.inService
          rw [Work.freeBank_ready]
          rfl
        · rw [taken]
          exact (hr.claim _).unisolated (Bank.inService_not_isolated (Bank.claim_inService _ _ hs))

theorem Work.offerBank_row {b : BankId} {w : Work} (hr : (w.bank b).RowHolds) : ((w.offerBank b).bank b).RowHolds := by
  unfold Work.offerBank
  split
  · next ready => exact Work.offer_row (by unfold Bank.inService; rw [ready]; rfl) hr
  · exact hr

theorem Work.rows_offerBank (w : Work) (b : BankId) : w.RowsKept (w.offerBank b).toState :=
  .of_hands (w.hands_offerBank b) fun rows => Work.offerBank_row (rows b)

theorem State.heldBy_unisolated {s : State} {c : Claimant} {b : BankId} (h : s.heldBy c b = true)
    (rows : s.BankRows) : (s.bank b).isolation = none :=
  (rows b).unisolated (Bank.inService_not_isolated (State.heldBy_inService h))

theorem Work.rows_releaseBank (w : Work) (c : Claimant) (b : BankId) : w.RowsKept (w.releaseBank c b).toState := by
  refine .of_hands (w.hands_releaseBank c b) fun rows => ?_
  unfold Work.releaseBank
  split
  · next held => exact Work.offerBank_row (Work.freeBank_row (State.heldBy_unisolated held rows))
  · exact rows b

theorem Work.rows_giveBack (w : Work) (k : CompId) (b : BankId) : w.RowsKept (w.giveBack k b).toState := by
  refine .of_hands (w.hands_giveBack k b) fun rows => ?_
  unfold Work.giveBack
  split
  · next held =>
    refine Work.offerBank_row ?_
    show ((w.makeReady b).bank b).RowHolds
    unfold Work.makeReady
    rw [Work.modBank_bank_self]
    exact Bank.enterReady_row (State.heldBy_unisolated held rows) _ _
  · exact rows b

/-! ### The sequencer -/

theorem Work.rows_joinWaitList (w : Work) (p : PosId) (ts : List Tier) : w.RowsKept (w.joinWaitList p ts).toState := by
  unfold Work.joinWaitList
  split
  · exact .of_eq rfl rfl rfl rfl
  · exact .of_eq rfl rfl rfl rfl

theorem Work.rows_pulsingSelect (w : Work) (p : PosId) : w.RowsKept (w.pulsingSelect p).toState := by
  unfold Work.pulsingSelect
  dsimp only
  split
  · exact (w.rows_claimBank _ _).trans (Work.rows_modPos _ p _)
  · exact (w.rows_joinWaitList p _).trans (Work.rows_modPos _ p _)

theorem Work.rows_grantGiven (w : Work) (p : PosId) : w.RowsKept (w.grantGiven p).toState := by
  have told := w.rows_modPos p (fun x => { x with ses.band := .cold })
  unfold Work.grantGiven
  dsimp only
  split
  · exact (told.trans (Work.rows_modPos _ p _)).trans (Work.rows_pulsingSelect _ p)
  · exact told

theorem Work.rows_serveQueueN (n : Nat) (l : LoopId) (w : Work) : w.RowsKept (Work.serveQueueN n l w).toState := by
  induction n generalizing w with
  | zero => exact .refl _
  | succ n ih =>
    unfold Work.serveQueueN
    split
    · exact .refl _
    · split
      · exact ((Work.rows_modLoop w l (f := fun x => { x with grants := x.grants ++ [_], queue := _ }) rfl).trans
          (Work.rows_grantGiven _ _)).trans (ih _)
      · exact .refl _

theorem Work.rows_requestGrant (w : Work) (p : PosId) (l : LoopId) : w.RowsKept (w.requestGrant p l).toState := by
  unfold Work.requestGrant
  split
  · exact .refl _
  · exact (Work.rows_modLoop w l (f := fun x => { x with queue := x.queue ++ [p] }) rfl).trans
      (Work.rows_serveQueueN 2 l _)

theorem Work.rows_leaveLoop (w : Work) (p : PosId) : w.RowsKept (w.leaveLoop p).toState := by
  unfold Work.leaveLoop
  split
  · exact .refl _
  · next l _ =>
    split
    · exact (Work.rows_modLoop w l (f := Loop.dropGrant p) rfl).trans (Work.rows_serveQueueN 2 l _)
    · split
      · exact (Work.rows_modLoop w l (f := fun x => { x with queue := x.queue.filter (fun y => y != p) }) rfl).trans
          (Work.rows_serveQueueN 2 l _)
      · exact .refl _

theorem Work.rows_releaseNamed (w : Work) (p : PosId) : w.RowsKept (w.releaseNamed p).toState := by
  have dropped := w.rows_modPos p (fun y => { y with ses := { y.ses with current := none, staged := none } })
  unfold Work.releaseNamed
  dsimp only
  split <;> split
  · exact (dropped.trans (Work.rows_releaseBank _ _ _)).trans (Work.rows_releaseBank _ _ _)
  · exact dropped.trans (Work.rows_releaseBank _ _ _)
  · exact dropped.trans (Work.rows_releaseBank _ _ _)
  · exact dropped

theorem Work.rows_endCore (w : Work) (p : PosId) (r : EndReason) : w.RowsKept (w.endCore p r).toState := by
  have released := (w.rows_modPos p (Position.markEnd r w.station.clock)).trans (Work.rows_releaseNamed _ p)
  have left : w.RowsKept (((w.modPos p (Position.markEnd r w.station.clock)).releaseNamed p).leaveWaitList p).toState :=
    released.trans (.of_eq rfl rfl rfl rfl)
  exact (left.trans (Work.rows_leaveLoop _ p)).trans (Work.rows_modPos _ p _)

theorem Work.rows_endFill (w : Work) (p : PosId) (r : EndReason) : w.RowsKept (w.endFill p r).toState := by
  unfold Work.endFill
  split
  · exact w.rows_endCore p r
  · exact .refl _

theorem Work.rows_fuellingSelect (w : Work) (p : PosId) : w.RowsKept (w.fuellingSelect p).2.toState := by
  unfold Work.fuellingSelect
  dsimp only
  split
  · exact (w.rows_claimBank _ _).trans (Work.rows_modPos _ p _)
  · exact .refl _

theorem Work.rows_judgeValve (w : Work) (p : PosId) : w.RowsKept (w.judgeValve p).toState := by
  unfold Work.judgeValve
  dsimp only
  split
  · split
    · exact w.rows_modPos p _
    · exact w.rows_modPos p _
  · exact .refl _

theorem Work.rows_enterHeld (w : Work) (p : PosId) (c : Cause) : w.RowsKept (w.enterHeld p c).toState := by
  unfold Work.enterHeld
  exact ((w.rows_modPos p _).trans (Work.rows_releaseNamed _ p)).trans (Work.rows_modPos _ p _)

theorem Work.rows_addCause (w : Work) (p : PosId) (c : Cause) : w.RowsKept (w.addCause p c).toState := by
  unfold Work.addCause
  split
  · exact w.rows_enterHeld p c
  · exact w.rows_modPos p _
  · exact .refl _

theorem Work.rows_selectOrHold (w : Work) (p : PosId) : w.RowsKept (w.selectOrHold p).toState := by
  unfold Work.selectOrHold Work.noBankHold
  dsimp only
  split
  · exact w.rows_fuellingSelect p
  · exact ((w.rows_fuellingSelect p).trans (Work.rows_joinWaitList _ p _)).trans (Work.rows_enterHeld _ p _)

theorem Work.rows_leaveHeld (w : Work) (p : PosId) : w.RowsKept (w.leaveHeld p).toState := by
  unfold Work.leaveHeld
  dsimp only
  split
  · exact ((w.rows_modPos p _).trans (Work.rows_fuellingSelect _ p)).trans (Work.rows_modPos _ p _)
  · exact (((w.rows_modPos p _).trans (Work.rows_fuellingSelect _ p)).trans (Work.rows_joinWaitList _ p _)).trans
      (Work.rows_modPos _ p _)

theorem Work.rows_removeCause (w : Work) (p : PosId) (c : Cause) : w.RowsKept (w.removeCause p c).toState := by
  unfold Work.removeCause
  dsimp only
  split
  · split
    · exact (w.rows_modPos p _).trans (Work.rows_leaveHeld _ p)
    · exact w.rows_modPos p _
  · exact .refl _

theorem Work.rows_applyFallback (w : Work) (p : PosId) : w.RowsKept (w.applyFallback p).toState := by
  unfold Work.applyFallback
  dsimp only
  split
  · exact (w.rows_modPos p _).trans (Work.rows_endFill _ p _)
  · exact (w.rows_modPos p _).trans (Work.rows_judgeValve _ p)

theorem Work.rows_stepOn (w : Work) (p : PosId) : w.RowsKept (w.stepOn p).toState := by
  have counted := w.rows_modPos p (fun x => { x with ses.steps := min 255 (x.ses.steps + 1) })
  unfold Work.stepOn
  dsimp only
  split <;> split
  · exact (counted.trans (Work.rows_applyFallback _ p)).trans (Work.rows_selectOrHold _ p)
  · exact counted.trans (Work.rows_applyFallback _ p)
  · exact counted.trans (Work.rows_selectOrHold _ p)
  · exact counted

theorem Work.rows_stepFill (w : Work) (p : PosId) : w.RowsKept (w.stepFill p).toState := by
  unfold Work.stepFill
  dsimp only
  split
  · exact ((w.rows_modPos p _).trans (Work.rows_releaseBank _ _ _)).trans (Work.rows_stepOn _ p)
  · exact (w.rows_modPos p _).trans (Work.rows_stepOn _ p)

theorem Work.rows_bankLost (w : Work) (p : PosId) (b : BankId) : w.RowsKept (w.bankLost p b).toState := by
  unfold Work.bankLost
  dsimp only
  split
  · exact (w.rows_modPos p _).trans (Work.rows_modPos _ p _)
  · split
    · exact (w.rows_modPos p _).trans (Work.rows_stepOn _ p)
    · exact .refl _

/-! ### Compressors and isolation -/

theorem Work.rows_unloadComp (w : Work) (k : CompId) : w.RowsKept (w.unloadComp k).toState :=
  w.rows_modComp k fun _ => Compressor.unload_row _

theorem Work.rows_loseRefill (w : Work) (k : CompId) : w.RowsKept (w.loseRefill k).toState := by
  unfold Work.loseRefill
  dsimp only
  split
  · exact (w.rows_unloadComp k).trans (Work.rows_giveBack _ k _)
  · exact w.rows_unloadComp k

theorem Work.rows_completeRefill (w : Work) (k : CompId) : w.RowsKept (w.completeRefill k).toState := by
  have counted : w.RowsKept ((w.unloadComp k).modComp k (fun c => { c with refills := c.refills + 1 })).toState :=
    (w.rows_unloadComp k).trans (Work.rows_modComp _ k fun h => h.of_eq rfl rfl rfl rfl)
  unfold Work.completeRefill
  dsimp only
  split
  · exact (counted.trans (Work.rows_modBank _ _ fun h => h.of_eq rfl rfl rfl rfl rfl)).trans
      (Work.rows_releaseBank _ _ _)
  · exact counted

theorem Work.rows_isolateBank (w : Work) (b : BankId) (r : IsoReason) : w.RowsKept (w.isolateBank b r).toState := by
  have isolated := w.rows_modBank b (f := Bank.isolateWith r) fun _ => Bank.isolateWith_row r _
  unfold Work.isolateBank
  dsimp only
  split
  · have told : ∀ v : Work, w.RowsKept v.toState → w.RowsKept ((v.leaveQueue b).raise 11).toState :=
      fun v h => h.trans (.of_eq rfl rfl rfl rfl)
    refine told _ ?_
    split
    · exact isolated.trans (Work.rows_bankLost _ _ b)
    · split
      · exact isolated.trans (Work.rows_unloadComp _ _)
      · exact isolated
    · exact isolated
  · exact .refl _

theorem Work.rows_assign {w : Work} {k : CompId} (stopped : (w.comp k).state = .stopped) (b : BankId) :
    w.RowsKept (w.assign k b).toState := by
  have claimed : w.RowsKept ((w.leaveQueue b).claimBank (.comp k) b).toState :=
    .trans (b := (w.leaveQueue b).toState) (.of_eq rfl rfl rfl rfl) (Work.rows_claimBank _ _ _)
  refine claimed.trans (Work.rows_modComp _ k fun h => ?_)
  obtain ⟨_, _, unloading⟩ := h
  have idle : (w.comp k).unloadTimer.isSome = false := by
    rw [← show ((w.leaveQueue b).claimBank (.comp k) b).comp k = w.comp k from rfl, unloading]
    show ((w.comp k).state == .unloading) = false
    rw [stopped]
    rfl
  exact ⟨rfl, rfl, idle⟩

/-! ### The waiting order -/

/-- A chiller that did not wait joins the waiting order. -/
theorem State.WaitingOrder.join {s t : State} {l : LoopId} (h : s.WaitingOrder)
    (out : (s.loop l).chiller ≠ .waitingPower) (queue : t.powerQueue = s.powerQueue ++ [l])
    (mine : (t.loop l).chiller = .waitingPower) (others : ∀ m, m ≠ l → (t.loop m).chiller = (s.loop m).chiller) :
    t.WaitingOrder := by
  obtain ⟨once, agree⟩ := h
  unfold State.WaitingOrder
  rw [queue]
  refine ⟨List.nodup_append.mpr ⟨once, List.nodup_singleton l, fun x hx y hy e => ?_⟩, fun m => ?_⟩
  · rw [List.mem_singleton.mp hy] at e
    exact out ((agree l).mp (e ▸ hx))
  · by_cases e : m = l
    · simp [e, mine]
    · simp [e, others m e, agree m]

/-- A chiller that runs or is OFF from now on leaves the waiting order. -/
theorem State.WaitingOrder.leave {s t : State} {l : LoopId} (h : s.WaitingOrder)
    (queue : t.powerQueue = s.powerQueue.filter (fun x => x != l)) (mine : (t.loop l).chiller ≠ .waitingPower)
    (others : ∀ m, m ≠ l → (t.loop m).chiller = (s.loop m).chiller) : t.WaitingOrder := by
  obtain ⟨once, agree⟩ := h
  unfold State.WaitingOrder
  rw [queue]
  refine ⟨once.filter _, fun m => ?_⟩
  by_cases e : m = l
  · simp [e, mine]
  · simp [e, others m e, agree m]

/-- A chiller that did not wait and does not wait is no matter of the waiting order. -/
theorem State.WaitingOrder.stand {s t : State} {l : LoopId} (h : s.WaitingOrder)
    (out : (s.loop l).chiller ≠ .waitingPower) (queue : t.powerQueue = s.powerQueue)
    (mine : (t.loop l).chiller ≠ .waitingPower) (others : ∀ m, m ≠ l → (t.loop m).chiller = (s.loop m).chiller) :
    t.WaitingOrder := by
  obtain ⟨once, agree⟩ := h
  unfold State.WaitingOrder
  rw [queue]
  refine ⟨once, fun m => ?_⟩
  by_cases e : m = l
  · rw [e, agree l]
    exact iff_of_false out mine
  · rw [others m e, agree m]

/-- The chiller of a loop is switched. -/
def Loop.switch (c : ChillerState) (x : Loop) : Loop := { x with chiller := c }

theorem Work.switch_self (w : Work) (l : LoopId) (c : ChillerState) :
    ((w.modLoop l (Loop.switch c)).loop l).chiller = c := by rw [Work.modLoop_loop_self]; rfl

theorem Work.switch_not_waiting (w : Work) (l : LoopId) {c : ChillerState} (h : c ≠ .waitingPower) :
    ((w.modLoop l (Loop.switch c)).loop l).chiller ≠ .waitingPower := by rw [Work.switch_self]; exact h

theorem Work.switch_others (w : Work) (l : LoopId) (c : ChillerState) (m : LoopId) (h : m ≠ l) :
    ((w.modLoop l (Loop.switch c)).loop m).chiller = (w.loop m).chiller := by rw [Work.modLoop_loop_ne w _ h]

/-- A chiller that is granted leaves the waiting order (04, R72). -/
theorem Work.rows_grantChiller (w : Work) (l : LoopId) : w.RowsKept (w.grantChiller l).toState where
  comps := id
  banks := id
  order := fun h => h.leave rfl (w.switch_not_waiting l (c := .running) (by decide)) (w.switch_others l .running)

/-- A RUNNING chiller is not in the waiting order, so that it joins once (03, R64). -/
theorem Work.rows_shedLoop {w : Work} {l : LoopId} (running : (w.loop l).chiller = .running) :
    w.RowsKept (w.shedLoop l).toState where
  comps := id
  banks := id
  order := fun h => h.join (by rw [running]; decide) rfl (w.switch_self l _) (w.switch_others l _)

theorem State.shedChiller_running {s : State} {holder : Bool} {l : LoopId} (h : s.shedChiller holder = some l) :
    (s.loop l).chiller = .running := by
  unfold State.shedChiller at h
  split at h
  · next found =>
    cases h
    exact found.1
  · split at h
    · next found =>
      cases h
      exact found.1
    · cases h

end Sys2Proof.Machine
end

section
/-! SUPPORT. Custody of a bank: `State.Custody` gathers the laws O59 speaks of into one predicate that every rule keeps,
also between the parts of a rule, where the session of one position may be `late`: it has given up its bank, and its
state follows. Two lemmas say which changes of records keep it; the hand-over of a bank to the wait list comes next. -/
namespace Sys2Proof.Machine

/-! ### A session and the banks it names -/

/-- What a session's bank, route and pulse say of its state (05, R88, R89; 02, R34). -/
structure Position.Sound (x : Position) (waits : Bool) : Prop where
  current : x.ses.current.isSome = true → x.ses.state = .pulsing ∨ x.ses.state = .fuelling
  staged : x.ses.staged.isSome = true → x.ses.state = .fuelling ∧ x.ses.current = none
  pulse : x.tmr.pulse.isSome = true → x.ses.state = .pulsing ∧ x.ses.current.isSome = true
  listed : waits = true →
    (x.ses.state = .pulsing ∧ x.ses.current = none) ∨ (x.ses.state = .held ∧ x.ses.causes.noBank = true)
  supply : ∀ b, x.ses.supply = some b → x.ses.current = some b

theorem Position.sound_iff (x : Position) (waits : Bool) :
    x.Sound waits ↔ x.NamesOne waits ∧ ∀ b, x.ses.supply = some b → x.ses.current = some b :=
  ⟨fun h => ⟨⟨h.current, h.staged, h.pulse, h.listed⟩, h.supply⟩,
    fun ⟨⟨current, staged, pulse, listed⟩, supply⟩ => ⟨current, staged, pulse, listed, supply⟩⟩

/-- A session with no bank: none named, none on its route, no pulse. -/
structure Position.Bare (x : Position) : Prop where
  current : x.ses.current = none
  staged : x.ses.staged = none
  supply : x.ses.supply = none
  pulse : x.tmr.pulse = none

theorem Position.Bare.sound {x : Position} (h : x.Bare) {waits : Bool}
    (listed : waits = true → x.ses.state = .pulsing ∨ (x.ses.state = .held ∧ x.ses.causes.noBank = true)) :
    x.Sound waits where
  current := by simp [h.current]
  staged := by simp [h.staged]
  pulse := by simp [h.pulse]
  listed := fun w => (listed w).imp_left fun e => ⟨e, h.current⟩
  supply := by simp [h.supply]

theorem Position.Bare.names {x : Position} (h : x.Bare) (b : BankId) : ¬ x.ses.names b := by
  simp [Session.names, h.current, h.staged]

theorem Position.Sound.bare_of {x : Position} {waits : Bool} (h : x.Sound waits) (current : x.ses.current = none)
    (staged : x.ses.staged = none) : x.Bare where
  current := current
  staged := staged
  supply := by
    cases hs : x.ses.supply with
    | none => rfl
    | some b =>
      have named := h.supply b hs
      rw [current] at named
      cases named
  pulse := by
    cases hp : x.tmr.pulse with
    | none => rfl
    | some t =>
      obtain ⟨_, some_⟩ := h.pulse (by rw [hp]; rfl)
      rw [current] at some_
      cases some_

theorem Position.Sound.unstaged {x : Position} {waits : Bool} (h : x.Sound waits) (hs : x.ses.state ≠ .fuelling) :
    x.ses.staged = none := by
  cases e : x.ses.staged with
  | none => rfl
  | some b => exact absurd (h.staged (by rw [e]; rfl)).1 hs

theorem Position.Sound.unstaged_of_current {x : Position} {waits : Bool} (h : x.Sound waits) {b : BankId}
    (current : x.ses.current = some b) : x.ses.staged = none := by
  cases e : x.ses.staged with
  | none => rfl
  | some c =>
    have absent := (h.staged (by rw [e]; rfl)).2
    rw [current] at absent
    cases absent

theorem Position.Sound.pulseless {x : Position} {waits : Bool} (h : x.Sound waits) (hp : x.ses.state ≠ .pulsing) :
    x.tmr.pulse = none := by
  cases e : x.tmr.pulse with
  | none => rfl
  | some n => exact absurd (h.pulse (by rw [e]; rfl)).1 hp

/-- Only PULSING and HELD wait for a bank. -/
theorem Position.Sound.not_waits {x : Position} {waits : Bool} (h : x.Sound waits) (hp : x.ses.state ≠ .pulsing)
    (hh : x.ses.state ≠ .held) : waits = false :=
  Bool.eq_false_iff.mpr fun e => (h.listed e).elim (fun y => hp y.1) (fun y => hh y.1)

/-- Only PULSING and FUELLING have a bank. -/
theorem Position.Sound.bare {x : Position} {waits : Bool} (h : x.Sound waits) (hp : x.ses.state ≠ .pulsing)
    (hf : x.ses.state ≠ .fuelling) : x.Bare := by
  refine h.bare_of ?_ (h.unstaged hf)
  cases e : x.ses.current with
  | none => rfl
  | some b => exact absurd (h.current (by rw [e]; rfl)) (by simp [hp, hf])

/-- A session that waits for a bank has none. -/
theorem Position.Sound.bare_of_waits {x : Position} (h : x.Sound true) : x.Bare := by
  obtain ⟨pulsing, none_⟩ | ⟨held, _⟩ := h.listed rfl
  · exact h.bare_of none_ (h.unstaged (by rw [pulsing]; decide))
  · exact h.bare (by rw [held]; decide) (by rw [held]; decide)

theorem Position.Sound.unlisted {x : Position} {waits : Bool} (h : x.Sound waits) : x.Sound false :=
  ⟨h.current, h.staged, h.pulse, fun e => (by cases e), h.supply⟩

/-- Fewer on the wait list. -/
theorem Position.Sound.mono {x : Position} {a b : Bool} (h : x.Sound a) (le : b = true → a = true) : x.Sound b :=
  ⟨h.current, h.staged, h.pulse, fun e => h.listed (le e), h.supply⟩

/-- A session names at most one bank. -/
theorem Position.Sound.names_unique {x : Position} {waits : Bool} (h : x.Sound waits) {b c : BankId}
    (hb : x.ses.names b) (hc : x.ses.names c) : c = b := by
  have apart : ∀ {d e : BankId}, x.ses.staged = some d → x.ses.current = some e → False := fun hd he => by
    have none_ := (h.staged (by rw [hd]; rfl)).2
    rw [he] at none_
    cases none_
  obtain hb | hb := hb <;> obtain hc | hc := hc
  · exact Option.some.inj (hc.symm.trans hb)
  · exact (apart hc hb).elim
  · exact (apart hb hc).elim
  · exact Option.some.inj (hc.symm.trans hb)

/-! ### The invariant -/

/-- Claims agree on both sides, every record stands in its row, every session but the late one is sound, and SETUP is
idle. Grants and wait queues hold a position once, so that a session that leaves its loop is not granted again. -/
structure State.Custody (late : Option PosId) (s : State) : Prop where
  comps : s.CompRows
  banks : s.BankRows
  posClaims : ∀ (b : BankId) (p : PosId), (s.bank b).claimant = some (.pos p) ↔ (s.pos p).ses.names b
  compClaims : ∀ (b : BankId) (k : CompId), (s.bank b).claimant = some (.comp k) ↔ (s.comp k).bank = some b
  sound : ∀ p, late ≠ some p → (s.pos p).Sound (s.waits p)
  unlisted : ∀ p, late = some p → s.waits p = false
  idle : s.station.phase = .setup → ∀ p, (s.pos p).ses.state = .idle
  quiet : s.station.phase = .setup → ∀ k, (s.comp k).active = false
  loops : ∀ l, ((s.loop l).grants ++ (s.loop l).queue).Nodup

namespace State.Custody
variable {late : Option PosId} {s t : State}

theorem soundAll (h : s.Custody none) (p : PosId) : (s.pos p).Sound (s.waits p) := h.sound p (by simp)

/-- A position that does not wait may be late. -/
theorem weaken (h : s.Custody none) (unlisted : ∀ p, late = some p → s.waits p = false) : s.Custody late :=
  { h with sound := fun p _ => h.soundAll p, unlisted := unlisted }

theorem ready_unclaimed (h : s.Custody late) {b : BankId} (ready : (s.bank b).state = .ready) :
    (s.bank b).claimant = none := (h.banks b).unclaimed (by rw [ready]; decide) (by rw [ready]; decide)

/-- A bank whose claimant is a party is held by it (02, R32). -/
theorem heldBy (h : s.Custody late) {b : BankId} {c : Claimant} (claimed : (s.bank b).claimant = some c) :
    s.heldBy c b = true := by
  obtain ⟨serving, refilling, _, _, _⟩ := h.banks b
  have held : (s.bank b).state = .serving ∨ (s.bank b).state = .refilling := by
    cases c with
    | pos p => exact .inl (serving.mp ⟨p, claimed⟩)
    | comp k => exact .inr (refilling.mp ⟨k, claimed⟩)
  simp [State.heldBy, claimed, held]

/-- A session that is not IDLE is in SERVICE. -/
theorem service (h : s.Custody late) {p : PosId} (busy : (s.pos p).ses.state ≠ .idle) :
    s.station.phase ≠ .setup := fun e => busy (h.idle e p)

/-- One position and one bank change, and agree with each other. -/
theorem step (h : s.Custody late) (p : PosId) (b : BankId) (comps : t.comps = s.comps) (loops : t.loops = s.loops)
    (phase : t.station = s.station) (bank : ∀ c, c ≠ b → t.bank c = s.bank c) (row : (t.bank b).RowHolds)
    (pos : ∀ q, q ≠ p → t.pos q = s.pos q) (waits : ∀ q, q ≠ p → t.waits q = true → s.waits q = true)
    (mine : ∀ c, (t.bank c).claimant = some (.pos p) ↔ (t.pos p).ses.names c)
    (theirs : ∀ c, c ≠ .pos p → ((t.bank b).claimant = some c ↔ (s.bank b).claimant = some c))
    (sound : late ≠ some p → (t.pos p).Sound (t.waits p)) (unlisted : late = some p → t.waits p = false)
    (idle : (t.pos p).ses.state = .idle ∨ s.station.phase ≠ .setup) : t.Custody late := by
  have comp : ∀ k, t.comp k = s.comp k := fun k => by unfold State.comp; rw [comps]
  have loop : ∀ l, t.loop l = s.loop l := fun l => by unfold State.loop; rw [loops]
  have claims : ∀ c x, x ≠ .pos p → ((t.bank c).claimant = some x ↔ (s.bank c).claimant = some x) := by
    intro c x hx
    by_cases e : c = b
    · rw [e]
      exact theirs x hx
    · rw [bank c e]
  exact
    { comps := fun k => by rw [comp]; exact h.comps k
      banks := fun c => by
        by_cases e : c = b
        · rw [e]
          exact row
        · rw [bank c e]
          exact h.banks c
      posClaims := fun c q => by
        by_cases e : q = p
        · rw [e]
          exact mine c
        · rw [claims c _ (by simpa using e), pos q e]
          exact h.posClaims c q
      compClaims := fun c k => by
        rw [claims c _ (by simp), comp]
        exact h.compClaims c k
      sound := fun q hq => by
        by_cases e : q = p
        · rw [e] at hq ⊢
          exact sound hq
        · rw [pos q e]
          exact (h.sound q hq).mono (waits q e)
      unlisted := fun q hq => by
        by_cases e : q = p
        · rw [e] at hq ⊢
          exact unlisted hq
        · exact Bool.eq_false_iff.mpr fun w => absurd (waits q e w) (by simp [h.unlisted q hq])
      idle := fun setup q => by
        rw [phase] at setup
        by_cases e : q = p
        · rw [e]
          exact idle.resolve_right (not_not.mpr setup)
        · rw [pos q e]
          exact h.idle setup q
      quiet := fun setup k => by
        rw [phase] at setup
        rw [comp]
        exact h.quiet setup k
      loops := fun l => by rw [loop]; exact h.loops l }

/-- One compressor and one bank change, and agree with each other. -/
theorem stepComp (h : s.Custody late) (k : CompId) (b : BankId) (positions : t.positions = s.positions)
    (waitList : t.waitList = s.waitList) (loops : t.loops = s.loops) (phase : t.station = s.station)
    (comp : ∀ j, j ≠ k → t.comp j = s.comp j) (rowComp : (t.comp k).RowHolds)
    (bank : ∀ c, c ≠ b → t.bank c = s.bank c) (row : (t.bank b).RowHolds)
    (mine : ∀ c, (t.bank c).claimant = some (.comp k) ↔ (t.comp k).bank = some c)
    (theirs : ∀ c, c ≠ .comp k → ((t.bank b).claimant = some c ↔ (s.bank b).claimant = some c))
    (quiet : (t.comp k).active = true → s.station.phase ≠ .setup) : t.Custody late := by
  have pos : ∀ q, t.pos q = s.pos q := fun q => by unfold State.pos; rw [positions]
  have waits : ∀ q, t.waits q = s.waits q := fun q => by unfold State.waits; rw [waitList]
  have loop : ∀ l, t.loop l = s.loop l := fun l => by unfold State.loop; rw [loops]
  have claims : ∀ c x, x ≠ .comp k → ((t.bank c).claimant = some x ↔ (s.bank c).claimant = some x) := by
    intro c x hx
    by_cases e : c = b
    · rw [e]
      exact theirs x hx
    · rw [bank c e]
  exact
    { comps := fun j => by
        by_cases e : j = k
        · rw [e]
          exact rowComp
        · rw [comp j e]
          exact h.comps j
      banks := fun c => by
        by_cases e : c = b
        · rw [e]
          exact row
        · rw [bank c e]
          exact h.banks c
      posClaims := fun c q => by
        rw [claims c _ (by simp), pos]
        exact h.posClaims c q
      compClaims := fun c j => by
        by_cases e : j = k
        · rw [e]
          exact mine c
        · rw [claims c _ (by simpa using e), comp j e]
          exact h.compClaims c j
      sound := fun q hq => by rw [pos, waits]; exact h.sound q hq
      unlisted := fun q hq => by rw [waits]; exact h.unlisted q hq
      idle := fun setup q => by
        rw [phase] at setup
        rw [pos]
        exact h.idle setup q
      quiet := fun setup j => by
        rw [phase] at setup
        by_cases e : j = k
        · rw [e]
          exact Bool.eq_false_iff.mpr fun active => quiet active setup
        · rw [comp j e]
          exact h.quiet setup j
      loops := fun l => by rw [loop]; exact h.loops l }

end State.Custody

/-! ### Changes that custody does not read -/

/-- What custody reads of a session stands from `x` to `y`; a route may be closed and the pulse timer stopped. -/
structure Position.Same (x y : Position) : Prop where
  state : y.ses.state = x.ses.state
  current : y.ses.current = x.ses.current
  staged : y.ses.staged = x.ses.staged
  supply : ∀ b, y.ses.supply = some b → x.ses.supply = some b
  pulse : y.tmr.pulse.isSome = true → x.tmr.pulse.isSome = true
  noBank : x.ses.causes.noBank = true → y.ses.causes.noBank = true

theorem Position.Same.refl (x : Position) : x.Same x := ⟨rfl, rfl, rfl, fun _ => id, id, id⟩

theorem Position.Same.trans {x y z : Position} (h : x.Same y) (g : y.Same z) : x.Same z :=
  ⟨g.state.trans h.state, g.current.trans h.current, g.staged.trans h.staged, fun b e => h.supply b (g.supply b e),
    fun e => h.pulse (g.pulse e), fun e => g.noBank (h.noBank e)⟩

theorem Position.Same.sound {x y : Position} (h : x.Same y) {waits : Bool} (s : x.Sound waits) : y.Sound waits where
  current := by rw [h.current, h.state]; exact s.current
  staged := by rw [h.staged, h.state, h.current]; exact s.staged
  pulse := by rw [h.state, h.current]; exact fun e => s.pulse (h.pulse e)
  listed := fun e => by
    rw [h.state, h.current]
    exact (s.listed e).imp_right fun ⟨held, none_⟩ => ⟨held, h.noBank none_⟩
  supply := fun b e => by rw [h.current]; exact s.supply b (h.supply b e)

theorem Position.Same.names {x y : Position} (h : x.Same y) (b : BankId) : y.ses.names b ↔ x.ses.names b := by
  unfold Session.names
  rw [h.current, h.staged]

/-- What custody reads stands from `s` to `t`, rows aside; positions may leave the wait list, and SETUP may be left. -/
structure State.Aside (s t : State) : Prop where
  bank : ∀ b, (t.bank b).claimant = (s.bank b).claimant
  comp : ∀ k, (t.comp k).bank = (s.comp k).bank
  active : ∀ k, (t.comp k).active = (s.comp k).active
  pos : ∀ p, (s.pos p).Same (t.pos p)
  waits : ∀ p, t.waits p = true → s.waits p = true
  loop : ∀ l, (t.loop l).grants = (s.loop l).grants ∧ (t.loop l).queue = (s.loop l).queue
  phase : t.station.phase = .setup → s.station.phase = .setup

namespace State.Aside

theorem refl (s : State) : s.Aside s :=
  ⟨fun _ => rfl, fun _ => rfl, fun _ => rfl, fun _ => .refl _, fun _ => id, fun _ => ⟨rfl, rfl⟩, id⟩

theorem trans {a b c : State} (h : a.Aside b) (g : b.Aside c) : a.Aside c :=
  ⟨fun x => (g.bank x).trans (h.bank x), fun x => (g.comp x).trans (h.comp x),
    fun x => (g.active x).trans (h.active x), fun x => (h.pos x).trans (g.pos x), fun x e => h.waits x (g.waits x e),
    fun x => ⟨(g.loop x).1.trans (h.loop x).1, (g.loop x).2.trans (h.loop x).2⟩, fun e => h.phase (g.phase e)⟩

theorem custody_of {s t : State} {late : Option PosId} (a : s.Aside t) (comps : s.CompRows → t.CompRows)
    (banks : s.BankRows → t.BankRows) (h : s.Custody late) : t.Custody late where
  comps := comps h.comps
  banks := banks h.banks
  posClaims := fun b p => by rw [a.bank, (a.pos p).names]; exact h.posClaims b p
  compClaims := fun b k => by rw [a.bank, a.comp]; exact h.compClaims b k
  sound := fun p hp => (a.pos p).sound ((h.sound p hp).mono (a.waits p))
  unlisted := fun p hp => Bool.eq_false_iff.mpr fun e => absurd (a.waits p e) (by simp [h.unlisted p hp])
  idle := fun setup p => (a.pos p).state.trans (h.idle (a.phase setup) p)
  quiet := fun setup k => (a.active k).trans (h.quiet (a.phase setup) k)
  loops := fun l => by rw [(a.loop l).1, (a.loop l).2]; exact h.loops l

theorem custody {s t : State} {late : Option PosId} (a : s.Aside t) (r : s.RowsKept t) (h : s.Custody late) :
    t.Custody late := a.custody_of r.comps r.banks h

/-- The lists, the holds and the model's own fields are no part of custody; entries may leave the wait list. -/
theorem of_eq {s t : State} (hb : t.banks = s.banks) (hk : t.comps = s.comps) (hl : t.loops = s.loops)
    (hp : t.positions = s.positions) (hw : ∀ p, t.waits p = true → s.waits p = true)
    (hs : t.station.phase = s.station.phase) : s.Aside t where
  bank := fun b => by unfold State.bank; rw [hb]
  comp := fun k => by unfold State.comp; rw [hk]
  active := fun k => by unfold State.comp; rw [hk]
  pos := fun p => by unfold State.pos; rw [hp]; exact .refl _
  waits := hw
  loop := fun l => by unfold State.loop; rw [hl]; exact ⟨rfl, rfl⟩
  phase := by rw [hs]; exact id

end State.Aside

theorem Work.aside_modPos (w : Work) (p : PosId) {f : Position → Position} (h : (w.pos p).Same (f (w.pos p))) :
    w.Aside (w.modPos p f).toState :=
  { State.Aside.refl w.toState with
    pos := fun q => by
      rw [Work.modPos_pos]
      split
      · next e => rw [e]; exact h
      · exact .refl _ }

theorem Work.aside_modBank (w : Work) (b : BankId) {f : Bank → Bank}
    (h : (f (w.bank b)).claimant = (w.bank b).claimant) : w.Aside (w.modBank b f).toState :=
  { State.Aside.refl w.toState with
    bank := fun c => by
      rw [Work.modBank_bank]
      split
      · next e => rw [e]; exact h
      · rfl }

theorem Work.aside_modComp (w : Work) (k : CompId) {f : Compressor → Compressor}
    (hb : (f (w.comp k)).bank = (w.comp k).bank) (ha : (f (w.comp k)).active = (w.comp k).active) :
    w.Aside (w.modComp k f).toState :=
  { State.Aside.refl w.toState with
    comp := fun c => by
      rw [Work.modComp_comp]
      split
      · next e => rw [e]; exact hb
      · rfl
    active := fun c => by
      rw [Work.modComp_comp]
      split
      · next e => rw [e]; exact ha
      · rfl }

theorem Work.aside_modLoop (w : Work) (l : LoopId) {f : Loop → Loop} (hg : (f (w.loop l)).grants = (w.loop l).grants)
    (hq : (f (w.loop l)).queue = (w.loop l).queue) : w.Aside (w.modLoop l f).toState :=
  { State.Aside.refl w.toState with
    loop := fun c => by
      rw [Work.modLoop_loop]
      split
      · next e => rw [e]; exact ⟨hg, hq⟩
      · exact ⟨rfl, rfl⟩ }

/-- Writing what custody does not read of one position. -/
theorem State.Custody.modPos {w : Work} {late : Option PosId} (h : w.Custody late) {p : PosId} {f : Position → Position}
    (same : (w.pos p).Same (f (w.pos p))) : (w.modPos p f).Custody late :=
  (w.aside_modPos p same).custody (w.rows_modPos p f) h

/-- A late session that is sound again is on time. -/
theorem State.Custody.onTime {s : State} {p : PosId} (h : s.Custody (some p)) (sound : (s.pos p).Sound false) :
    s.Custody none :=
  { h with
    sound := fun q _ => by
      by_cases e : q = p
      · rw [e, h.unlisted p rfl]
        exact sound
      · exact h.sound q fun x => e (Option.some.inj x).symm
    unlisted := fun q e => (by cases e) }

/-- A late session becomes sound. -/
theorem State.Custody.settle {w : Work} {p : PosId} {f : Position → Position} (h : w.Custody (some p))
    (names : ∀ b, (f (w.pos p)).ses.names b ↔ (w.pos p).ses.names b) (sound : (f (w.pos p)).Sound false)
    (busy : (w.pos p).ses.state ≠ .idle) : (w.modPos p f).Custody none := by
  have unlisted := h.unlisted p rfl
  have late : (w.modPos p f).Custody (some p) := by
    refine h.step p 0 rfl rfl rfl (fun _ _ => rfl) (h.banks 0) (fun q e => Work.modPos_pos_ne w f e) (fun _ _ => id) ?_
      (fun _ _ => .rfl) (fun e => absurd rfl e) (fun _ => unlisted) (.inr (h.service busy))
    intro c
    rw [Work.modPos_pos_self, names]
    exact h.posClaims c p
  exact late.onTime (by rw [Work.modPos_pos_self]; exact sound)

/-- A session with no bank before and after, off the wait list. -/
theorem State.Custody.modBare {w : Work} {late : Option PosId} (h : w.Custody late) {p : PosId}
    {f : Position → Position} (bare : (w.pos p).Bare) (after : (f (w.pos p)).Bare) (unlisted : w.waits p = false)
    (idle : (f (w.pos p)).ses.state = .idle ∨ w.station.phase ≠ .setup) : (w.modPos p f).Custody late := by
  refine h.step p 0 rfl rfl rfl (fun _ _ => rfl) (h.banks 0) (fun q e => Work.modPos_pos_ne w f e) (fun _ _ => id) ?_
    (fun _ _ => .rfl) (fun _ => ?_) (fun _ => unlisted) ?_
  · intro c
    rw [Work.modPos_pos_self]
    exact iff_of_false (fun e => bare.names c ((h.posClaims c p).mp e)) (after.names c)
  · rw [Work.modPos_pos_self]
    exact after.sound fun e => by
      rw [show (w.modPos p f).waits p = w.waits p from rfl, unlisted] at e
      cases e
  · rw [Work.modPos_pos_self]
    exact idle

end Sys2Proof.Machine
end

section
/-! SUPPORT. Custody through an offer, a release and a give-back (02, R32, R37; 03, R45), and the session that such a
hand-over passes by. -/
namespace Sys2Proof.Machine

/-! ### The wait list -/

theorem State.waits_of_mem {s : State} {e : WaitEntry} (h : e ∈ s.waitList) : s.waits e.pos = true :=
  List.any_eq_true.mpr ⟨e, h, by simp⟩

theorem Work.leaveWaitList_waits (w : Work) (p q : PosId) :
    (w.leaveWaitList p).waits q = true ↔ w.waits q = true ∧ q ≠ p := by
  unfold Work.leaveWaitList State.waits
  simp only [List.any_eq_true, List.mem_filter, beq_iff_eq, bne_iff_ne]
  constructor
  · rintro ⟨e, ⟨he, out⟩, rfl⟩
    exact ⟨⟨e, he, rfl⟩, out⟩
  · rintro ⟨⟨e, he, rfl⟩, out⟩
    exact ⟨e, ⟨he, out⟩, rfl⟩

theorem Work.leaveWaitList_waits_self (w : Work) (p : PosId) : (w.leaveWaitList p).waits p = false :=
  Bool.eq_false_iff.mpr fun e => ((w.leaveWaitList_waits p p).mp e).2 rfl

theorem Work.aside_leaveWaitList (w : Work) (p : PosId) : w.Aside (w.leaveWaitList p).toState :=
  .of_eq rfl rfl rfl rfl (fun q e => ((w.leaveWaitList_waits p q).mp e).1) rfl

theorem State.Custody.leaveWaitList {w : Work} {late : Option PosId} (h : w.Custody late) (p : PosId) :
    (w.leaveWaitList p).Custody late := (w.aside_leaveWaitList p).custody (.of_eq rfl rfl rfl rfl) h

/-! ### A session passed by -/

/-- A session off the wait list stands from `w` to `t`, and stays off the list. -/
def Work.PassesBy (p : PosId) (w t : Work) : Prop := w.waits p = false → t.pos p = w.pos p ∧ t.waits p = false

theorem Work.PassesBy.refl (p : PosId) (w : Work) : Work.PassesBy p w w := fun h => ⟨rfl, h⟩

theorem Work.PassesBy.trans {p : PosId} {a b c : Work} (h : Work.PassesBy p a b) (g : Work.PassesBy p b c) :
    Work.PassesBy p a c := fun out =>
  have ⟨pos, out'⟩ := h out
  have ⟨pos', out''⟩ := g out'
  ⟨pos'.trans pos, out''⟩

theorem Work.PassesBy.of_eq {p : PosId} {w t : Work} (hp : t.pos p = w.pos p) (hw : t.waitList = w.waitList) :
    Work.PassesBy p w t := fun out => ⟨hp, by unfold State.waits; rw [hw]; exact out⟩

theorem Work.freeBank_lists (w : Work) (b : BankId) : (w.freeBank b).positions = w.positions ∧
    (w.freeBank b).waitList = w.waitList ∧ (w.freeBank b).station = w.station := by
  have joined : ∀ v : Work, (v.joinQueue b).station = v.station := fun v => by unfold Work.joinQueue; split <;> rfl
  unfold Work.freeBank Work.makeReady
  dsimp only
  split <;> split <;> simp [Work.oweEval, joined]

theorem Work.passesBy_freeBank (p : PosId) (w : Work) (b : BankId) : Work.PassesBy p w (w.freeBank b) := by
  obtain ⟨positions, list, _⟩ := w.freeBank_lists b
  exact .of_eq (by unfold State.pos; rw [positions]) list

theorem Work.takeOffer_lists (w : Work) (q : PosId) (b : BankId) : (w.takeOffer q b).2.waitList = w.waitList ∧
    (∀ p, p ≠ q → (w.takeOffer q b).2.pos p = w.pos p) ∧ (w.takeOffer q b).2.station = w.station := by
  unfold Work.takeOffer
  dsimp only
  split
  · exact ⟨rfl, fun p e => Work.modPos_pos_ne w _ e, rfl⟩
  · split
    · exact ⟨rfl, fun p e => Work.modPos_pos_ne w _ e, rfl⟩
    · split
      · exact ⟨rfl, fun p e => Work.modPos_pos_ne w _ e, rfl⟩
      · exact ⟨rfl, fun _ _ => rfl, rfl⟩

/-- The round of an offer that another position takes or hands back. -/
theorem Work.passesBy_taken {p q : PosId} (w : Work) (b : BankId) (other : p ≠ q) :
    Work.PassesBy p w (((w.leaveWaitList q).claimBank (.pos q) b).takeOffer q b).2 := fun out => by
  obtain ⟨list, pos, _⟩ := ((w.leaveWaitList q).claimBank (.pos q) b).takeOffer_lists q b
  refine ⟨pos p other, ?_⟩
  unfold State.waits
  rw [list]
  exact Bool.eq_false_iff.mpr fun e => by
    have waits := ((w.leaveWaitList_waits q p).mp e).1
    rw [out] at waits
    cases waits

theorem Work.passesBy_offer (p : PosId) (n : Nat) (b : BankId) (w : Work) : Work.PassesBy p w (Work.offer n b w) := by
  induction n generalizing w with
  | zero => exact .refl p w
  | succ n ih =>
    unfold Work.offer
    split
    · exact .refl p w
    · next e found =>
      intro out
      have other : p ≠ e.pos := by
        rintro rfl
        rw [State.waits_of_mem (List.mem_of_find?_eq_some found)] at out
        cases out
      revert out
      dsimp only
      split
      · exact w.passesBy_taken b other
      · exact ((w.passesBy_taken b other).trans (Work.passesBy_freeBank p _ b)).trans (ih _)

theorem Work.passesBy_offerBank (p : PosId) (w : Work) (b : BankId) : Work.PassesBy p w (w.offerBank b) := by
  unfold Work.offerBank
  split
  · exact Work.passesBy_offer p _ b w
  · exact .refl p w

theorem Work.passesBy_releaseBank (p : PosId) (w : Work) (c : Claimant) (b : BankId) :
    Work.PassesBy p w (w.releaseBank c b) := by
  unfold Work.releaseBank
  split
  · exact (Work.passesBy_freeBank p w b).trans (Work.passesBy_offerBank p _ b)
  · exact .refl p w

/-! ### A bank that is freed, claimed or offered -/

/-- A position that names no bank claims a READY bank and names it. -/
theorem State.Custody.take {w t : Work} {late : Option PosId} (h : w.Custody late) {p : PosId} {b : BankId}
    (ready : (w.bank b).state = .ready) (bare : (w.pos p).Bare) (bank : t.banks = (w.claimBank (.pos p) b).banks)
    (comps : t.comps = w.comps) (loops : t.loops = w.loops) (station : t.station = w.station)
    (pos : ∀ q, q ≠ p → t.pos q = w.pos q) (waits : ∀ q, q ≠ p → t.waits q = true → w.waits q = true)
    (names : ∀ c, (t.pos p).ses.names c ↔ c = b) (sound : (t.pos p).Sound (t.waits p))
    (unlisted : late = some p → t.waits p = false) (busy : (w.pos p).ses.state ≠ .idle) : t.Custody late := by
  have banks : ∀ c, t.bank c = (w.claimBank (.pos p) b).bank c := fun c => by unfold State.bank; rw [bank]
  have others : ∀ c, c ≠ b → t.bank c = w.bank c := fun c e => by
    rw [banks]
    exact Work.modBank_bank_ne w _ e
  have claimed : t.bank b = (w.bank b).claim (.pos p) := by rw [banks, Work.claimBank_bank]
  have claimant : (t.bank b).claimant = some (.pos p) := by
    rw [claimed]
    unfold Bank.claim
    rw [if_pos ready]
  refine h.step p b comps loops station others (by rw [claimed]; exact (h.banks b).claim _) pos waits (fun c => ?_)
    (fun c e => ?_) (fun _ => sound) unlisted (.inr (h.service busy))
  · rw [names]
    by_cases e : c = b
    · rw [e, claimant]
      simp
    · rw [others c e]
      exact iff_of_false (fun x => bare.names c ((h.posClaims c p).mp x)) e
  · rw [claimant, h.ready_unclaimed ready]
    simp [e.symm]

/-- The claim of a position is undone, or the position's bank given up: the bank is freed, and the position names
none. -/
theorem State.Custody.freed {w : Work} {v : Work} {late : Option PosId} (h : w.Custody late) {p : PosId} {b : BankId}
    (iso : (v.bank b).isolation = none) (mineOnly : ∀ c, c ≠ .pos p → (w.bank b).claimant ≠ some c)
    (others : ∀ c, c ≠ b → v.bank c = w.bank c) (notOthers : ∀ c, c ≠ b → (w.bank c).claimant ≠ some (.pos p))
    (comps : v.comps = w.comps) (loops : v.loops = w.loops) (station : v.station = w.station)
    (pos : ∀ q, q ≠ p → v.pos q = w.pos q) (waits : ∀ q, v.waits q = true → w.waits q = true)
    (names : ∀ c, ¬ (v.pos p).ses.names c) (sound : late ≠ some p → (v.pos p).Sound (v.waits p))
    (idle : (v.pos p).ses.state = .idle ∨ w.station.phase ≠ .setup) : (v.freeBank b).Custody late := by
  have hands := v.hands_freeBank b
  obtain ⟨positions, list, stationV⟩ := v.freeBank_lists b
  have posV : ∀ q, (v.freeBank b).pos q = v.pos q := fun q => by unfold State.pos; rw [positions]
  have waitsV : ∀ q, (v.freeBank b).waits q = v.waits q := fun q => by unfold State.waits; rw [list]
  have claimant : ((v.freeBank b).bank b).claimant = none := by rw [Work.freeBank_bank]; rfl
  have bank : ∀ c, c ≠ b → (v.freeBank b).bank c = w.bank c := fun c e => (hands.others c e).trans (others c e)
  refine h.step p b (hands.comps.trans comps) (hands.loops.trans loops) (stationV.trans station) bank
    (Work.freeBank_row iso) (fun q e => (posV q).trans (pos q e)) (fun q _ => by rw [waitsV]; exact waits q)
    (fun c => ?_) (fun c e => ?_) (fun e => by rw [posV, waitsV]; exact sound e) (fun e => ?_)
    (by rw [posV]; exact idle)
  · rw [posV]
    refine iff_of_false ?_ (names c)
    by_cases e : c = b
    · rw [e, claimant]
      simp
    · rw [bank c e]
      exact notOthers c e
  · rw [claimant]
    exact iff_of_false (by simp) (mineOnly c e)
  · rw [waitsV]
    exact Bool.eq_false_iff.mpr fun x => absurd (waits p x) (by simp [h.unlisted p e])

/-- The position at the front takes the bank it is offered, or it is freed again (02, R37; 05, R95, R98). -/
theorem State.Custody.taken {w : Work} {late : Option PosId} (h : w.Custody late) {q : PosId} {b : BankId}
    (ready : (w.bank b).state = .ready) (waits : w.waits q = true) :
    let r := ((w.leaveWaitList q).claimBank (.pos q) b).takeOffer q b
    (r.1 = true → r.2.Custody late) ∧ (r.1 = false → (r.2.freeBank b).Custody late) := by
  have onTime : late ≠ some q := fun e => by
    have out := h.unlisted q e
    rw [waits] at out
    cases out
  have sound := h.sound q onTime
  rw [waits] at sound
  have bare := sound.bare_of_waits
  have busy : (w.pos q).ses.state ≠ .idle := by
    obtain ⟨e, _⟩ | ⟨e, _⟩ := sound.listed rfl <;> rw [e] <;> decide
  have unclaimed := h.ready_unclaimed ready
  have left : ((w.leaveWaitList q).claimBank (.pos q) b).waits q = false := w.leaveWaitList_waits_self q
  have fewer : ∀ p, ((w.leaveWaitList q).claimBank (.pos q) b).waits p = true → w.waits p = true := fun p e =>
    ((w.leaveWaitList_waits q p).mp e).1
  have iso : (((w.leaveWaitList q).claimBank (.pos q) b).bank b).isolation = none := by
    rw [Work.claimBank_bank]
    exact ((h.banks b).claim _).unisolated (Bank.inService_not_isolated (Bank.claim_inService _ _ (by
      show (w.bank b).inService = true
      unfold Bank.inService
      rw [ready]
      rfl)))
  have freed : ∀ v : Work, v.banks = ((w.leaveWaitList q).claimBank (.pos q) b).banks → v.comps = w.comps →
      v.loops = w.loops → v.station = w.station → (∀ p, p ≠ q → v.pos p = w.pos p) →
      v.waitList = (w.leaveWaitList q).waitList → (v.pos q).Bare →
      (v.freeBank b).Custody late := by
    intro v banks comps loops station pos list bareV
    have bank : ∀ c, v.bank c = ((w.leaveWaitList q).claimBank (.pos q) b).bank c := fun c => by
      unfold State.bank; rw [banks]
    have waitsV : ∀ p, v.waits p = (w.leaveWaitList q).waits p := fun p => by unfold State.waits; rw [list]
    refine h.freed (by rw [bank]; exact iso) (fun c _ => by rw [unclaimed]; simp)
      (fun c e => (bank c).trans (Work.modBank_bank_ne _ _ e))
      (fun c _ e => bare.names c ((h.posClaims c q).mp e)) comps loops station pos
      (fun p => by rw [waitsV]; exact fewer p) bareV.names (fun _ => bareV.sound fun e => ?_) (.inr (h.service busy))
    rw [waitsV, w.leaveWaitList_waits_self] at e
    cases e
  have taken : ∀ f : Position → Position, (∀ c, (f (w.pos q)).ses.names c ↔ c = b) → (f (w.pos q)).Sound false →
      (((w.leaveWaitList q).claimBank (.pos q) b).modPos q f).Custody late := by
    intro f names soundF
    refine h.take ready bare rfl rfl rfl rfl (fun p e => Work.modPos_pos_ne _ _ e) (fun p _ => fewer p) ?_ ?_
      (fun _ => left) busy
    · rw [Work.modPos_pos_self]
      exact names
    · rw [Work.modPos_pos_self]
      exact left ▸ soundF
  dsimp only
  unfold Work.takeOffer
  dsimp only
  split
  · next pulsing =>
    refine ⟨fun _ => taken _ (fun c => ?_) ?_, fun e => (by cases e)⟩
    · simp [Session.names, Position.startPulse, bare.staged, eq_comm]
    · exact ⟨fun _ => .inl pulsing.1, by simp [Position.startPulse, bare.staged], fun _ => ⟨pulsing.1, rfl⟩,
        fun e => (by cases e), fun _ => id⟩
  · split
    · refine ⟨fun _ => taken _ (fun c => ?_) ?_, fun e => (by cases e)⟩
      · simp [Session.names, Position.resumeWith, bare.current, eq_comm]
      · exact ⟨fun _ => .inr rfl, fun _ => ⟨rfl, bare.current⟩, by simp [Position.resumeWith, bare.pulse],
          fun e => (by cases e), by simp [Position.resumeWith, bare.supply]⟩
    · split
      · refine ⟨fun e => (by cases e), fun _ => freed _ rfl rfl rfl rfl (fun p e => Work.modPos_pos_ne _ _ e) rfl ?_⟩
        rw [Work.modPos_pos_self]
        exact ⟨bare.current, bare.staged, bare.supply, bare.pulse⟩
      · exact ⟨fun e => (by cases e), fun _ => freed _ rfl rfl rfl rfl (fun _ _ => rfl) rfl bare⟩

theorem State.Custody.offer {late : Option PosId} {n : Nat} {b : BankId} {w : Work} (h : w.Custody late)
    (ready : (w.bank b).state = .ready) : (Work.offer n b w).Custody late := by
  induction n generalizing w with
  | zero => exact h
  | succ n ih =>
    unfold Work.offer
    split
    · exact h
    · next e found =>
      obtain ⟨taken, handedBack⟩ := h.taken ready (State.waits_of_mem (List.mem_of_find?_eq_some found))
      dsimp only
      split
      · next t => exact taken t
      · next f => exact ih (handedBack (Bool.eq_false_iff.mpr f)) (Work.freeBank_ready _ b)

theorem State.Custody.offerBank {late : Option PosId} {w : Work} (h : w.Custody late) (b : BankId) :
    (w.offerBank b).Custody late := by
  unfold Work.offerBank
  split
  · next ready => exact h.offer ready
  · exact h

/-- A position that gives up the one bank it names, and is late from then on, releases it (02, R32). -/
theorem State.Custody.release {w : Work} (h : w.Custody none) {p : PosId} {b : BankId} {f : Position → Position}
    (named : (w.pos p).ses.names b) (dropped : ∀ c, ¬ (f (w.pos p)).ses.names c) (unlisted : w.waits p = false) :
    ((w.modPos p f).releaseBank (.pos p) b).Custody (some p) := by
  have claimed := (h.posClaims b p).mpr named
  have held : (w.modPos p f).heldBy (.pos p) b = true := h.heldBy claimed
  have busy : (w.pos p).ses.state ≠ .idle := by
    obtain e | e := named
    · obtain e | e := (h.soundAll p).current (by rw [e]; rfl) <;> rw [e] <;> decide
    · rw [((h.soundAll p).staged (by rw [e]; rfl)).1]
      decide
  unfold Work.releaseBank
  rw [if_pos held]
  have late : w.Custody (some p) := h.weaken fun q e => Option.some.inj e ▸ unlisted
  refine State.Custody.offerBank (late.freed (State.heldBy_unisolated held h.banks) (fun c e x => ?_) (fun _ _ => rfl)
    (fun c e x => ?_) rfl rfl rfl (fun q e => Work.modPos_pos_ne w f e) (fun _ => id) ?_ (fun e => absurd rfl e)
    (.inr (h.service busy))) b
  · rw [claimed] at x
    exact e (Option.some.inj x).symm
  · exact e ((h.soundAll p).names_unique named ((h.posClaims c p).mp x))
  · rw [Work.modPos_pos_self]
    exact dropped

end Sys2Proof.Machine
end

section
/-! SUPPORT. Custody through the sequencer: selection and grants, the end of a fill, HELD, fallback and steps (04 to
07). -/
namespace Sys2Proof.Machine

/-! ### Selection in PULSING and grants -/

theorem Work.modPos_modPos (w : Work) (p : PosId) (f g : Position → Position) :
    (w.modPos p f).modPos p g = w.modPos p (fun x => g (f x)) := by
  unfold Work.modPos State.pos
  dsimp only
  rw [get_set_eq, if_pos rfl, Vector.set_set]

/-- A session with no bank claims a READY one and names it. -/
theorem State.Custody.claimed {w : Work} {late : Option PosId} (h : w.Custody late) {p : PosId} {b : BankId}
    {f : Position → Position} (onTime : late ≠ some p) (ready : (w.bank b).state = .ready) (bare : (w.pos p).Bare)
    (names : ∀ c, (f (w.pos p)).ses.names c ↔ c = b) (sound : (f (w.pos p)).Sound (w.waits p))
    (busy : (w.pos p).ses.state ≠ .idle) : ((w.claimBank (.pos p) b).modPos p f).Custody late := by
  have same : (w.claimBank (.pos p) b).pos p = w.pos p := rfl
  refine h.take ready bare rfl rfl rfl rfl (fun q e => Work.modPos_pos_ne _ _ e) (fun _ _ => id) ?_ ?_
    (fun e => absurd e onTime) busy
  · rw [Work.modPos_pos_self]
    exact names
  · rw [Work.modPos_pos_self]
    exact sound

/-- A session with no bank joins the wait list, in PULSING or in HELD with NO_BANK. -/
theorem State.Custody.joined {w : Work} {late : Option PosId} (h : w.Custody late) {p : PosId} {ts : List Tier}
    {f : Position → Position} (onTime : late ≠ some p) (bare : (w.pos p).Bare) (after : (f (w.pos p)).Bare)
    (state : (f (w.pos p)).ses.state = .pulsing ∨
      ((f (w.pos p)).ses.state = .held ∧ (f (w.pos p)).ses.causes.noBank = true))
    (busy : (w.pos p).ses.state ≠ .idle) : ((w.joinWaitList p ts).modPos p f).Custody late := by
  obtain ⟨loops, _, _, pos⟩ := w.joinWaitList_frame p ts
  have station : (w.joinWaitList p ts).station = w.station := by unfold Work.joinWaitList; split <;> rfl
  have banks : (w.joinWaitList p ts).banks = w.banks := by unfold Work.joinWaitList; split <;> rfl
  have comps : (w.joinWaitList p ts).comps = w.comps := by unfold Work.joinWaitList; split <;> rfl
  have bank : ∀ c, (w.joinWaitList p ts).bank c = w.bank c := fun c => by unfold State.bank; rw [banks]
  refine h.step p 0 comps loops station (fun c _ => bank c) ?_ (fun q e => ?_) (fun q e => ?_) (fun c => ?_)
    (fun c _ => ?_) (fun _ => ?_) (fun e => absurd e onTime) (.inr (h.service busy))
  · exact (bank 0).symm ▸ h.banks 0
  · rw [Work.modPos_pos_ne _ _ e, pos]
  · exact fun x => (w.joinWaitList_waits_ne _ e).symm.trans x
  · rw [Work.modPos_pos_self, Work.modPos_bank, bank, pos]
    exact iff_of_false (fun e => bare.names c ((h.posClaims c p).mp e)) (after.names c)
  · rw [Work.modPos_bank, bank]
  · rw [Work.modPos_pos_self, pos]
    exact after.sound fun _ => state

/-- Selection of a PULSING session with no bank (05, R94). -/
theorem State.Custody.pulsingSelect {w : Work} {late : Option PosId} (h : w.Custody late) {p : PosId}
    (onTime : late ≠ some p) (pulsing : (w.pos p).ses.state = .pulsing) (bare : (w.pos p).Bare)
    (unlisted : w.waits p = false) : (w.pulsingSelect p).Custody late := by
  have busy : (w.pos p).ses.state ≠ .idle := by rw [pulsing]; decide
  cases found : w.select (w.needOf p) (w.pos p).cfg.cls.tiers with
  | some b =>
    rw [Work.pulsingSelect_found found]
    refine h.claimed onTime (State.select_ready found) bare (fun c => ?_) ?_ busy
    · simp [Session.names, Position.startPulse, bare.staged, eq_comm]
    · rw [unlisted]
      exact ⟨fun _ => .inl pulsing, by simp [Position.startPulse, bare.staged], fun _ => ⟨pulsing, rfl⟩,
        fun e => (by cases e), fun _ => id⟩
  | none =>
    rw [Work.pulsingSelect_none found]
    exact h.joined onTime bare ⟨bare.current, bare.staged, bare.supply, bare.pulse⟩ (.inl pulsing) busy

theorem Work.passesBy_grantGiven {p q : PosId} (w : Work) (other : p ≠ q) : Work.PassesBy p w (w.grantGiven q) := by
  have told : Work.PassesBy p w (w.modPos q (fun x => { x with ses.band := .cold })) :=
    .of_eq (Work.modPos_pos_ne w _ other) rfl
  unfold Work.grantGiven
  dsimp only
  split
  · refine told.trans (fun out => ?_)
    obtain ⟨pos, waits⟩ := (Work.pulsingSelect_selected ((w.modPos q (fun x => { x with ses.band := .cold })).modPos q
      (fun x => { x with ses.state := .pulsing, tmr.cooling := none })) q).others p other
    exact ⟨by rw [pos, Work.modPos_pos_ne _ _ other], waits.trans out⟩
  · exact told

theorem Work.grantGiven_loops (w : Work) (p : PosId) : (w.grantGiven p).loops = w.loops := by
  unfold Work.grantGiven
  dsimp only
  split
  · rw [(Work.pulsingSelect_selected _ p).loops]
    rfl
  · rfl

/-- A position told of its grant goes on to PULSING, if it was COOLING (04, R80). -/
theorem State.Custody.grantGiven {w : Work} {late : Option PosId} (h : w.Custody late) {p : PosId}
    (onTime : late ≠ some p) : (w.grantGiven p).Custody late := by
  have told : (w.modPos p (fun x => { x with ses.band := .cold })).Custody late :=
    h.modPos ⟨rfl, rfl, rfl, fun _ => id, id, id⟩
  unfold Work.grantGiven
  dsimp only
  split
  · next cooling =>
    have sound := h.sound p onTime
    have busy : (w.pos p).ses.state ≠ .idle := by rw [cooling]; decide
    have bare := sound.bare (by rw [cooling]; decide) (by rw [cooling]; decide)
    have unlisted := sound.not_waits (by rw [cooling]; decide) (by rw [cooling]; decide)
    refine (told.modBare ?_ ?_ unlisted ?_).pulsingSelect onTime ?_ ?_ unlisted
    · rw [Work.modPos_pos_self]
      exact ⟨bare.current, bare.staged, bare.supply, bare.pulse⟩
    · rw [Work.modPos_pos_self]
      exact ⟨bare.current, bare.staged, bare.supply, bare.pulse⟩
    · exact .inr (h.service busy)
    · rw [Work.modPos_pos_self]
    · rw [Work.modPos_pos_self, Work.modPos_pos_self]
      exact ⟨bare.current, bare.staged, bare.supply, bare.pulse⟩
  · exact told

/-- Grants and wait queue of a loop change, and hold a position once. -/
theorem State.Custody.modLoop {w : Work} {late : Option PosId} (h : w.Custody late) {l : LoopId} {f : Loop → Loop}
    (once : ((f (w.loop l)).grants ++ (f (w.loop l)).queue).Nodup) : (w.modLoop l f).Custody late :=
  { h with
    loops := fun m => by
      rw [Work.modLoop_loop]
      split
      · exact once
      · exact h.loops m }

/-- Serving a wait queue tells no late position (04, R78). -/
theorem State.Custody.serveQueueN {late : Option PosId} {n : Nat} {l : LoopId} {w : Work} (h : w.Custody late)
    (onTime : ∀ p ∈ (w.loop l).queue, late ≠ some p) : (Work.serveQueueN n l w).Custody late := by
  induction n generalizing w with
  | zero => exact h
  | succ n ih =>
    unfold Work.serveQueueN
    split
    · exact h
    · next p rest queue =>
      split
      · rw [queue] at onTime
        have once := h.loops l
        rw [queue] at once
        have moved : (w.modLoop l (fun x => { x with grants := x.grants ++ [p], queue := rest })).Custody late :=
          h.modLoop (by simpa using once)
        refine ih (moved.grantGiven (onTime p List.mem_cons_self)) fun q hq => onTime q (List.mem_cons_of_mem p ?_)
        unfold State.loop at hq
        rw [Work.grantGiven_loops] at hq
        rw [show (w.modLoop l (fun x => { x with grants := x.grants ++ [p], queue := rest })).loops.get l =
          { w.loop l with grants := (w.loop l).grants ++ [p], queue := rest } from Work.modLoop_loop_self w l _] at hq
        exact hq
      · exact h

theorem Work.passesBy_serveQueueN {p : PosId} {n : Nat} {l : LoopId} {w : Work} (out : p ∉ (w.loop l).queue) :
    Work.PassesBy p w (Work.serveQueueN n l w) := by
  induction n generalizing w with
  | zero => exact .refl p w
  | succ n ih =>
    unfold Work.serveQueueN
    split
    · exact .refl p w
    · next q rest queue =>
      split
      · rw [queue] at out
        obtain ⟨other, notRest⟩ := not_or.mp (List.mem_cons.not.mp out)
        have moved : Work.PassesBy p w (w.modLoop l (fun x => { x with grants := x.grants ++ [q], queue := rest })) :=
          .of_eq rfl rfl
        refine (moved.trans (Work.passesBy_grantGiven _ other)).trans (ih ?_)
        unfold State.loop
        rw [Work.grantGiven_loops]
        rw [show (w.modLoop l (fun x => { x with grants := x.grants ++ [q], queue := rest })).loops.get l =
          { w.loop l with grants := (w.loop l).grants ++ [q], queue := rest } from Work.modLoop_loop_self w l _]
        exact notRest
      · exact .refl p w

theorem State.Custody.serveQueue {w : Work} (h : w.Custody none) (l : LoopId) : (w.serveQueue l).Custody none :=
  h.serveQueueN fun _ _ => by simp

/-- A grant request of a position with no place at the loop (04, R79). -/
theorem State.Custody.requestGrant {w : Work} (h : w.Custody none) (p : PosId) (l : LoopId) :
    (w.requestGrant p l).Custody none := by
  unfold Work.requestGrant
  split
  · exact h
  · next absent =>
    refine State.Custody.serveQueue (h.modLoop ?_) l
    have once := h.loops l
    simp only [Bool.or_eq_true, List.contains_iff_mem, not_or] at absent
    show ((w.loop l).grants ++ ((w.loop l).queue ++ [p])).Nodup
    rw [← List.append_assoc]
    refine List.nodup_append.mpr ⟨once, List.nodup_singleton p, fun x hx y hy e => ?_⟩
    rw [List.mem_singleton.mp hy] at e
    rw [e] at hx
    exact (List.mem_append.mp hx).elim absent.1 absent.2

/-- A late position leaves its loop and is not granted again (04, R81, R82). -/
theorem State.Custody.leaveLoop {w : Work} {p : PosId} (h : w.Custody (some p)) :
    (w.leaveLoop p).Custody (some p) ∧ Work.PassesBy p w (w.leaveLoop p) := by
  have served : ∀ (l : LoopId) (f : Loop → Loop), p ∉ (f (w.loop l)).queue →
      ((f (w.loop l)).grants ++ (f (w.loop l)).queue).Nodup →
      ((w.modLoop l f).serveQueue l).Custody (some p) ∧ Work.PassesBy p w ((w.modLoop l f).serveQueue l) := by
    intro l f out once
    have out' : p ∉ ((w.modLoop l f).loop l).queue := by
      rw [Work.modLoop_loop_self]
      exact out
    exact ⟨(h.modLoop once).serveQueueN fun q hq e => out' (Option.some.inj e ▸ hq),
      (Work.PassesBy.of_eq rfl rfl).trans (Work.passesBy_serveQueueN out')⟩
  unfold Work.leaveLoop
  split
  · exact ⟨h, .refl p w⟩
  · next l _ =>
    have once := h.loops l
    split
    · next granted =>
      refine served l (Loop.dropGrant p) (fun hq => ?_) ?_
      · exact (List.nodup_append.mp once).2.2 p (List.contains_iff_mem.mp granted) p hq rfl
      · exact once.sublist ((List.filter_sublist).append (List.Sublist.refl _))
    · split
      · refine served l (fun x => { x with queue := x.queue.filter (fun y => y != p) }) (fun hq => ?_) ?_
        · simp at hq
        · exact once.sublist ((List.Sublist.refl _).append List.filter_sublist)
      · exact ⟨h, .refl p w⟩

/-! ### The end of a fill -/

/-- The current and the staged bank are absent (05, R97, R101). -/
def Position.dropNames (x : Position) : Position := { x with ses := { x.ses with current := none, staged := none } }

theorem Position.dropNames_names (x : Position) (b : BankId) : ¬ x.dropNames.ses.names b := by
  simp [Position.dropNames, Session.names]

theorem Work.releaseNamed_unnamed {w : Work} {p : PosId} (current : (w.pos p).ses.current = none)
    (staged : (w.pos p).ses.staged = none) : w.releaseNamed p = w.modPos p Position.dropNames := by
  unfold Work.releaseNamed
  dsimp only
  rw [current, staged]
  rfl

theorem Work.releaseNamed_current {w : Work} {p : PosId} {b : BankId} (current : (w.pos p).ses.current = some b)
    (staged : (w.pos p).ses.staged = none) :
    w.releaseNamed p = (w.modPos p Position.dropNames).releaseBank (.pos p) b := by
  unfold Work.releaseNamed
  dsimp only
  rw [current, staged]
  rfl

theorem Work.releaseNamed_staged {w : Work} {p : PosId} {b : BankId} (current : (w.pos p).ses.current = none)
    (staged : (w.pos p).ses.staged = some b) :
    w.releaseNamed p = (w.modPos p Position.dropNames).releaseBank (.pos p) b := by
  unfold Work.releaseNamed
  dsimp only
  rw [current, staged]
  rfl

/-- A session gives up the banks it names: nothing else of it changes, and it is late until its state follows. -/
theorem State.Custody.releaseNamed {w : Work} (h : w.Custody none) {p : PosId} (unlisted : w.waits p = false) :
    (w.releaseNamed p).Custody (some p) ∧ (w.releaseNamed p).pos p = (w.pos p).dropNames := by
  have released : ∀ b, (w.pos p).ses.names b →
      ((w.modPos p Position.dropNames).releaseBank (.pos p) b).Custody (some p) ∧
        ((w.modPos p Position.dropNames).releaseBank (.pos p) b).pos p = (w.pos p).dropNames := fun b named => by
    refine ⟨h.release named (Position.dropNames_names _) unlisted, ?_⟩
    rw [(Work.passesBy_releaseBank p (w.modPos p Position.dropNames) _ _ unlisted).1, Work.modPos_pos_self]
  cases current : (w.pos p).ses.current with
  | some b =>
    have staged : (w.pos p).ses.staged = none := by
      cases e : (w.pos p).ses.staged with
      | none => rfl
      | some c =>
        have absent := ((h.soundAll p).staged (by rw [e]; rfl)).2
        rw [current] at absent
        cases absent
    rw [Work.releaseNamed_current current staged]
    exact released b (.inl current)
  | none =>
    cases staged : (w.pos p).ses.staged with
    | some b =>
      rw [Work.releaseNamed_staged current staged]
      exact released b (.inr staged)
    | none =>
      rw [Work.releaseNamed_unnamed current staged, Work.modPos_pos_self]
      refine ⟨(h.modPos ⟨rfl, current.symm, staged.symm, fun _ => id, id, id⟩).weaken fun q e => ?_, rfl⟩
      exact Option.some.inj e ▸ unlisted

/-- The same, for a session that may wait for a bank and leaves the wait list (05, R101). -/
theorem State.Custody.releaseAll {w : Work} (h : w.Custody none) (p : PosId) :
    ((w.releaseNamed p).leaveWaitList p).Custody (some p) ∧
      ((w.releaseNamed p).leaveWaitList p).pos p = (w.pos p).dropNames := by
  cases waits : w.waits p with
  | false =>
    obtain ⟨custody, pos⟩ := h.releaseNamed waits
    exact ⟨custody.leaveWaitList p, pos⟩
  | true =>
    have sound := h.soundAll p
    rw [waits] at sound
    have bare := sound.bare_of_waits
    rw [Work.releaseNamed_unnamed bare.current bare.staged]
    have dropped : (w.modPos p Position.dropNames).Custody none :=
      h.modPos ⟨rfl, bare.current.symm, bare.staged.symm, fun _ => id, id, id⟩
    refine ⟨(dropped.leaveWaitList p).weaken fun q e => ?_, Work.modPos_pos_self w p _⟩
    exact Option.some.inj e ▸ Work.leaveWaitList_waits_self _ p

theorem Position.markEnd_same (r : EndReason) (clock : Clock) (x : Position) : x.Same (x.markEnd r clock) :=
  ⟨rfl, rfl, rfl, fun _ => id, fun e => (by cases e), id⟩

theorem Position.startVent_bare {x : Position} (current : x.ses.current = none) (staged : x.ses.staged = none) :
    x.startVent.Bare := ⟨current, staged, rfl, rfl⟩

/-- The end of a fill, the position's own part of it in full (05, R101). -/
theorem State.Custody.endCore {w : Work} (h : w.Custody none) {p : PosId} (r : EndReason)
    (busy : (w.pos p).ses.state ≠ .idle) : (w.endCore p r).Custody none ∧
      (w.endCore p r).pos p = ((w.pos p).markEnd r w.station.clock).dropNames.startVent ∧
      (w.endCore p r).waits p = false := by
  have marked := h.modPos ((w.pos p).markEnd_same r w.station.clock)
  obtain ⟨released, pos⟩ := marked.releaseAll p
  obtain ⟨left, passes⟩ := released.leaveLoop
  obtain ⟨same, unlisted⟩ := passes (released.unlisted p rfl)
  rw [pos, Work.modPos_pos_self] at same
  refine ⟨left.settle (fun b => ?_) ?_ ?_, ?_, unlisted⟩
  · rw [same]
    exact .rfl
  · rw [same]
    exact (Position.startVent_bare rfl rfl).sound fun e => (by cases e)
  · rw [same]
    exact busy
  · unfold Work.endCore
    dsimp only
    rw [Work.modPos_pos_self, same]

theorem SessionState.live_busy {x : SessionState} (h : x.live = true) : x ≠ .idle := by
  rintro rfl
  cases h

theorem State.Custody.endFill {w : Work} (h : w.Custody none) (p : PosId) (r : EndReason) :
    (w.endFill p r).Custody none := by
  unfold Work.endFill
  split
  · next live => exact (h.endCore r (SessionState.live_busy live)).1
  · exact h

/-! ### FUELLING and HELD -/

/-- A FUELLING session with no bank. -/
structure State.Unsupplied (s : State) (p : PosId) : Prop where
  fuelling : (s.pos p).ses.state = .fuelling
  bare : (s.pos p).Bare
  unlisted : s.waits p = false

theorem State.Unsupplied.busy {s : State} {p : PosId} (h : s.Unsupplied p) : (s.pos p).ses.state ≠ .idle := by
  rw [h.fuelling]; decide

theorem Work.fuellingSelect_found {w : Work} {p : PosId} {b : BankId}
    (h : w.select (w.needOf p) ((w.pos p).cfg.cls.tiersFrom (w.pos p).ses.cursor) = some b) :
    w.fuellingSelect p = (true, (w.claimBank (.pos p) b).modPos p (fun y =>
      { y with ses := { y.ses with staged := some b, cursor := (w.bank b).tier } })) := by
  unfold Work.fuellingSelect
  dsimp only
  rw [h]

theorem Work.fuellingSelect_none {w : Work} {p : PosId}
    (h : w.select (w.needOf p) ((w.pos p).cfg.cls.tiersFrom (w.pos p).ses.cursor) = none) :
    w.fuellingSelect p = (false, w) := by
  unfold Work.fuellingSelect
  dsimp only
  rw [h]

/-- A session that enters HELD with a cause, the banks it named aside (05, R97). -/
def Position.toHeld (c : Cause) (x : Position) : Position :=
  { x.closeRoute.dropNames with
    ses := { x.closeRoute.dropNames.ses with state := .held, causes := x.ses.causes.put c true },
    tmr := { x.closeRoute.dropNames.tmr with ramp := none, held := some Config.heldMs } }

theorem Position.toHeld_bare {x : Position} (pulse : x.tmr.pulse = none) (c : Cause) : (x.toHeld c).Bare :=
  ⟨rfl, rfl, rfl, pulse⟩

theorem Work.enterHeld_unnamed {w : Work} {p : PosId} (current : (w.pos p).ses.current = none)
    (staged : (w.pos p).ses.staged = none) (c : Cause) : w.enterHeld p c = w.modPos p (Position.toHeld c) := by
  have closed := Work.modPos_pos_self w p Position.closeRoute
  unfold Work.enterHeld
  dsimp only
  rw [Work.releaseNamed_unnamed (by rw [closed]; exact current) (by rw [closed]; exact staged), Work.modPos_modPos,
    Work.modPos_modPos]
  rfl

/-- Selection of a FUELLING session with no bank: one is staged, or the session enters HELD (06, R115, R117). -/
theorem State.Custody.selectOrHold {w : Work} (h : w.Custody none) {p : PosId} (un : w.Unsupplied p) :
    (w.selectOrHold p).Custody none := by
  have bare := un.bare
  unfold Work.selectOrHold
  dsimp only
  cases found : w.select (w.needOf p) ((w.pos p).cfg.cls.tiersFrom (w.pos p).ses.cursor) with
  | some b =>
    rw [Work.fuellingSelect_found found, if_pos rfl]
    refine h.claimed (by simp) (State.select_ready found) bare (fun c => ?_) ?_ un.busy
    · simp [Session.names, bare.current, eq_comm]
    · rw [un.unlisted]
      exact ⟨by simp [bare.current], fun _ => ⟨un.fuelling, bare.current⟩, by simp [bare.pulse],
        fun e => (by cases e), by simp [bare.supply]⟩
  | none =>
    rw [Work.fuellingSelect_none found, if_neg Bool.false_ne_true]
    unfold Work.noBankHold
    obtain ⟨_, _, _, pos⟩ := w.joinWaitList_frame p ((w.pos p).cfg.cls.tiersFrom (w.pos p).ses.cursor)
    rw [Work.enterHeld_unnamed (by rw [pos]; exact bare.current) (by rw [pos]; exact bare.staged)]
    exact h.joined (by simp) bare (Position.toHeld_bare bare.pulse .noBank) (.inr ⟨rfl, rfl⟩) un.busy

/-- A FUELLING session enters HELD and gives up its bank (05, R97). -/
theorem State.Custody.enterHeld {w : Work} (h : w.Custody none) {p : PosId} (fuelling : (w.pos p).ses.state = .fuelling)
    (c : Cause) : (w.enterHeld p c).Custody none := by
  have unlisted := (h.soundAll p).not_waits (by rw [fuelling]; decide) (by rw [fuelling]; decide)
  have pulse := (h.soundAll p).pulseless (by rw [fuelling]; decide)
  have closed : (w.modPos p Position.closeRoute).Custody none :=
    h.modPos ⟨rfl, rfl, rfl, fun _ e => (by cases e), id, id⟩
  obtain ⟨released, pos⟩ := closed.releaseNamed (p := p) unlisted
  rw [Work.modPos_pos_self] at pos
  unfold Work.enterHeld
  refine released.settle (fun b => ?_) ?_ ?_
  · rw [pos]
    exact .rfl
  · rw [pos]
    exact (Position.toHeld_bare (x := w.pos p) pulse c).sound fun e => (by cases e)
  · rw [pos]
    show (w.pos p).ses.state ≠ .idle
    rw [fuelling]
    decide

theorem Causes.put_noBank_true {x : Causes} (c : Cause) (h : x.noBank = true) : (x.put c true).noBank = true := by
  cases c with
  | noBank => rfl
  | precool => exact h
  | vehicle => exact h
  | host => exact h

theorem State.Custody.addCause {w : Work} (h : w.Custody none) (p : PosId) (c : Cause) :
    (w.addCause p c).Custody none := by
  unfold Work.addCause
  split
  · next fuelling => exact h.enterHeld fuelling c
  · exact h.modPos ⟨rfl, rfl, rfl, fun _ => id, id, Causes.put_noBank_true c⟩
  · exact h

/-- A HELD session without NO_BANK leaves HELD, or waits for a bank there (05, R98). -/
theorem State.Custody.leaveHeld {w : Work} (h : w.Custody none) {p : PosId} (held : (w.pos p).ses.state = .held)
    (cause : (w.pos p).ses.causes.noBank = false) : (w.leaveHeld p).Custody none := by
  have sound := h.soundAll p
  have bare := sound.bare (by rw [held]; decide) (by rw [held]; decide)
  have unlisted : w.waits p = false := Bool.eq_false_iff.mpr fun e => by
    obtain ⟨x, _⟩ | ⟨_, x⟩ := sound.listed e
    · rw [held] at x
      cases x
    · rw [cause] at x
      cases x
  have limited : (w.modPos p (fun x =>
      { x with ses.ceiling := min (w.hoseOf p) x.ses.target, tmr.held := none })).Custody none :=
    h.modPos ⟨rfl, rfl, rfl, fun _ => id, id, id⟩
  have pos := Work.modPos_pos_self w p (fun x =>
      { x with ses.ceiling := min (w.hoseOf p) x.ses.target, tmr.held := none })
  have stands : (w.modPos p (fun x =>
      { x with ses.ceiling := min (w.hoseOf p) x.ses.target, tmr.held := none })).waits p = false := unlisted
  unfold Work.leaveHeld
  dsimp only
  generalize w.modPos p (fun x => { x with ses.ceiling := min (w.hoseOf p) x.ses.target, tmr.held := none }) = v
    at limited pos stands ⊢
  have bareV : (v.pos p).Bare := by rw [pos]; exact ⟨bare.current, bare.staged, bare.supply, bare.pulse⟩
  have heldV : (v.pos p).ses.state = .held := by rw [pos]; exact held
  have busyV : (v.pos p).ses.state ≠ .idle := by rw [heldV]; decide
  cases found : v.select (v.needOf p) ((v.pos p).cfg.cls.tiersFrom (v.pos p).ses.cursor) with
  | some b =>
    rw [Work.fuellingSelect_found found, if_pos rfl, Work.modPos_modPos]
    refine limited.claimed (by simp) (State.select_ready found) bareV (fun c => ?_) ?_ busyV
    · simp [Session.names, bareV.current, eq_comm]
    · rw [stands]
      exact ⟨by simp [bareV.current], fun _ => ⟨rfl, bareV.current⟩, by simp [bareV.pulse],
        fun e => (by cases e), by simp [bareV.supply]⟩
  | none =>
    rw [Work.fuellingSelect_none found, if_neg Bool.false_ne_true]
    exact limited.joined (by simp) bareV ⟨bareV.current, bareV.staged, bareV.supply, bareV.pulse⟩ (.inr ⟨heldV, rfl⟩)
      busyV

theorem Causes.put_noBank_other {x : Causes} {c : Cause} (hc : c ≠ .noBank) (v : Bool) :
    (x.put c v).noBank = x.noBank := by
  cases c with
  | noBank => exact absurd rfl hc
  | precool => rfl
  | vehicle => rfl
  | host => rfl

/-- A cause other than NO_BANK is removed (05, R97, R98). -/
theorem State.Custody.removeCause {w : Work} (h : w.Custody none) (p : PosId) {c : Cause} (hc : c ≠ .noBank) :
    (w.removeCause p c).Custody none := by
  unfold Work.removeCause
  dsimp only
  split
  · next held =>
    have removed : (w.modPos p (fun y => { y with ses.causes := y.ses.causes.put c false })).Custody none :=
      h.modPos ⟨rfl, rfl, rfl, fun _ => id, id, fun e => (Causes.put_noBank_other hc false).trans e⟩
    split
    · next empty =>
      refine removed.leaveHeld ?_ ?_
      · rw [Work.modPos_pos_self]
        exact held.1
      · rw [Work.modPos_pos_self]
        show ((w.pos p).ses.causes.put c false).noBank = false
        unfold Causes.isEmpty at empty
        simp only [Bool.and_eq_true, Bool.not_eq_true'] at empty
        exact empty.1.1.1
    · exact removed
  · exact h

/-! ### Fallback and steps -/

theorem Position.same_openControl (x : Position) (n : Nat) : x.Same (x.openControl n) := by
  unfold Position.openControl
  split
  · exact .refl x
  · exact ⟨rfl, rfl, rfl, fun _ => id, id, id⟩

theorem Position.same_closeControl (x : Position) : x.Same x.closeControl := ⟨rfl, rfl, rfl, fun _ => id, id, id⟩

theorem Work.aside_judgeValve (w : Work) (p : PosId) : w.Aside (w.judgeValve p).toState := by
  unfold Work.judgeValve
  dsimp only
  split
  · split
    · exact w.aside_modPos p (Position.same_openControl _ _)
    · exact w.aside_modPos p (Position.same_closeControl _)
  · exact .refl _

theorem Position.same_fallBack (x : Position) (n : Nat) : x.Same (x.fallBack n) :=
  ⟨rfl, rfl, rfl, fun _ => id, id, id⟩

/-- A fallback applied: the fill ends, or what the session names stands (07, R133). -/
theorem State.Custody.applyFallback {w : Work} (h : w.Custody none) (p : PosId) : (w.applyFallback p).Custody none ∧
    (((w.applyFallback p).pos p).ses.state = .fuelling → w.Aside (w.applyFallback p).toState) := by
  have fallen := w.aside_modPos p (Position.same_fallBack (w.pos p) (w.noncommTarget p))
  have custody := h.modPos (Position.same_fallBack (w.pos p) (w.noncommTarget p))
  unfold Work.applyFallback
  dsimp only
  split
  · refine ⟨custody.endFill p _, fun fuelling => ?_⟩
    by_cases live : ((w.modPos p (Position.fallBack (w.noncommTarget p))).pos p).ses.state.live = true
    · rw [(Work.endFill_ended live _).state] at fuelling
      cases fuelling
    · unfold Work.endFill
      rw [if_neg live]
      exact fallen
  · exact ⟨(Work.aside_judgeValve _ p).custody (Work.rows_judgeValve _ p) custody,
      fun _ => fallen.trans (Work.aside_judgeValve _ p)⟩

theorem State.Aside.bare {s t : State} (a : s.Aside t) {p : PosId} (h : (s.pos p).Bare) : (t.pos p).Bare := by
  have same := a.pos p
  refine ⟨same.current.trans h.current, same.staged.trans h.staged, ?_, ?_⟩
  · cases e : (t.pos p).ses.supply with
    | none => rfl
    | some b =>
      have x := same.supply b e
      rw [h.supply] at x
      cases x
  · cases e : (t.pos p).tmr.pulse with
    | none => rfl
    | some n =>
      have x := same.pulse (by rw [e]; rfl)
      rw [h.pulse] at x
      cases x

theorem State.Aside.unlisted {s t : State} (a : s.Aside t) {p : PosId} (h : s.waits p = false) : t.waits p = false :=
  Bool.eq_false_iff.mpr fun e => absurd (a.waits p e) (by simp [h])

/-- The rest of a step of a session that has given up its bank (06, R119, R121). -/
theorem State.Custody.stepOn {w : Work} (h : w.Custody none) {p : PosId} (bare : (w.pos p).Bare)
    (unlisted : w.waits p = false) : (w.stepOn p).Custody none := by
  have selects : ∀ v : Work, v.Custody none → ((v.pos p).ses.state = .fuelling → w.Aside v.toState) →
      (if (v.pos p).ses.state = .fuelling then v.selectOrHold p else v).Custody none := fun v hv aside => by
    split
    · next fuelling =>
      exact hv.selectOrHold ⟨fuelling, (aside fuelling).bare bare, (aside fuelling).unlisted unlisted⟩
    · exact hv
  have counted := w.aside_modPos p (f := fun x => { x with ses.steps := min 255 (x.ses.steps + 1) })
    ⟨rfl, rfl, rfl, fun _ => id, id, id⟩
  have custody := counted.custody (w.rows_modPos p _) h
  unfold Work.stepOn
  dsimp only
  refine selects _ ?_ ?_
  · split
    · exact (custody.applyFallback p).1
    · exact custody
  · split
    · exact fun fuelling => counted.trans ((custody.applyFallback p).2 fuelling)
    · exact fun _ => counted

/-- Route closed and the current bank absent (05, R95; 06, R119). -/
def Position.dropCurrent (x : Position) : Position :=
  { x.closeRoute with ses := { x.closeRoute.ses with current := none } }

theorem Position.dropCurrent_names {x : Position} (staged : x.ses.staged = none) (b : BankId) :
    ¬ x.dropCurrent.ses.names b := by
  simp [Position.dropCurrent, Position.closeRoute, Session.names, staged]

/-- A step of a FUELLING session from its current bank (06, R119). -/
theorem State.Custody.stepFill {w : Work} (h : w.Custody none) {p : PosId} {b : BankId}
    (fuelling : (w.pos p).ses.state = .fuelling) (current : (w.pos p).ses.current = some b) :
    (w.stepFill p).Custody none := by
  have sound := h.soundAll p
  have unlisted := sound.not_waits (by rw [fuelling]; decide) (by rw [fuelling]; decide)
  have staged := sound.unstaged_of_current current
  have released := h.release (f := Position.dropCurrent) (.inl current) (Position.dropCurrent_names staged) unlisted
  have stepped : w.stepFill p = ((w.modPos p Position.dropCurrent).releaseBank (.pos p) b).stepOn p := by
    unfold Work.stepFill
    dsimp only
    rw [current]
    rfl
  obtain ⟨pos, unlistedAfter⟩ := Work.passesBy_releaseBank p (w.modPos p Position.dropCurrent) (.pos p) b unlisted
  rw [Work.modPos_pos_self] at pos
  have bare : (w.pos p).dropCurrent.Bare := ⟨rfl, staged, rfl, sound.pulseless (by rw [fuelling]; decide)⟩
  rw [stepped]
  refine State.Custody.stepOn (released.onTime ?_) (by rw [pos]; exact bare) unlistedAfter
  rw [pos]
  exact bare.sound fun e => (by cases e)

/-- The initial pressure and the check window (05, R95). -/
def Position.toChecking (hose : Nat) (x : Position) : Position :=
  { x with
    ses := { x.ses with state := .checking, initial := hose },
    tmr := { x.tmr with pulse := none, check := some Config.checkMs } }

theorem Work.enterChecking_eq (w : Work) (p : PosId) :
    w.enterChecking p = w.modPos p (Position.toChecking (w.hoseOf p)) := rfl

/-- A position is told that the bank it named has been isolated, and names none from then on (05, R95; 06, R121). -/
theorem State.Custody.bankLost {w : Work} (h : w.Custody none) {p : PosId} {b : BankId} {r : IsoReason}
    (claimed : (w.bank b).claimant = some (.pos p)) :
    ((w.modBank b (Bank.isolateWith r)).bankLost p b).Custody none := by
  have sound := h.soundAll p
  have named := (h.posClaims b p).mp claimed
  have unlisted : w.waits p = false := Bool.eq_false_iff.mpr fun e => by
    rw [e] at sound
    exact sound.bare_of_waits.names b named
  have busy : (w.pos p).ses.state ≠ .idle := fun e =>
    (sound.bare (by rw [e]; decide) (by rw [e]; decide)).names b named
  have isolated : ∀ f : Position → Position, (f (w.pos p)).Bare →
      ((w.modBank b (Bank.isolateWith r)).modPos p f).Custody none := by
    intro f after
    refine h.step p b rfl rfl rfl (fun c e => ?_) ?_ (fun q e => Work.modPos_pos_ne _ _ e) (fun _ _ => id) (fun c => ?_)
      (fun c e => ?_) (fun _ => ?_) (fun e => (by cases e)) (.inr (h.service busy))
    · rw [Work.modPos_bank]
      exact Work.modBank_bank_ne w _ e
    · rw [Work.modPos_bank, Work.modBank_bank_self]
      exact Bank.isolateWith_row r _
    · rw [Work.modPos_pos_self, Work.modPos_bank]
      refine iff_of_false (fun e => ?_) (after.names c)
      rw [Work.modBank_bank] at e
      split at e
      · cases e
      · next other => exact other (sound.names_unique named ((h.posClaims c p).mp e))
    · rw [Work.modPos_bank, Work.modBank_bank_self, claimed]
      exact iff_of_false (fun x => by cases x) (fun x => e (Option.some.inj x).symm)
    · rw [Work.modPos_pos_self]
      refine after.sound fun e => ?_
      rw [show ((w.modBank b (Bank.isolateWith r)).modPos p f).waits p = w.waits p from rfl, unlisted] at e
      cases e
  unfold Work.bankLost
  dsimp only
  split
  · rw [Work.enterChecking_eq, Work.modPos_modPos]
    exact isolated _ ⟨rfl, rfl, rfl, rfl⟩
  · next notPulsing =>
    split
    · next fuelling =>
      have pulse := sound.pulseless (by rw [show (w.pos p).ses.state = .fuelling from fuelling.1]; decide)
      have dropped := isolated (fun y => { y.closeRoute with ses := { y.closeRoute.ses with
        current := none, staged := none } }) ⟨rfl, rfl, rfl, pulse⟩
      refine dropped.stepOn ?_ unlisted
      rw [Work.modPos_pos_self]
      exact ⟨rfl, rfl, rfl, pulse⟩
    · next notFuelling =>
      exfalso
      have pulsing : ¬((w.pos p).ses.state = .pulsing ∧ (w.pos p).ses.current = some b) := notPulsing
      have fuelling : ¬((w.pos p).ses.state = .fuelling ∧ (w.pos p).ses.names b) := notFuelling
      have out : (w.pos p).ses.state ≠ .fuelling := fun e => fuelling ⟨e, named⟩
      obtain current | staged := named
      · exact (sound.current (by rw [current]; rfl)).elim (fun e => pulsing ⟨e, current⟩) out
      · exact out (sound.staged (by rw [staged]; rfl)).1

end Sys2Proof.Machine
end

section
/-! SUPPORT. Custody through the compressors' refills, isolation and the end of a rule (02, R28; 03). `State.Keeps`
joins it with the rows: one lemma per operation of a rule. -/
namespace Sys2Proof.Machine

/-! ### Both kinds of law at once -/

/-- From `s` to `t` the records stay in their rows, and custody is kept. -/
structure State.Keeps (s t : State) : Prop extends State.RowsKept s t where
  custody : s.Custody none → t.Custody none

theorem State.Keeps.refl (s : State) : s.Keeps s := { State.RowsKept.refl s with custody := id }

theorem State.Keeps.trans {a b c : State} (h : a.Keeps b) (g : b.Keeps c) : a.Keeps c :=
  { h.toRowsKept.trans g.toRowsKept with custody := fun x => g.custody (h.custody x) }

theorem State.Aside.keeps {s t : State} (a : s.Aside t) (r : s.RowsKept t) : s.Keeps t :=
  { r with custody := a.custody r }

/-- Banks, compressors, loops and positions stand. -/
theorem State.Keeps.of_eq {s t : State} (hb : t.banks = s.banks) (hk : t.comps = s.comps) (hl : t.loops = s.loops)
    (ho : t.powerQueue = s.powerQueue) (hp : t.positions = s.positions) (hw : ∀ p, t.waits p = true → s.waits p = true)
    (hs : t.station.phase = s.station.phase) : s.Keeps t :=
  (State.Aside.of_eq hb hk hl hp hw hs).keeps (.of_eq hb hk hl ho)

theorem Work.keeps_leaveQueue (w : Work) (b : BankId) : w.Keeps (w.leaveQueue b).toState :=
  .of_eq rfl rfl rfl rfl rfl (fun _ => id) rfl

theorem Work.keeps_joinQueue (w : Work) (b : BankId) : w.Keeps (w.joinQueue b).toState := by
  unfold Work.joinQueue
  split
  · exact .refl _
  · exact .of_eq rfl rfl rfl rfl rfl (fun _ => id) rfl

theorem Work.keeps_raise (w : Work) (i : Nat) : w.Keeps (w.raise i).toState :=
  .of_eq rfl rfl rfl rfl rfl (fun _ => id) rfl

theorem Work.keeps_modPos (w : Work) (p : PosId) {f : Position → Position} (h : (w.pos p).Same (f (w.pos p))) :
    w.Keeps (w.modPos p f).toState := (w.aside_modPos p h).keeps (w.rows_modPos p f)

/-- Writing what custody does not read of one bank, in its row. -/
theorem Work.keeps_modBank (w : Work) (b : BankId) {f : Bank → Bank}
    (hc : (f (w.bank b)).claimant = (w.bank b).claimant) (hr : (w.bank b).RowHolds → (f (w.bank b)).RowHolds) :
    w.Keeps (w.modBank b f).toState := (w.aside_modBank b hc).keeps (w.rows_modBank b hr)

theorem Work.keeps_each {α : Type} {f : α → Work → Work} (step : ∀ x (w : Work), w.Keeps (f x w).toState) (xs : List α)
    (w : Work) : w.Keeps (Work.each f xs w).toState :=
  Work.each_keeps (fun v u => v.Keeps u.toState) (fun v => .refl v.toState) (fun h g => h.trans g) f step xs w

/-! ### A compressor that loses its bank -/

/-- `v` is `w` but for compressor `k`, which has no bank in `v`. -/
structure Work.CompGone (k : CompId) (w v : Work) : Prop where
  banks : v.banks = w.banks
  positions : v.positions = w.positions
  waitList : v.waitList = w.waitList
  loops : v.loops = w.loops
  station : v.station = w.station
  others : ∀ j, j ≠ k → v.comp j = w.comp j
  row : (v.comp k).RowHolds
  gone : (v.comp k).bank = none

theorem Work.CompGone.bank {k : CompId} {w v : Work} (g : Work.CompGone k w v) (b : BankId) : v.bank b = w.bank b := by
  unfold State.bank
  rw [g.banks]

theorem Work.compGone_modComp (w : Work) (k : CompId) {f : Compressor → Compressor} (row : (f (w.comp k)).RowHolds)
    (gone : (f (w.comp k)).bank = none) : Work.CompGone k w (w.modComp k f) where
  banks := rfl
  positions := rfl
  waitList := rfl
  loops := rfl
  station := rfl
  others := fun _ e => Work.modComp_comp_ne w f e
  row := by rw [Work.modComp_comp_self]; exact row
  gone := by rw [Work.modComp_comp_self]; exact gone

theorem Work.CompGone.modBank {k : CompId} {w v : Work} (g : Work.CompGone k w v) (b : BankId) (f : Bank → Bank) :
    Work.CompGone k (w.modBank b f) (v.modBank b f) where
  banks := by
    unfold Work.modBank State.bank
    rw [g.banks]
  positions := g.positions
  waitList := g.waitList
  loops := g.loops
  station := g.station
  others := g.others
  row := g.row
  gone := g.gone

/-- A compressor with no bank claims none. -/
theorem Work.CompGone.custody {k : CompId} {w v : Work} (g : Work.CompGone k w v) (h : w.Custody none)
    (none_ : (w.comp k).bank = none) : v.Custody none := by
  refine h.stepComp k 0 g.positions g.waitList g.loops g.station g.others g.row (fun c _ => g.bank c) ?_ (fun c => ?_)
    (fun c _ => by rw [g.bank]) (fun active => ?_)
  · rw [g.bank]
    exact h.banks 0
  · rw [g.bank, h.compClaims, g.gone, none_]
  · have row := g.row
    obtain ⟨bank, _, _⟩ := row
    rw [g.gone, active] at bank
    cases bank

/-- The bank a compressor gives up is freed in the same rule. -/
theorem Work.CompGone.freed {k : CompId} {w v t : Work} (g : Work.CompGone k w v) (h : w.Custody none) {b : BankId}
    (bank : (w.comp k).bank = some b) (hands : Work.Hands b v t) (positions : t.positions = v.positions)
    (waitList : t.waitList = v.waitList) (station : t.station = v.station) (row : (t.bank b).RowHolds)
    (free : (t.bank b).claimant = none) : t.Custody none := by
  have claimed := (h.compClaims b k).mpr bank
  have comp : ∀ j, t.comp j = v.comp j := fun j => by unfold State.comp; rw [hands.comps]
  refine h.stepComp k b (positions.trans g.positions) (waitList.trans g.waitList) (hands.loops.trans g.loops)
    (station.trans g.station) (fun j e => (comp j).trans (g.others j e)) (by rw [comp]; exact g.row)
    (fun c e => (hands.others c e).trans (g.bank c)) row (fun c => ?_) (fun c e => ?_) (fun active => ?_)
  · rw [comp, g.gone]
    refine iff_of_false (fun x => ?_) (by simp)
    by_cases e : c = b
    · rw [e, free] at x
      cases x
    · rw [hands.others c e, g.bank, h.compClaims, bank] at x
      exact e (Option.some.inj x).symm
  · rw [free, claimed]
    exact iff_of_false (by simp) fun x => e (Option.some.inj x).symm
  · have kept := g.row
    obtain ⟨holds, _, _⟩ := kept
    rw [comp] at active
    rw [g.gone, active] at holds
    cases holds

theorem Work.CompGone.heldBy {k : CompId} {w v : Work} (g : Work.CompGone k w v) (h : w.Custody none) {b : BankId}
    (bank : (w.comp k).bank = some b) : v.heldBy (.comp k) b = true := by
  unfold State.heldBy
  rw [g.bank]
  exact h.heldBy ((h.compClaims b k).mpr bank)

/-- A give-back in the rule in which the compressor gives up its bank (03, R45, R55). -/
theorem Work.CompGone.giveBack {k : CompId} {w v : Work} (g : Work.CompGone k w v) (h : w.Custody none) {b : BankId}
    (bank : (w.comp k).bank = some b) : (v.giveBack k b).Custody none := by
  have held := g.heldBy h bank
  have iso : (v.bank b).isolation = none := by
    rw [g.bank]
    exact (h.banks b).unisolated (Bank.inService_not_isolated (by
      have inService := State.heldBy_inService held
      rw [g.bank] at inService
      exact inService))
  have ready : ((v.makeReady b).frontQueue b).bank b =
      (v.bank b).enterReady v.station.clock v.station.leakWindow := Work.modBank_bank_self v b _
  have fronted : Work.Hands b (v.makeReady b) ((v.makeReady b).frontQueue b) := .of_eq rfl rfl rfl rfl rfl
  unfold Work.giveBack
  rw [if_pos held]
  refine State.Custody.offerBank (g.freed h bank ((v.hands_makeReady b).trans fronted) rfl rfl rfl ?_ ?_) b
  · rw [ready]
    exact Bank.enterReady_row iso _ _
  · rw [ready]
    rfl

/-- A release in the rule in which the compressor gives up its bank (02, R32; 03, R53). -/
theorem Work.CompGone.releaseBank {k : CompId} {w v : Work} (g : Work.CompGone k w v) (h : w.Custody none) {b : BankId}
    (bank : (w.comp k).bank = some b) : (v.releaseBank (.comp k) b).Custody none := by
  have held := g.heldBy h bank
  have iso : (v.bank b).isolation = none := by
    rw [g.bank]
    exact (h.banks b).unisolated (Bank.inService_not_isolated (by
      have inService := State.heldBy_inService held
      rw [g.bank] at inService
      exact inService))
  obtain ⟨positions, waitList, station⟩ := v.freeBank_lists b
  unfold Work.releaseBank
  rw [if_pos held]
  exact State.Custody.offerBank (g.freed h bank (v.hands_freeBank b) positions waitList station
    (Work.freeBank_row iso) (by rw [Work.freeBank_bank]; rfl)) b

theorem Work.compGone_unloadComp (w : Work) (k : CompId) : Work.CompGone k w (w.unloadComp k) :=
  have g := w.compGone_modComp k (f := Compressor.unload) (Compressor.unload_row _) rfl
  ⟨g.banks, g.positions, g.waitList, g.loops, g.station, g.others, g.row, g.gone⟩

theorem Work.keeps_loseRefill (w : Work) (k : CompId) : w.Keeps (w.loseRefill k).toState :=
  { w.rows_loseRefill k with
    custody := fun h => by
      unfold Work.loseRefill
      dsimp only
      cases bank : (w.comp k).bank with
      | none => exact (w.compGone_unloadComp k).custody h bank
      | some b => exact (w.compGone_unloadComp k).giveBack h bank }

theorem Work.keeps_yieldBank (w : Work) (k : CompId) (b : BankId) : w.Keeps (w.yieldBank k b).toState :=
  (w.keeps_modBank b (f := fun x => { x with yields := x.yields + 1 }) rfl fun h => h.of_eq rfl rfl rfl rfl rfl).trans
    (Work.keeps_loseRefill _ k)

theorem Work.keeps_completeRefill (w : Work) (k : CompId) : w.Keeps (w.completeRefill k).toState :=
  { w.rows_completeRefill k with
    custody := fun h => by
      have counted : Work.CompGone k w ((w.unloadComp k).modComp k (fun c => { c with refills := c.refills + 1 })) := by
        have u := w.compGone_unloadComp k
        have g := (w.unloadComp k).compGone_modComp k (f := fun c => { c with refills := c.refills + 1 })
          (u.row.of_eq rfl rfl rfl rfl) u.gone
        exact ⟨g.banks, g.positions, g.waitList, g.loops, g.station, fun j e => (g.others j e).trans (u.others j e),
          g.row, g.gone⟩
      unfold Work.completeRefill
      dsimp only
      cases bank : (w.comp k).bank with
      | none => exact counted.custody h bank
      | some b =>
        have yielded := (w.keeps_modBank b (f := fun x => { x with yields := 0 }) rfl
          fun h => h.of_eq rfl rfl rfl rfl rfl).custody h
        exact (counted.modBank b _).releaseBank yielded bank }

theorem Work.keeps_yieldAtPressure (w : Work) (k : CompId) (b : BankId) : w.Keeps (w.yieldAtPressure k b).toState := by
  unfold Work.yieldAtPressure
  split
  · exact .refl _
  · split
    · exact w.keeps_yieldBank k b
    · exact .refl _

theorem Work.keeps_yieldAtExpiry (w : Work) (e : WaitEntry) : w.Keeps (w.yieldAtExpiry e).toState := by
  unfold Work.yieldAtExpiry
  split
  · exact .refl _
  · split
    · exact w.keeps_yieldBank _ _
    · exact .refl _

theorem Work.keeps_pressureToComp (w : Work) (k : CompId) (b : BankId) : w.Keeps (w.pressureToComp k b).toState := by
  unfold Work.pressureToComp
  dsimp only
  split
  · exact w.keeps_completeRefill k
  · split
    · exact w.keeps_yieldAtPressure k b
    · exact .refl _

/-! ### Isolation -/

theorem Work.keeps_isolateBank (w : Work) (b : BankId) (r : IsoReason) : w.Keeps (w.isolateBank b r).toState :=
  { w.rows_isolateBank b r with
    custody := fun h => by
      have told : ∀ v : Work, v.Custody none → ((v.leaveQueue b).raise 11).Custody none := fun v hv =>
        ((v.keeps_leaveQueue b).trans (Work.keeps_raise _ 11)).custody hv
      unfold Work.isolateBank
      dsimp only
      split
      · refine told _ ?_
        cases claimed : (w.bank b).claimant with
        | none =>
          exact (w.keeps_modBank b (f := Bank.isolateWith r) claimed.symm fun _ => Bank.isolateWith_row r _).custody h
        | some c =>
          cases c with
          | pos p => exact h.bankLost claimed
          | comp k =>
            have bank := (h.compClaims b k).mp claimed
            have active := (h.comps k).active bank
            dsimp only
            rw [if_pos (show ((w.modBank b (Bank.isolateWith r)).comp k).active = true from active)]
            have isolated : ((w.unloadComp k).modBank b (Bank.isolateWith r)).Custody none := by
              refine (w.compGone_unloadComp k).freed h bank
                ((w.unloadComp k).hands_modBank b rfl fun _ e => (by cases e)) rfl rfl rfl ?_ ?_
              · rw [Work.modBank_bank_self]
                exact Bank.isolateWith_row r _
              · rw [Work.modBank_bank_self]
                rfl
            exact isolated
      · exact h }

/-! ### Power and the end of a rule -/

theorem Work.aside_grantChiller (w : Work) (l : LoopId) : w.Aside (w.grantChiller l).toState :=
  have h := w.aside_modLoop l (f := fun x => { x with chiller := .running }) rfl rfl
  ⟨h.bank, h.comp, h.active, h.pos, h.waits, h.loop, h.phase⟩

theorem Work.keeps_serveWaiting (w : Work) : w.Keeps w.serveWaiting.toState := by
  refine Work.keeps_each (fun l w => ?_) _ w
  unfold Work.serveOne
  split
  · exact .refl _
  · split
    · exact (w.aside_grantChiller l).keeps (w.rows_grantChiller l)
    · exact .refl _

theorem Work.keeps_shedLoop {w : Work} {l : LoopId} (running : (w.loop l).chiller = .running) :
    w.Keeps (w.shedLoop l).toState := by
  have h := w.aside_modLoop l (f := fun x => { x with chiller := .waitingPower }) rfl rfl
  have shed : w.Aside (w.shedLoop l).toState := ⟨h.bank, h.comp, h.active, h.pos, h.waits, h.loop, h.phase⟩
  exact shed.keeps (Work.rows_shedLoop running)

theorem Work.keeps_shedNext (w : Work) : w.Keeps w.shedNext.toState := by
  unfold Work.shedNext
  split
  · exact w.keeps_loseRefill _
  · split
    · exact w.keeps_loseRefill _
    · split
      · next h => exact Work.keeps_shedLoop (State.shedChiller_running h)
      · split
        · next h => exact Work.keeps_shedLoop (State.shedChiller_running h)
        · exact .refl _

theorem Work.keeps_shed (n : Nat) (w : Work) : w.Keeps (Work.shed n w).toState := by
  induction n generalizing w with
  | zero => exact .refl _
  | succ n ih =>
    unfold Work.shed
    split
    · exact .refl _
    · exact w.keeps_shedNext.trans (ih _)

theorem State.compEligible_stopped {s : State} {tier : Tier} {k : CompId} (h : s.compEligible tier k = true) :
    (s.comp k).state = .stopped := by
  unfold State.compEligible at h
  simp only [Bool.and_eq_true, beq_iff_eq] at h
  exact h.1.1.1

theorem State.chooseComp_stopped {s : State} {tier : Tier} {k : CompId} (h : s.chooseComp tier = some k) :
    (s.comp k).state = .stopped := by
  unfold State.chooseComp at h
  split at h
  · next first second =>
    split at h
    · cases h
      exact State.compEligible_stopped second
    · cases h
      exact State.compEligible_stopped first
  · next first _ =>
    cases h
    exact State.compEligible_stopped first
  · next second =>
    cases h
    exact State.compEligible_stopped second
  · cases h

/-- A STOPPED compressor takes a READY bank (03, R51). -/
theorem State.Custody.assign {w : Work} (h : w.Custody none) {k : CompId} {b : BankId}
    (stopped : (w.comp k).state = .stopped) (ready : (w.bank b).state = .ready) (service : w.station.phase ≠ .setup) :
    (w.assign k b).Custody none := by
  have claimed : (w.assign k b).bank b = (w.bank b).claim (.comp k) := Work.modBank_bank_self (w.leaveQueue b) b _
  have others : ∀ c, c ≠ b → (w.assign k b).bank c = w.bank c := fun c e => Work.modBank_bank_ne (w.leaveQueue b) _ e
  have claimant : ((w.assign k b).bank b).claimant = some (.comp k) := by
    rw [claimed]
    unfold Bank.claim
    rw [if_pos ready]
  have bank : ((w.assign k b).comp k).bank = some b := by
    unfold Work.assign
    rw [Work.modComp_comp_self]
  have none_ : (w.comp k).bank = none := (h.comps k).bank_none (by unfold Compressor.active; rw [stopped]; rfl)
  refine h.stepComp k b rfl rfl rfl rfl (fun j e => Work.modComp_comp_ne _ _ e)
    ((Work.rows_assign stopped b).comps h.comps k) others ((Work.rows_assign stopped b).banks h.banks b)
    (fun c => ?_) (fun c e => ?_) (fun _ => service)
  · rw [bank]
    by_cases e : c = b
    · rw [e, claimant]
      simp
    · rw [others c e, h.compClaims, none_]
      simp [Ne.symm e]
  · rw [claimant, h.ready_unclaimed ready]
    simp [e.symm]

/-- One entry of the walk, in SERVICE (03, R50). -/
theorem Work.keeps_visit {w : Work} (service : w.station.phase ≠ .setup) (e : QueueEntry) :
    w.Keeps (w.visit e).toState ∧ (w.visit e).station = w.station := by
  unfold Work.visit
  dsimp only
  split
  · next ready =>
    split
    · exact ⟨w.keeps_leaveQueue _, rfl⟩
    · split
      · next k chosen =>
        have stopped := State.chooseComp_stopped chosen
        exact ⟨{ Work.rows_assign stopped e.bank with custody := fun h => h.assign stopped ready service }, rfl⟩
      · exact ⟨.refl _, rfl⟩
  · exact ⟨.refl _, rfl⟩

theorem Work.keeps_evaluate (w : Work) : w.Keeps w.evaluate.toState := by
  have walk : ∀ (q : List QueueEntry) (v : Work), v.station.phase ≠ .setup →
      v.Keeps (Work.each Work.visit q v).toState := fun q => by
    induction q with
    | nil => exact fun v _ => .refl v.toState
    | cons e q ih =>
      intro v service
      obtain ⟨visited, station⟩ := Work.keeps_visit service e
      exact visited.trans (ih _ (by rw [station]; exact service))
  unfold Work.evaluate
  split
  · next on => exact walk _ w (by rw [on.1]; decide)
  · exact .refl _

/-- The end of a rule (03, R49, R63; 01, R10). -/
theorem Work.keeps_close (w : Work) (s0 : State) : w.Keeps (w.close s0) := by
  have served : w.Keeps (if w.serveDue then w.serveWaiting else w).toState := by
    split
    · exact w.keeps_serveWaiting
    · exact .refl _
  have wound : w.Keeps w.wound.toState := by
    unfold Work.wound
    dsimp only
    split
    · exact served.trans (Work.keeps_evaluate _)
    · exact served
  rw [Work.close_eq]
  split
  · exact wound
  · exact wound.trans (.of_eq rfl rfl rfl rfl rfl (fun _ => id) rfl)

end Sys2Proof.Machine
end

section
/-! SUPPORT. `State.Keeps` through samples, metering, vehicle data, sessions and precooling: in the relational form
where a session's state is asked for, else in the form "if it holds up to this work, it holds after the operation". -/
namespace Sys2Proof.Machine

/-! ### Sessions -/

theorem Work.keeps_offerBank (w : Work) (b : BankId) : w.Keeps (w.offerBank b).toState :=
  { w.rows_offerBank b with custody := fun h => h.offerBank b }

theorem Work.keeps_endCore {w : Work} {p : PosId} (busy : (w.pos p).ses.state ≠ .idle) (r : EndReason) :
    w.Keeps (w.endCore p r).toState :=
  { w.rows_endCore p r with custody := fun h => (h.endCore r busy).1 }

theorem Work.keeps_stepFill {w : Work} {p : PosId} {b : BankId} (fuelling : (w.pos p).ses.state = .fuelling)
    (current : (w.pos p).ses.current = some b) : w.Keeps (w.stepFill p).toState :=
  { w.rows_stepFill p with custody := fun h => h.stepFill fuelling current }

/-- A session with no bank changes its state, outside PULSING, FUELLING and HELD. -/
theorem Work.keeps_modBare {w : Work} {p : PosId} {f : Position → Position} (hp : (w.pos p).ses.state ≠ .pulsing)
    (hf : (w.pos p).ses.state ≠ .fuelling) (hh : (w.pos p).ses.state ≠ .held)
    (after : (w.pos p).Bare → (f (w.pos p)).Bare)
    (idle : (f (w.pos p)).ses.state = .idle ∨ (w.pos p).ses.state ≠ .idle ∨ w.station.phase ≠ .setup) :
    w.Keeps (w.modPos p f).toState :=
  { w.rows_modPos p f with
    custody := fun h =>
      have sound := h.soundAll p
      have bare := sound.bare hp hf
      h.modBare bare (after bare) (sound.not_waits hp hh) (idle.imp_right fun e => e.elim h.service id) }

theorem Position.Bare.same_names {x y : Position} (h : x.Bare) (hc : y.ses.current = x.ses.current)
    (hs : y.ses.staged = x.ses.staged) (hr : y.ses.supply = x.ses.supply) (hp : y.tmr.pulse = x.tmr.pulse) : y.Bare :=
  ⟨hc.trans h.current, hs.trans h.staged, hr.trans h.supply, hp.trans h.pulse⟩

theorem Position.enterIdle_bare (x : Position) : x.enterIdle.Bare := ⟨rfl, rfl, rfl, rfl⟩

/-- The pulse of a PULSING session ends: its bank is released, and CHECKING follows (05, R95). -/
theorem Work.keeps_endPulse {w : Work} {p : PosId} (timed : (w.pos p).tmr.pulse.isSome = true) :
    w.Keeps (w.endPulse p).toState where
  toRowsKept := by
    unfold Work.endPulse
    dsimp only
    split
    · exact ((w.rows_modPos p _).trans (Work.rows_releaseBank _ _ _)).trans (Work.rows_modPos _ p _)
    · exact (w.rows_modPos p _).trans (Work.rows_modPos _ p _)
  custody := fun h => by
    have sound := h.soundAll p
    obtain ⟨pulsing, some_⟩ := sound.pulse timed
    obtain ⟨b, current⟩ := Option.isSome_iff_exists.mp some_
    have staged := sound.unstaged_of_current current
    have unlisted : w.waits p = false := Bool.eq_false_iff.mpr fun e => by
      rw [e] at sound
      exact sound.bare_of_waits.names b (.inl current)
    have ended : w.endPulse p =
        ((w.modPos p Position.dropCurrent).releaseBank (.pos p) b).enterChecking p := by
      unfold Work.endPulse
      dsimp only
      rw [current]
      rfl
    have released := h.release (f := Position.dropCurrent) (.inl current) (Position.dropCurrent_names staged) unlisted
    obtain ⟨pos, _⟩ := Work.passesBy_releaseBank p (w.modPos p Position.dropCurrent) (.pos p) b unlisted
    rw [Work.modPos_pos_self] at pos
    have bare : ∀ hose, ((w.pos p).dropCurrent.toChecking hose).Bare := fun _ => ⟨rfl, staged, rfl, rfl⟩
    rw [ended, Work.enterChecking_eq]
    refine released.settle (fun c => ?_) ?_ ?_
    · rw [pos]
      exact .rfl
    · rw [pos]
      exact (bare _).sound fun e => (by cases e)
    · rw [pos]
      show (w.pos p).ses.state ≠ .idle
      rw [pulsing]
      decide

/-- A staged bank becomes the current one, on the route (06, R108). -/
theorem Session.ramp_staged {x : Session} {b : BankId} (h : x.staged = some b) (band : Nat) :
    (x.ramp band).current = some b ∧ (x.ramp band).staged = none ∧ (x.ramp band).supply = some b ∧
      (x.ramp band).state = x.state := by
  unfold Session.ramp
  dsimp only
  rw [h]
  exact ⟨rfl, rfl, rfl, rfl⟩

theorem Session.ramp_unstaged {x : Session} (h : x.staged = none) (band : Nat) :
    (x.ramp band).current = x.current ∧ (x.ramp band).staged = none ∧ (x.ramp band).supply = x.supply ∧
      (x.ramp band).state = x.state ∧ (x.ramp band).causes = x.causes := by
  unfold Session.ramp
  dsimp only
  rw [h]
  exact ⟨rfl, rfl, rfl, rfl, rfl⟩

theorem Work.keeps_judgeValve (w : Work) (p : PosId) : w.Keeps (w.judgeValve p).toState :=
  (w.aside_judgeValve p).keeps (w.rows_judgeValve p)

/-- A ramp tick of a FUELLING session (06, R108). -/
theorem Work.keeps_rampTick {w : Work} {p : PosId} (fuelling : (w.pos p).ses.state = .fuelling) :
    w.Keeps (w.rampTick p).toState := by
  refine State.Keeps.trans (b := (w.modPos p (fun x => { x with ses := x.ses.ramp (w.bandRate p) })).toState)
    { w.rows_modPos p _ with custody := fun h => ?_ } (Work.keeps_judgeValve _ p)
  have sound := h.soundAll p
  cases staged : (w.pos p).ses.staged with
  | none =>
    obtain ⟨current, none_, supply, state, causes⟩ := Session.ramp_unstaged staged (w.bandRate p)
    refine h.modPos ⟨state, current, none_.trans staged.symm, fun b e => ?_, id, fun e => ?_⟩
    · exact supply.symm.trans e
    · exact (congrArg Causes.noBank causes).trans e
  | some b =>
    obtain ⟨current, none_, supply, state⟩ := Session.ramp_staged staged (w.bandRate p)
    have absent := (sound.staged (by rw [staged]; rfl)).2
    have unlisted := sound.not_waits (by rw [fuelling]; decide) (by rw [fuelling]; decide)
    have pulse := sound.pulseless (by rw [fuelling]; decide)
    have late : w.Custody (some p) := h.weaken fun q e => Option.some.inj e ▸ unlisted
    refine late.settle (fun c => ?_) ?_ (by rw [fuelling]; decide)
    · simp only [Session.names, current, none_, absent, staged, reduceCtorEq, or_false, false_or]
    · exact
        { current := fun _ => .inr (state.trans fuelling)
          staged := fun e => absurd e (by simp [none_])
          pulse := fun e => absurd e (by simp [pulse])
          listed := fun e => (by cases e)
          supply := fun c e => current.trans (supply.symm.trans e) }

/-- A step is due only with a current bank (06, R119). -/
theorem State.stepDue_current {x : State} {p : PosId} (due : x.stepDue p = true) :
    ∃ b, (x.pos p).ses.current = some b := by
  unfold State.stepDue at due
  dsimp only at due
  cases current : (x.pos p).ses.current with
  | some b => exact ⟨b, rfl⟩
  | none =>
    rw [current] at due
    simp at due

/-- A session after its vent timer's expiry (05, R102). -/
def Position.toDone (x : Position) : Position :=
  { x.doomFrame with ses := { x.ses with boundHold := none, state := .done } }

/-- DONE, then IDLE if the nozzle is seated (05, R102). -/
def Work.finish (p : PosId) (w : Work) : Work :=
  let done := (w.modPos p Position.toDone).raisePos p
  if done.station.inputs.seated.get p then done.modPos p Position.enterIdle else done

theorem Work.ventExpiry_eq (w : Work) (p : PosId) : w.ventExpiry p =
    Work.finish p (match (w.pos p).ses.boundHold with
      | some h => ((w.modPos p (fun x => { x with ses.vent := .closed, tmr.vent := none })).settle h
        (w.pos p).ses.endReason).raise 10
      | none => w.modPos p (fun x => { x with ses.vent := .closed, tmr.vent := none })) := by
  unfold Work.ventExpiry
  cases (w.pos p).ses.boundHold with
  | none => rfl
  | some h => rfl

/-! ### The chain -/

namespace State.Keeps
variable {s : State} {v : Work}

theorem modPos (h : s.Keeps v.toState) {p : PosId} {f : Position → Position}
    (same : ∀ x : Position, x.Same (f x) := by exact fun _ => ⟨rfl, rfl, rfl, fun _ => id, id, id⟩) :
    s.Keeps (v.modPos p f).toState := h.trans (v.keeps_modPos p (same _))

theorem modBank (h : s.Keeps v.toState) {b : BankId} {f : Bank → Bank}
    (claimant : ∀ x : Bank, (f x).claimant = x.claimant := by exact fun _ => rfl)
    (row : ∀ x : Bank, x.RowHolds → (f x).RowHolds := by exact fun _ r => r.of_eq rfl rfl rfl rfl rfl) :
    s.Keeps (v.modBank b f).toState := h.trans (v.keeps_modBank b (claimant _) (row _))

theorem modComp (h : s.Keeps v.toState) {k : CompId} {f : Compressor → Compressor}
    (bank : ∀ x : Compressor, (f x).bank = x.bank := by exact fun _ => rfl)
    (active : ∀ x : Compressor, (f x).active = x.active := by exact fun _ => rfl)
    (row : ∀ x : Compressor, x.RowHolds → (f x).RowHolds := by exact fun _ r => r.of_eq rfl rfl rfl rfl) :
    s.Keeps (v.modComp k f).toState :=
  h.trans ((v.aside_modComp k (bank _) (active _)).keeps (v.rows_modComp k (row _)))

theorem modLoop (h : s.Keeps v.toState) {l : LoopId} {f : Loop → Loop}
    (grants : ∀ x : Loop, (f x).grants = x.grants := by exact fun _ => rfl)
    (queue : ∀ x : Loop, (f x).queue = x.queue := by exact fun _ => rfl)
    (chiller : ∀ x : Loop, (f x).chiller = x.chiller := by exact fun _ => rfl) : s.Keeps (v.modLoop l f).toState :=
  h.trans ((v.aside_modLoop l (grants _) (queue _)).keeps (v.rows_modLoop l (chiller _)))

theorem modHold (h : s.Keeps v.toState) {x f} : s.Keeps (v.modHold x f).toState :=
  h.trans (.of_eq rfl rfl rfl rfl rfl (fun _ => id) rfl)

theorem modStation (h : s.Keeps v.toState) {f : Station → Station}
    (phase : ∀ x : Station, (f x).phase = x.phase := by exact fun _ => rfl) : s.Keeps (v.modStation f).toState :=
  h.trans (.of_eq rfl rfl rfl rfl rfl (fun _ => id) (phase _))

theorem raise (h : s.Keeps v.toState) {i} : s.Keeps (v.raise i).toState := h.trans (v.keeps_raise i)
theorem oweEval (h : s.Keeps v.toState) : s.Keeps v.oweEval.toState := h
theorem releasedDraw (h : s.Keeps v.toState) : s.Keeps v.releasedDraw.toState := h
theorem joinQueue (h : s.Keeps v.toState) {b} : s.Keeps (v.joinQueue b).toState := h.trans (v.keeps_joinQueue b)

/-- Entries of the wait list keep their positions. -/
theorem mapWaitList (h : s.Keeps v.toState) {f : WaitEntry → WaitEntry} (pos : ∀ e, (f e).pos = e.pos) :
    s.Keeps ({ v with waitList := v.waitList.map f } : Work).toState :=
  h.trans (.of_eq rfl rfl rfl rfl rfl (fun p e => by
    unfold State.waits at e ⊢
    rw [List.any_map] at e
    simpa only [Function.comp_def, pos] using e) rfl)

theorem each {α : Type} {f : α → Work → Work} (h : s.Keeps v.toState)
    (step : ∀ x v, s.Keeps v.toState → s.Keeps (f x v).toState) {xs : List α} :
    s.Keeps (Work.each f xs v).toState := by
  induction xs generalizing v with
  | nil => exact h
  | cons x xs ih => exact ih (step x v h)

theorem endFill (h : s.Keeps v.toState) {p r} : s.Keeps (v.endFill p r).toState :=
  h.trans { v.rows_endFill p r with custody := fun c => c.endFill p r }
theorem addCause (h : s.Keeps v.toState) {p c} : s.Keeps (v.addCause p c).toState :=
  h.trans { v.rows_addCause p c with custody := fun x => x.addCause p c }
theorem removeCause (h : s.Keeps v.toState) {p : PosId} {c : Cause} (other : c ≠ .noBank := by decide) :
    s.Keeps (v.removeCause p c).toState :=
  h.trans { v.rows_removeCause p c with custody := fun x => x.removeCause p other }
theorem applyFallback (h : s.Keeps v.toState) {p} : s.Keeps (v.applyFallback p).toState :=
  h.trans { v.rows_applyFallback p with custody := fun c => (c.applyFallback p).1 }
theorem judgeValve (h : s.Keeps v.toState) {p} : s.Keeps (v.judgeValve p).toState := h.trans (v.keeps_judgeValve p)
theorem isolateBank (h : s.Keeps v.toState) {b r} : s.Keeps (v.isolateBank b r).toState :=
  h.trans (v.keeps_isolateBank b r)
theorem offerBank (h : s.Keeps v.toState) {b} : s.Keeps (v.offerBank b).toState := h.trans (v.keeps_offerBank b)
theorem serveQueue (h : s.Keeps v.toState) {l} : s.Keeps (v.serveQueue l).toState :=
  h.trans { Work.rows_serveQueueN 2 l v with custody := fun c => c.serveQueue l }

/-! ### Samples and BAD reports -/

theorem withFlags (h : s.Keeps v.toState) {b} : s.Keeps (v.modBank b Bank.withFlags).toState :=
  h.modBank (fun x => by unfold Bank.withFlags; split <;> rfl) fun _ r => r.withFlags

theorem reflag (h : s.Keeps v.toState) {b} : s.Keeps (v.reflag b).toState := by
  unfold Work.reflag
  dsimp only
  split
  · exact h.withFlags.joinQueue
  · exact h.withFlags

theorem pressureToPos (h : s.Keeps v.toState) {p b} : s.Keeps (v.pressureToPos p b).toState := by
  unfold Work.pressureToPos
  dsimp only
  split
  · next due => exact h.trans (Work.keeps_stepFill due.1 due.2.1)
  · exact h

theorem judgePressure (h : s.Keeps v.toState) {b n} : s.Keeps (v.judgePressure b n).toState := by
  unfold Work.judgePressure
  dsimp only
  split
  · exact h.isolateBank
  · split
    · split
      · exact h.isolateBank
      · exact h.offerBank
    · exact h.pressureToPos
    · exact h.trans (Work.keeps_pressureToComp _ _ b)
    · exact h

theorem bankPressure (h : s.Keeps v.toState) {b n} : s.Keeps (v.bankPressure b n).toState := by
  unfold Work.bankPressure
  dsimp only
  split
  · exact h.modBank
  · exact h.modBank.reflag.judgePressure

theorem bankTemperature (h : s.Keeps v.toState) {b t} : s.Keeps (v.bankTemperature b t).toState := by
  unfold Work.bankTemperature
  dsimp only
  split
  · exact h.modBank.isolateBank
  · exact h.modBank

theorem renewNeed (h : s.Keeps v.toState) {p} : s.Keeps (v.renewNeed p).toState :=
  h.mapWaitList fun e => by split <;> rfl

theorem hoseSample (h : s.Keeps v.toState) {p n} : s.Keeps (v.hoseSample p n).toState := by
  have measured := h.modPos (p := p) (f := fun x => { x with ses.hose := some n })
  unfold Work.hoseSample
  dsimp only
  split
  · exact measured.renewNeed
  · exact measured.renewNeed
  · next fuelling =>
    split
    · exact measured.endFill
    · split
      · next due =>
        obtain ⟨b, current⟩ := State.stepDue_current due
        refine measured.trans (Work.keeps_stepFill ?_ current)
        rw [Work.modPos_pos_self]
        exact fuelling
      · exact measured.judgeValve
  · exact measured

theorem suctionSet (h : s.Keeps v.toState) {x} : s.Keeps ({ v with suction := x } : Work).toState :=
  h.trans (.of_eq rfl rfl rfl rfl rfl (fun _ => id) rfl)

theorem suctionLoss (h : s.Keeps v.toState) : s.Keeps v.suctionLoss.toState := by
  unfold Work.suctionLoss
  refine h.each fun k w g => ?_
  split
  · exact g.trans (w.keeps_loseRefill k)
  · exact g

theorem judgeSuction (h : s.Keeps v.toState) {ok} : s.Keeps (v.judgeSuction ok).toState := by
  unfold Work.judgeSuction
  split
  · exact h.suctionSet.oweEval
  · exact h.suctionSet.suctionLoss
  · exact h

theorem deliver (h : s.Keeps v.toState) {c x} : s.Keeps (v.deliver c x).toState := by
  cases c with
  | bankP b => exact h.bankPressure
  | bankT b => exact h.bankTemperature
  | hoseP p => exact h.hoseSample
  | suctionP => exact h.modStation.judgeSuction
  | ambientT => exact h.modStation
  | loopT l => exact h.modLoop

theorem badReport (h : s.Keeps v.toState) {c} : s.Keeps (v.badReport c).toState := by
  cases c with
  | bankP b => exact h.modBank.isolateBank
  | bankT b => exact h.modBank.isolateBank
  | hoseP p => exact h.modPos.endFill
  | suctionP => exact h.modStation.judgeSuction
  | ambientT => exact h.modStation
  | loopT l => exact h.modLoop

theorem linkSet (h : s.Keeps v.toState) {x} : s.Keeps ({ v with link := x } : Work).toState :=
  h.trans (.of_eq rfl rfl rfl rfl rfl (fun _ => id) rfl)

theorem channelLost (h : s.Keeps v.toState) {c} : s.Keeps (v.channelLost c).toState := h.linkSet.badReport

theorem takeSample (h : s.Keeps v.toState) {f} : s.Keeps (v.takeSample f).toState := by
  unfold Work.takeSample
  split
  · exact h.linkSet.deliver
  · split
    · exact h.channelLost
    · exact h

/-! ### Metering and holds -/

theorem addMass (h : s.Keeps v.toState) {a b} : s.Keeps (v.addMass a b).2.toState := by
  unfold Work.addMass
  split
  · exact h
  · exact h.trans (.of_eq rfl rfl rfl rfl rfl (fun _ => id) rfl)

theorem strayPulse (h : s.Keeps v.toState) {p g} : s.Keeps (v.strayPulse p g).toState := h.modPos.raise
theorem addMetered (h : s.Keeps v.toState) {p g} : s.Keeps (v.addMetered p g).toState := h.addMass.modPos
theorem addConditioning (h : s.Keeps v.toState) {x g} : s.Keeps (v.addConditioning x g).toState := h.addMass.modHold
theorem addOverrun (h : s.Keeps v.toState) {x g} : s.Keeps (v.addOverrun x g).toState := h.addMass.modHold

theorem tellTaper (h : s.Keeps v.toState) {p} : s.Keeps (v.tellTaper p).toState := by
  unfold Work.tellTaper
  dsimp only
  split
  · exact h.modPos
  · exact h

/-- A sale pulse restarts a stall timer that runs (08, R142). -/
theorem stallRestart (h : s.Keeps v.toState) {p : PosId} {n : Nat} : s.Keeps (v.modPos p (fun x =>
    if x.tmr.stall.isSome then { x with tmr.stall := seconds n } else x)).toState := by
  refine h.modPos fun x => ?_
  split
  · exact ⟨rfl, rfl, rfl, fun _ => id, id, id⟩
  · exact .refl x

theorem salePulse (h : s.Keeps v.toState) {p x g} : s.Keeps (v.salePulse p x g).toState := by
  have sold := (h.stallRestart (p := p) (n := v.station.stallWindow)).modHold (x := x) (f := Hold.sell g)
  unfold Work.salePulse
  dsimp only
  split
  · exact sold.addOverrun.endFill
  · split
    · exact sold.addOverrun.tellTaper
    · exact sold.addOverrun

theorem timePulse (h : s.Keeps v.toState) {p m} : s.Keeps (v.modPos p (Position.timePulse m)).toState := by
  refine h.modPos fun x => ?_
  unfold Position.timePulse
  split
  · exact ⟨rfl, rfl, rfl, fun _ => id, id, id⟩
  · exact ⟨rfl, rfl, rfl, fun _ => id, id, id⟩

theorem meterPulse (h : s.Keeps v.toState) {p m} : s.Keeps (v.meterPulse p m).toState := by
  unfold Work.meterPulse
  dsimp only
  split
  · exact h.timePulse.addMetered.addConditioning.strayPulse
  · exact h.timePulse.addMetered.addConditioning.strayPulse
  · exact h.timePulse.addMetered.addConditioning
  · exact h.timePulse.addMetered.addConditioning
  · exact h.timePulse.addMetered.salePulse
  · exact h.timePulse.addMetered.salePulse
  · exact h.timePulse.addMetered.addOverrun
  · exact h.timePulse.strayPulse

theorem setMark (h : s.Keeps v.toState) {p} : s.Keeps (v.setMark p).toState := by
  unfold Work.setMark
  split
  · exact h.modHold
  · exact h

/-- An AUTHORISED session is undone (05, R92, R103, R105). -/
theorem undoAuthorise (h : s.Keeps v.toState) {p} (authorised : (v.pos p).ses.state = .authorised) :
    s.Keeps (v.undoAuthorise p).toState := by
  have idles : ∀ w : Work, (w.pos p).ses.state = .authorised → w.Keeps (w.modPos p Position.enterIdle).toState :=
    fun w hw => Work.keeps_modBare (by rw [hw]; decide) (by rw [hw]; decide) (by rw [hw]; decide)
      (fun _ => Position.enterIdle_bare _) (.inl rfl)
  unfold Work.undoAuthorise
  dsimp only
  split
  · next x _ => exact h.modHold.trans (idles (v.modHold x Hold.unbind) authorised)
  · exact h.trans (idles v authorised)

theorem settle (h : s.Keeps v.toState) {x r} : s.Keeps (v.settle x r).toState := by
  unfold Work.settle
  dsimp only
  split
  · exact h.addConditioning.modHold.modHold
  · exact h.modHold

/-! ### Vehicle data -/

theorem commFrame (h : s.Keeps v.toState) {p d} : s.Keeps (v.commFrame p d).toState := by
  unfold Work.commFrame
  split
  · exact h.endFill
  · split
    · exact h.addCause
    · exact h.removeCause
    · exact h

theorem freshen (h : s.Keeps v.toState) {p} : s.Keeps (v.modPos p Position.freshen).toState := by
  refine h.modPos fun x => ?_
  unfold Position.freshen
  split
  · exact ⟨rfl, rfl, rfl, fun _ => id, id, id⟩
  · exact ⟨rfl, rfl, rfl, fun _ => id, id, id⟩

/-- Step 2 of a valid frame is done or left out (07, R128). -/
theorem freshened (h : s.Keeps v.toState) {c : Prop} {_ : Decidable c} {p} :
    s.Keeps (if c then v.modPos p Position.freshen else v).toState := by
  split
  · exact h.freshen
  · exact h

/-- Steps 3 to 6 of a valid frame (07, R128). -/
theorem frameJudged (h : s.Keeps v.toState) {x : Session} {p d} :
    s.Keeps (if d.command = .abort then v.endFill p .vehicleAbort
      else if Config.hotTemperature ≤ d.temperature then v.endFill p .tankHot
      else if (x.state = .fuelling ∨ x.state = .held) ∧ x.isComm = true then v.commFrame p d else v).toState := by
  split
  · exact h.endFill
  · split
    · exact h.endFill
    · split
      · exact h.commFrame
      · exact h

theorem validFrame (h : s.Keeps v.toState) {p d} : s.Keeps (v.validFrame p d).toState := by
  unfold Work.validFrame
  dsimp only
  split
  · exact h.modPos
  · exact h.modPos.freshened.frameJudged

theorem takeVehicle (h : s.Keeps v.toState) {p body} : s.Keeps (v.takeVehicle p body).toState := by
  unfold Work.takeVehicle
  split
  · exact h.validFrame
  · exact h.modPos

theorem startFallback (h : s.Keeps v.toState) {p} : s.Keeps (v.startFallback p).toState := by
  unfold Work.startFallback
  split
  · exact h.applyFallback
  · exact h.modPos

theorem freshnessExpiry (h : s.Keeps v.toState) {p} : s.Keeps (v.freshnessExpiry p).toState := by
  unfold Work.freshnessExpiry
  dsimp only
  split
  · exact h.modPos.startFallback
  · exact h.modPos

/-! ### Sessions -/

theorem couple (h : s.Keeps v.toState) {p} (authorised : (v.pos p).ses.state = .authorised) :
    s.Keeps (v.couple p).toState := by
  have stamped : s.Keeps (v.modPos p (fun y =>
      { y with ses.coupledStamp := some v.station.clock, tmr := { y.tmr with connect := none } })).toState := h.modPos
  have state : ((v.modPos p (fun y =>
      { y with ses.coupledStamp := some v.station.clock, tmr := { y.tmr with connect := none } })).pos p).ses.state =
      .authorised := by
    rw [Work.modPos_pos_self]
    exact authorised
  unfold Work.couple
  dsimp only
  generalize v.modPos p (fun y =>
      { y with ses.coupledStamp := some v.station.clock, tmr := { y.tmr with connect := none } }) = u
    at stamped state ⊢
  have busy : (u.pos p).ses.state ≠ .idle := by rw [state]; decide
  have goes : ∀ f : Position → Position, ((u.pos p).Bare → (f (u.pos p)).Bare) → s.Keeps (u.modPos p f).toState :=
    fun f after => stamped.trans (Work.keeps_modBare (by rw [state]; decide) (by rw [state]; decide)
      (by rw [state]; decide) after (.inr (.inl busy)))
  split
  · exact stamped.trans (Work.keeps_endCore busy _)
  · split
    · have cooling := goes (fun y => { y with ses.state := .cooling, tmr.cooling := some Config.coolingMs })
        fun b => b.same_names rfl rfl rfl rfl
      split
      · exact cooling.trans { Work.rows_requestGrant _ p _ with custody := fun c => c.requestGrant p _ }
      · exact cooling
    · refine stamped.trans ⟨(u.rows_modPos p _).trans (Work.rows_pulsingSelect _ p), fun c => ?_⟩
      have bare := (c.soundAll p).bare (by rw [state]; decide) (by rw [state]; decide)
      have unlisted := (c.soundAll p).not_waits (by rw [state]; decide) (by rw [state]; decide)
      have pulsing : { u.pos p with ses.state := .pulsing }.Bare := bare.same_names rfl rfl rfl rfl
      refine (c.modBare bare pulsing unlisted (.inr (c.service busy))).pulsingSelect (by simp) ?_ ?_ unlisted
      · rw [Work.modPos_pos_self]
      · rw [Work.modPos_pos_self]
        exact pulsing

/-- From CHECKING to FUELLING, with selection (05, R96). -/
theorem enterFuelling (h : s.Keeps v.toState) {p} (checking : (v.pos p).ses.state = .checking) :
    s.Keeps (v.enterFuelling p).toState := by
  have enters : ∀ (u : Work) (f : Position → Position), (u.pos p).ses.state = .checking →
      (f (u.pos p)).ses.state = .fuelling → ((u.pos p).Bare → (f (u.pos p)).Bare) →
      u.Keeps ((u.modPos p f).selectOrHold p).toState := by
    intro u f state fuelling after
    refine ⟨(u.rows_modPos p f).trans (Work.rows_selectOrHold _ p), fun c => ?_⟩
    have bare := (c.soundAll p).bare (by rw [state]; decide) (by rw [state]; decide)
    have unlisted := (c.soundAll p).not_waits (by rw [state]; decide) (by rw [state]; decide)
    have service := c.service (p := p) (by rw [state]; decide)
    refine (c.modBare bare (after bare) unlisted (.inr service)).selectOrHold ⟨?_, ?_, unlisted⟩
    · rw [Work.modPos_pos_self]
      exact fuelling
    · rw [Work.modPos_pos_self]
      exact after bare
  have marked : ((v.setMark p).pos p).ses.state = .checking := by
    unfold Work.setMark
    split
    · exact checking
    · exact checking
  have selected := h.setMark.trans (enters (v.setMark p) (fun x =>
    { x with
      ses := { x.ses with
        state := .fuelling, ceiling := min x.ses.initial x.ses.target,
        fuelStamp := some (v.setMark p).station.clock },
      tmr := { x.tmr with ramp := some Config.tickMs } }) marked rfl fun b => b.same_names rfl rfl rfl rfl)
  unfold Work.enterFuelling
  dsimp only
  have clock : (v.setMark p).station.clock = v.station.clock := by
    unfold Work.setMark
    split <;> rfl
  rw [clock] at selected
  split
  · exact selected.addCause
  · exact selected

theorem checkExpiry (h : s.Keeps v.toState) {p} (checking : (v.pos p).ses.state = .checking) :
    s.Keeps (v.checkExpiry p).toState := by
  unfold Work.checkExpiry
  dsimp only
  split
  · exact h.modPos.endFill
  · split
    · exact h.modPos.endFill
    · split
      · exact h.modPos.modPos.endFill
      · refine h.modPos.modPos.enterFuelling ?_
        rw [Work.modPos_pos_self, Work.modPos_pos_self]
        exact checking

theorem seated (h : s.Keeps v.toState) {p} (done : (v.pos p).ses.state = .done) :
    s.Keeps (v.modPos p Position.enterIdle).toState :=
  h.trans (Work.keeps_modBare (by rw [done]; decide) (by rw [done]; decide) (by rw [done]; decide)
    (fun _ => Position.enterIdle_bare _) (.inl rfl))

/-- From VENTING to DONE, and to IDLE with the nozzle seated (05, R102). -/
theorem finish (h : s.Keeps v.toState) {p} (venting : (v.pos p).ses.state = .venting) :
    s.Keeps (v.finish p).toState := by
  have done : s.Keeps ((v.modPos p Position.toDone).raisePos p).toState :=
    (h.trans (Work.keeps_modBare (by rw [venting]; decide) (by rw [venting]; decide) (by rw [venting]; decide)
      (fun b => b.same_names rfl rfl rfl rfl) (.inr (.inl (by rw [venting]; decide))))).raise
  unfold Work.finish
  dsimp only
  split
  · refine done.seated ?_
    show ((v.modPos p Position.toDone).pos p).ses.state = .done
    rw [Work.modPos_pos_self]
    rfl
  · exact done

theorem ventExpiry (h : s.Keeps v.toState) {p} (venting : (v.pos p).ses.state = .venting) :
    s.Keeps (v.ventExpiry p).toState := by
  have closed := h.modPos (p := p) (f := fun x => { x with ses.vent := .closed, tmr.vent := none })
  have state : ((v.modPos p (fun x => { x with ses.vent := .closed, tmr.vent := none })).pos p).ses.state =
      .venting := by
    rw [Work.modPos_pos_self]
    exact venting
  rw [Work.ventExpiry_eq]
  generalize v.modPos p (fun x => { x with ses.vent := .closed, tmr.vent := none }) = u at closed state ⊢
  cases (v.pos p).ses.boundHold with
  | none => exact closed.finish state
  | some x =>
    refine closed.settle.raise.finish ?_
    rw [← state]
    unfold State.pos
    rw [← (u.settle_frame x (v.pos p).ses.endReason).2]
    rfl

/-! ### Precooling -/

theorem tickReserve (h : s.Keeps v.toState) {l} : s.Keeps (v.tickReserve l).toState := by
  unfold Work.tickReserve
  dsimp only
  split
  · exact h.modLoop.raise
  · exact h.modLoop

/-- An OFF chiller that finds no power joins the waiting order, which it is not in (04, R72). -/
theorem claimChiller (h : s.Keeps v.toState) {l} (off : (v.loop l).chiller = .off) :
    s.Keeps (v.claimChiller l).toState := by
  have out : (v.loop l).chiller ≠ .waitingPower := by rw [off]; decide
  have runs := v.switch_not_waiting l (c := .running) (by decide)
  refine h.trans ?_
  unfold Work.claimChiller
  split
  · exact (v.aside_modLoop l rfl rfl).keeps
      ⟨id, id, fun w => w.stand out rfl runs (v.switch_others l .running)⟩
  · have a := v.aside_modLoop l (f := Loop.switch .waitingPower) rfl rfl
    exact State.Aside.keeps ⟨a.bank, a.comp, a.active, a.pos, a.waits, a.loop, a.phase⟩
      ⟨id, id, fun w => w.join out rfl (v.switch_self l .waitingPower) (v.switch_others l .waitingPower)⟩

theorem stopChiller (h : s.Keeps v.toState) {l} : s.Keeps (v.stopChiller l).toState := by
  have a := v.aside_modLoop l (f := Loop.switch .off) rfl rfl
  have off := v.switch_not_waiting l (c := .off) (by decide)
  refine h.trans ?_
  unfold Work.stopChiller
  dsimp only
  split
  · next running =>
    exact a.keeps ⟨id, id, fun w => w.stand (by rw [running]; decide) rfl off (v.switch_others l .off)⟩
  · exact State.Aside.keeps ⟨a.bank, a.comp, a.active, a.pos, a.waits, a.loop, a.phase⟩
      ⟨id, id, fun w => w.leave rfl off (v.switch_others l .off)⟩

theorem tickChiller (h : s.Keeps v.toState) {l} : s.Keeps (v.tickChiller l).toState := by
  unfold Work.tickChiller
  dsimp only
  split
  · next off =>
    split
    · exact h.claimChiller off
    · exact h
  · split
    · exact h.stopChiller
    · exact h

theorem tickBand (h : s.Keeps v.toState) {l} : s.Keeps (v.tickBand l).toState := by
  unfold Work.tickBand
  dsimp only
  split
  · exact h
  · split
    · exact (h.modLoop.each fun _ _ g => g.modPos).each fun _ _ g => g.removeCause
    · exact h.modLoop.each fun _ _ g => g.modPos

theorem tickLoss (h : s.Keeps v.toState) {l} : s.Keeps (v.tickLoss l).toState := by
  unfold Work.tickLoss
  dsimp only
  generalize (if (v.loop l).band ≠ .lost then 0 else _ : Nat) = loss
  split
  · exact (h.modLoop.each fun _ _ g => g.addCause).raise
  · exact h.modLoop

theorem precoolTick (h : s.Keeps v.toState) {l} : s.Keeps (v.precoolTick l).toState :=
  h.tickReserve.tickChiller.tickBand.tickLoss.serveQueue

theorem startTicks (h : s.Keeps v.toState) : s.Keeps v.startTicks.toState := by
  unfold Work.startTicks Work.computeBands
  exact (h.each fun _ _ g => g.modLoop).each fun _ _ g => g.modLoop

end State.Keeps

end Sys2Proof.Machine
end

section
/-! SUPPORT. `State.Keeps` through station control, CLEAR, verbs, writes and whole commands. -/
namespace Sys2Proof.Machine

/-! ### The halt of every block -/

theorem Compressor.RowHolds.halted {k : Compressor} (h : k.RowHolds) : k.halted.RowHolds := by
  unfold Compressor.halted
  split
  · exact Compressor.unload_row k
  · exact h

theorem Compressor.RowHolds.cleared {k : Compressor} (h : k.RowHolds) : k.cleared.RowHolds := by
  unfold Compressor.cleared
  split
  · exact h
  · simp [Compressor.RowHolds, Compressor.active]

theorem Bank.RowHolds.halted {k : Bank} (h : k.RowHolds) (clock : Clock) (n : Nat) :
    (k.halted clock n).RowHolds := by
  unfold Bank.halted
  split
  · next claimed =>
    refine Bank.enterReady_row (h.unisolated fun e => ?_) clock n
    rw [Bank.claimed_iff, e] at claimed
    simp at claimed
  · exact h

/-- No bank has a claimant once the claimed ones are READY (02, R38, R39). -/
theorem Bank.RowHolds.halted_unclaimed {k : Bank} (h : k.RowHolds) (clock : Clock) (n : Nat) :
    (k.halted clock n).claimant = none := by
  unfold Bank.halted
  split
  · rfl
  · next free =>
    rw [Bank.claimed_iff, not_or] at free
    exact h.unclaimed free.1 free.2

/-- With no bank claimed, no compressor active and no session with a bank, custody holds. -/
theorem State.Custody.of_unclaimed {s : State} (comps : s.CompRows) (banks : s.BankRows)
    (unclaimed : ∀ b, (s.bank b).claimant = none) (inactive : ∀ k, (s.comp k).active = false)
    (bare : ∀ p, (s.pos p).Bare) (unlisted : ∀ p, s.waits p = false)
    (idle : s.station.phase = .setup → ∀ p, (s.pos p).ses.state = .idle)
    (loops : ∀ l, ((s.loop l).grants ++ (s.loop l).queue).Nodup) : s.Custody none where
  comps := comps
  banks := banks
  posClaims := fun b p => by
    rw [unclaimed]
    exact iff_of_false (by simp) ((bare p).names b)
  compClaims := fun b k => by
    rw [unclaimed, (comps k).bank_none (inactive k)]
    simp
  sound := fun p _ => (bare p).sound fun e => by rw [unlisted p] at e; cases e
  unlisted := fun p _ => unlisted p
  idle := idle
  quiet := fun _ => inactive
  loops := loops

/-- A session halted with the other blocks halted has no bank. -/
theorem Work.Halted.haltSession_bare {w : Work} (h : w.Halted) {p : PosId}
    (bare : (w.pos p).ses.state ≠ .pulsing → (w.pos p).ses.state ≠ .fuelling → (w.pos p).Bare) :
    ((w.haltSession p).pos p).Bare := by
  unfold Work.haltSession
  split
  · unfold Work.undoAuthorise
    dsimp only
    rw [Work.modPos_pos_self]
    exact Position.enterIdle_bare _
  · unfold Work.endFill
    split
    · have marked := h.modPos p (Position.markEnd .stationHalt w.station.clock)
      have released := marked.modPos p (fun y => { y with ses := { y.ses with current := none, staged := none } })
      unfold Work.endCore
      dsimp only
      rw [marked.releaseNamed, released.leaveWaitList, released.leaveLoop, Work.modPos_pos_self, Work.modPos_pos_self]
      exact Position.startVent_bare rfl rfl
    · next dead =>
      exact bare (fun e => dead (by rw [e]; rfl)) (fun e => dead (by rw [e]; rfl))

theorem Work.Halted.sessions_bare {w : Work} (h : w.Halted)
    (bare : ∀ p, (w.pos p).ses.state ≠ .pulsing → (w.pos p).ses.state ≠ .fuelling → (w.pos p).Bare) (p : PosId) :
    ((Work.each Work.haltSession allPositions w).pos p).Bare := by
  refine (Work.each_establishes (f := Work.haltSession) allPositions_nodup (mem_allPositions p)
    (fun v => v.Halted ∧ v.pos p = w.pos p) (fun v => v.Halted ∧ (v.pos p).Bare) ?_ ?_ ?_ w ⟨h, rfl⟩).2
  · rintro q other v ⟨hv, pos⟩
    obtain ⟨work, others⟩ := hv.haltSession q
    exact ⟨hv.of_sessionWork work, (others p (Ne.symm other)).trans pos⟩
  · rintro v ⟨hv, pos⟩
    exact ⟨hv.of_sessionWork (hv.haltSession p).1, hv.haltSession_bare (by rw [pos]; exact bare p)⟩
  · rintro q other v ⟨hv, done⟩
    obtain ⟨work, others⟩ := hv.haltSession q
    exact ⟨hv.of_sessionWork work, by rw [others p (Ne.symm other)]; exact done⟩

theorem Work.keeps_haltAll (w : Work) : w.Keeps w.haltAll.toState := by
  have halts := w.haltAll_haltsAll
  have comps : w.CompRows → w.haltAll.CompRows := fun h k => by
    rw [halts.comp]
    exact (h k).halted
  have banks : w.BankRows → w.haltAll.BankRows := fun h b => by
    rw [halts.bank]
    exact (h b).halted _ _
  refine ⟨⟨comps, banks, fun _ => ?_⟩, fun h => ?_⟩
  · unfold State.WaitingOrder
    rw [halts.powerQueue]
    refine ⟨List.nodup_nil, fun l => ?_⟩
    rw [halts.loop]
    simp [Loop.halted]
  · refine State.Custody.of_unclaimed (comps h.comps) (banks h.banks) (fun b => ?_) (fun k => ?_) ?_ (fun p => ?_)
      (fun setup p => ?_) (fun l => ?_)
    · rw [halts.bank]
      exact (h.banks b).halted_unclaimed _ _
    · rw [halts.comp]
      exact Compressor.halted_active _
    · obtain ⟨blocks, positions, _⟩ := w.blocksHalted
      refine blocks.halted.sessions_bare fun p hp hf => ?_
      have same : w.haltBanks.haltComps.haltLoops.pos p = w.pos p := by
        unfold State.pos
        rw [positions]
      rw [same] at hp hf ⊢
      exact (h.soundAll p).bare hp hf
    · unfold State.waits
      rw [halts.waitList]
      rfl
    · rw [halts.station] at setup
      have idle := h.idle setup p
      rw [(halts.pos p).rest (.inl idle)]
      exact idle
    · rw [halts.loop]
      exact List.nodup_nil

theorem Work.keeps_clearAll (w : Work) : w.Keeps w.clearAll.toState := by
  have clears := w.clearAll_clearsAll
  have comps : w.CompRows → w.clearAll.CompRows := fun h k => by
    rw [clears.comp]
    exact (h k).cleared
  have banks : w.BankRows → w.clearAll.BankRows := fun h b => by
    rw [clears.bank]
    exact (h b).halted _ _
  have station : w.clearAll.station = w.station := by rw [clears.frame]
  refine ⟨⟨comps, banks, fun ⟨once, agree⟩ => ?_⟩, fun h => ?_⟩
  · have order : w.clearAll.powerQueue = w.powerQueue := by rw [clears.frame]
    unfold State.WaitingOrder
    rw [order]
    refine ⟨once, fun l => ?_⟩
    rw [clears.loop, agree l]
    rfl
  · refine State.Custody.of_unclaimed (comps h.comps) (banks h.banks) (fun b => ?_) (fun k => ?_) (fun p => ?_)
      (fun p => ?_) (fun setup p => ?_) (fun l => ?_)
    · rw [clears.bank]
      exact (h.banks b).halted_unclaimed _ _
    · rw [clears.comp]
      exact Compressor.cleared_active _
    · rw [clears.pos]
      unfold Position.cleared
      split
      · next idle => exact (h.soundAll p).bare (by rw [idle]; decide) (by rw [idle]; decide)
      · exact Position.enterIdle_bare _
    · unfold State.waits
      rw [clears.frame]
      rfl
    · rw [station] at setup
      rw [clears.pos]
      unfold Position.cleared
      rw [if_pos (h.idle setup p)]
      exact h.idle setup p
    · rw [clears.loop]
      exact List.nodup_nil

/-! ### Compressors' timers and faults -/

theorem Work.keeps_faultComp (w : Work) (k : CompId) : w.Keeps (w.faultComp k).toState where
  toRowsKept := by
    have faulted : w.RowsKept ((w.modComp k Compressor.fault).raise 12).releasedDraw.toState :=
      (w.rows_modComp k fun _ => Compressor.fault_row _).trans (Work.keeps_raise _ 12).toRowsKept
    unfold Work.faultComp
    dsimp only
    split
    · split
      · exact faulted.trans (Work.rows_giveBack _ k _)
      · exact faulted
    · exact faulted
  custody := fun h => by
    have g := w.compGone_modComp k (f := Compressor.fault) (Compressor.fault_row _) rfl
    have gone : ∀ v : Work, v.toState = ((w.modComp k Compressor.fault).raise 12).toState → Work.CompGone k w v := by
      intro v hv
      have comp : ∀ j, v.comp j = (w.modComp k Compressor.fault).comp j := fun j => by rw [hv]; rfl
      exact ⟨by rw [hv]; rfl, by rw [hv]; rfl, by rw [hv]; rfl, by rw [hv]; rfl, by rw [hv]; rfl,
        fun j e => (comp j).trans (g.others j e), by rw [comp]; exact g.row, by rw [comp]; exact g.gone⟩
    unfold Work.faultComp
    dsimp only
    cases bank : (w.comp k).bank with
    | none =>
      split
      · exact (gone _ rfl).custody h bank
      · exact (gone _ rfl).custody h bank
    | some b =>
      rw [if_pos ((h.comps k).active bank)]
      exact (gone ((w.modComp k Compressor.fault).raise 12).releasedDraw rfl).giveBack h bank

/-- The start timer's expiry (03, R52). -/
theorem Work.keeps_startExpiry {w : Work} {k : CompId} (starting : (w.comp k).state = .starting) :
    w.Keeps (w.startExpiry k).toState := by
  have runs : w.Keeps (w.modComp k (fun c => { c with state := .running, startTimer := none })).toState := by
    refine (w.aside_modComp k rfl ?_).keeps (w.rows_modComp k fun ⟨bank, _, unload⟩ => ⟨?_, rfl, ?_⟩)
    · unfold Compressor.active
      rw [starting]
      rfl
    · rw [bank]
      unfold Compressor.active
      rw [starting]
      rfl
    · show (w.comp k).unloadTimer.isSome = false
      rw [unload, starting]
      rfl
  unfold Work.startExpiry
  dsimp only
  split
  · split
    · exact runs.trans (Work.keeps_completeRefill _ k)
    · exact runs
  · exact runs

/-- The unload timer's expiry (03, R54). -/
theorem Work.keeps_unloaded {w : Work} {k : CompId} (unloading : (w.comp k).state = .unloading) :
    w.Keeps (w.modComp k (fun c => { c with state := .stopped, unloadTimer := none })).toState := by
  refine (w.aside_modComp k rfl ?_).keeps (w.rows_modComp k fun ⟨bank, start, _⟩ => ⟨?_, ?_, rfl⟩)
  · unfold Compressor.active
    rw [unloading]
    rfl
  · rw [bank]
    unfold Compressor.active
    rw [unloading]
    rfl
  · show (w.comp k).startTimer.isSome = false
    rw [start, unloading]
    rfl

theorem Work.keeps_clearFault {w : Work} {k : CompId} (faulted : (w.comp k).state = .faulted) :
    w.Keeps (w.clearFaultVerb k).toState := by
  refine (w.aside_modComp k (f := fun c => { c with state := .stopped }) rfl ?_).keeps
    (w.rows_modComp k fun ⟨bank, start, unload⟩ => ⟨?_, ?_, ?_⟩)
  · unfold Compressor.active
    rw [faulted]
    rfl
  · rw [bank]
    unfold Compressor.active
    rw [faulted]
    rfl
  · show (w.comp k).startTimer.isSome = false
    rw [start, faulted]
    rfl
  · show (w.comp k).unloadTimer.isSome = false
    rw [unload, faulted]
    rfl

theorem State.Keeps.yieldWaitExpiry {s : State} {v : Work} (h : s.Keeps v.toState) {p} :
    s.Keeps (v.yieldWaitExpiry p).toState := by
  have marked := h.mapWaitList (f := fun e => if e.pos == p then { e with yieldTimer := none, waited := true } else e)
    fun e => by split <;> rfl
  unfold Work.yieldWaitExpiry
  dsimp only
  split
  · exact marked
  · split
    · exact marked.trans (Work.keeps_yieldAtExpiry _ _)
    · exact marked

/-! ### Verbs -/

/-- In SETUP no bank is claimed. -/
theorem State.Custody.setup_unclaimed {s : State} {late : Option PosId} (h : s.Custody late)
    (setup : s.station.phase = .setup) (onTime : late = none) (b : BankId) : (s.bank b).claimant = none := by
  subst onTime
  cases claimed : (s.bank b).claimant with
  | none => rfl
  | some c =>
    cases c with
    | pos p =>
      have idle := h.idle setup p
      exact absurd ((h.posClaims b p).mp claimed)
        (((h.soundAll p).bare (by rw [idle]; decide) (by rw [idle]; decide)).names b)
    | comp k =>
      have active := (h.comps k).active ((h.compClaims b k).mp claimed)
      rw [h.quiet setup k] at active
      cases active

/-- The phase becomes SERVICE (10, R176). -/
theorem Work.keeps_toService (w : Work) : w.Keeps (w.modStation (fun x => { x with phase := .service })).toState :=
  State.Aside.keeps { State.Aside.refl w.toState with phase := fun e => (by cases e) } (.of_eq rfl rfl rfl rfl)

theorem Work.aside_each {α : Type} {f : α → Work → Work} (step : ∀ x (w : Work), w.Aside (f x w).toState) (xs : List α)
    (w : Work) : w.Aside (Work.each f xs w).toState :=
  Work.each_keeps (fun v u => v.Aside u.toState) (fun v => .refl v.toState) (fun h g => h.trans g) f step xs w

/-- A loop in SETUP (04, R83). -/
def Loop.setUp (x : Loop) : Loop := { x with tick := none, chiller := .off, loss := 0 }

theorem Work.keeps_setupVerb {w : Work} (idle : ∀ p, (w.pos p).ses.state = .idle)
    (quiet : ∀ k, (w.comp k).active = false) : w.Keeps w.setupVerb.toState := by
  have off : ∀ l, ((Work.each (fun l v => v.modLoop l Loop.setUp) allLoops
      (w.modStation (fun x => { x with phase := .setup }))).loop l).chiller = .off := fun l => by
    refine Work.each_establishes (f := fun l v => v.modLoop l Loop.setUp) allLoops_nodup (mem_allLoops l)
      (fun _ => True) (fun v => (v.loop l).chiller = .off) (fun _ _ _ _ => trivial) (fun v _ => ?_)
      (fun m other v h => ?_) _ trivial
    · rw [Work.modLoop_loop_self]
      rfl
    · rw [Work.modLoop_loop_ne v _ (Ne.symm other)]
      exact h
  have frame : (w.modStation (fun x => { x with phase := .setup })).LoopWork
      (Work.each (fun l v => v.modLoop l Loop.setUp) allLoops (w.modStation (fun x => { x with phase := .setup }))) :=
    Work.each_keeps Work.LoopWork (fun _ => rfl) .trans (fun l v => v.modLoop l Loop.setUp) (fun _ _ => rfl) _ _
  have aside := Work.aside_each (f := fun l v => v.modLoop l Loop.setUp) (fun l v => v.aside_modLoop l rfl rfl) allLoops
    (w.modStation (fun x => { x with phase := .setup }))
  have verb : w.setupVerb = { Work.each (fun l v => v.modLoop l Loop.setUp) allLoops
    (w.modStation (fun x => { x with phase := .setup })) with powerQueue := [] } := rfl
  rw [verb]
  generalize Work.each (fun l v => v.modLoop l Loop.setUp) allLoops
    (w.modStation (fun x => { x with phase := .setup })) = u at off frame aside ⊢
  unfold Work.LoopWork at frame
  have comps : u.comps = w.comps := by rw [frame]; rfl
  have banks : u.banks = w.banks := by rw [frame]; rfl
  have comp : ∀ k, u.comp k = w.comp k := fun k => by unfold State.comp; rw [comps]
  have bank : ∀ b, u.bank b = w.bank b := fun b => by unfold State.bank; rw [banks]
  have rows : w.RowsKept ({ u with powerQueue := [] } : Work).toState :=
    ⟨fun h k => (comp k).symm ▸ h k, fun h b => (bank b).symm ▸ h b,
      fun _ => ⟨List.nodup_nil, fun l => by
        show l ∈ [] ↔ (u.loop l).chiller = .waitingPower
        rw [off l]
        simp⟩⟩
  refine ⟨rows, fun h => ?_⟩
  have setUp : (w.modStation (fun x => { x with phase := .setup })).Custody none :=
    { h with idle := fun _ => idle, quiet := fun _ => quiet }
  have asideAll : (w.modStation (fun x => { x with phase := .setup })).Aside
      ({ u with powerQueue := [] } : Work).toState :=
    ⟨aside.bank, aside.comp, aside.active, aside.pos, aside.waits, aside.loop, aside.phase⟩
  exact asideAll.custody_of rows.comps rows.banks setUp

theorem orFail_isEmpty (ok : Bool) (r : Result) : (orFail ok r).isEmpty = ok := by
  unfold orFail
  cases ok <;> rfl

theorem noneFails_append (a b : List Result) : (a ++ b).isEmpty = (a.isEmpty && b.isEmpty) := by
  cases a <;> rfl

theorem setupFails_passed {s : State} (ok : (setupFails s).isEmpty = true) :
    (∀ p, (s.pos p).ses.state = .idle) ∧ ∀ k, (s.comp k).active = false := by
  unfold setupFails at ok
  rw [noneFails_append, orFail_isEmpty, orFail_isEmpty] at ok
  simp only [Bool.and_eq_true, List.all_eq_true, beq_iff_eq, Bool.not_eq_true'] at ok
  obtain ⟨_, ⟨idle, quiet⟩, _⟩ := ok
  refine ⟨fun p => idle p (mem_allPositions p), fun k => ?_⟩
  have calm := quiet k (mem_allComps k)
  unfold Compressor.busy at calm
  exact (Bool.or_eq_false_iff.mp calm).1

/-- The bank of a RESTORE returns to READY (02, R30). -/
theorem Work.keeps_restoreVerb {w : Work} {b : BankId} (isolated : (w.bank b).state = .isolated) :
    w.Keeps (w.restoreVerb b).toState := by
  have hands := (w.modBank b (fun k => { k with isolation := none })).hands_freeBank b
  obtain ⟨positions, list, station⟩ := (w.modBank b (fun k => { k with isolation := none })).freeBank_lists b
  have others : ∀ c, c ≠ b → ((w.modBank b (fun k => { k with isolation := none })).freeBank b).bank c = w.bank c :=
    fun c e => (hands.others c e).trans (Work.modBank_bank_ne w _ e)
  have row : (((w.modBank b (fun k => { k with isolation := none })).freeBank b).bank b).RowHolds :=
    Work.freeBank_row (by rw [Work.modBank_bank_self])
  have rows : w.RowsKept ((w.modBank b (fun k => { k with isolation := none })).freeBank b).toState :=
    .of_bank b hands.comps hands.loops hands.powerQueue others fun _ => row
  refine State.Keeps.trans ⟨rows, fun h => ?_⟩ (Work.keeps_offerBank _ b)
  have unclaimed := (h.banks b).unclaimed (by rw [isolated]; decide) (by rw [isolated]; decide)
  have pos : ∀ p, ((w.modBank b (fun k => { k with isolation := none })).freeBank b).pos p = w.pos p := fun p => by
    unfold State.pos; rw [positions]; rfl
  refine State.Aside.custody
    { bank := fun c => ?_, comp := fun k => ?_, active := fun k => ?_, pos := fun p => ?_, waits := fun p => ?_,
      loop := fun l => ?_, phase := ?_ } rows h
  · by_cases e : c = b
    · rw [e, Work.freeBank_bank, unclaimed]
      rfl
    · rw [others c e]
  · unfold State.comp; rw [hands.comps]; rfl
  · unfold State.comp; rw [hands.comps]; rfl
  · rw [pos]; exact .refl _
  · unfold State.waits; rw [list]; exact id
  · unfold State.loop; rw [hands.loops]; exact ⟨rfl, rfl⟩
  · rw [station]; exact id

/-- AUTHORISE of an IDLE position in SERVICE (05, R91). -/
theorem Work.keeps_authoriseVerb {w : Work} {p : PosId} (idle : (w.pos p).ses.state = .idle)
    (service : w.station.phase ≠ .setup) (n : Nat) : w.Keeps (w.authoriseVerb p n).toState := by
  unfold Work.authoriseVerb
  split
  · exact .refl _
  · next x _ =>
    have bound : w.Keeps (w.bindHold p x).toState := by
      unfold Work.bindHold
      exact (State.Keeps.refl w.toState).modHold.modPos
    have boundIdle : ((w.bindHold p x).pos p).ses.state = .idle := by
      unfold Work.bindHold
      rw [Work.modPos_pos_self]
      exact idle
    have boundService : (w.bindHold p x).station.phase ≠ .setup := service
    generalize w.bindHold p x = u at bound boundIdle boundService
    have fresh : w.Keeps (u.modPos p (fun y => { y with ses := y.ses.afresh x y.cfg.cls.firstTier })).toState :=
      bound.trans (Work.keeps_modBare (by rw [boundIdle]; decide) (by rw [boundIdle]; decide)
        (by rw [boundIdle]; decide) (fun b => ⟨rfl, rfl, b.supply, b.pulse⟩) (.inr (.inr boundService)))
    dsimp only
    split
    · refine fresh.couple ?_
      rw [Work.modPos_pos_self]
      rfl
    · exact fresh.modPos

theorem Work.keeps_verbApply {w : Work} {x : Verb} {args : List Byte}
    (ok : (verbFails x args w.toState).isEmpty = true) : w.Keeps (w.verbApply x args).toState := by
  have start := State.Keeps.refl w.toState
  cases x with
  | start => exact (start.trans w.keeps_toService).startTicks.oweEval
  | setup =>
    obtain ⟨idle, quiet⟩ := setupFails_passed ok
    exact Work.keeps_setupVerb idle quiet
  | resume =>
    show w.Keeps w.resumeVerb.toState
    unfold Work.resumeVerb
    dsimp only
    split
    · exact start.modStation.oweEval.startTicks
    · exact start.modStation.oweEval
  | clear => exact w.keeps_clearAll
  | isolate b => exact start.isolateBank
  | restore b =>
    refine Work.keeps_restoreVerb ?_
    unfold verbFails restoreFails at ok
    dsimp only at ok
    rw [orFail_isEmpty] at ok
    simp only [Bool.and_eq_true, beq_iff_eq] at ok
    exact ok.1.1.1.1
  | refill b => exact start.joinQueue
  | cancelRefill b => exact w.keeps_leaveQueue b
  | withhold k => exact start.modComp
  | release k => exact start.modComp.oweEval
  | clearFault k =>
    refine Work.keeps_clearFault ?_
    unfold verbFails clearFaultFails at ok
    dsimp only at ok
    rw [orFail_isEmpty] at ok
    simp only [Bool.and_eq_true, beq_iff_eq] at ok
    exact ok.1
  | authorise p =>
    unfold verbFails authoriseFails at ok
    dsimp only at ok
    simp only [noneFails_append, orFail_isEmpty, Bool.and_eq_true, beq_iff_eq, bne_iff_ne] at ok
    obtain ⟨⟨⟨service, _⟩, _, idle⟩, _⟩ := ok
    exact Work.keeps_authoriseVerb idle (by rw [service]; decide) _
  | stop p =>
    show w.Keeps (w.stopVerb p).toState
    unfold Work.stopVerb
    split
    · next authorised => exact start.undoAuthorise authorised
    · exact start.endFill
  | pause p => exact start.addCause
  | continue_ p => exact start.removeCause
  | ack => exact .of_eq rfl rfl rfl rfl rfl (fun _ => id) rfl

theorem Work.keeps_retireHold (w : Work) (h : HoldId) : w.Keeps (w.retireHold h).toState := by
  unfold Work.retireHold
  dsimp only
  split
  · exact .of_eq rfl rfl rfl rfl rfl (fun _ => id) rfl
  · exact (State.Keeps.refl w.toState).modHold

/-! ### Writes -/

namespace State.Keeps
variable {s : State} {v : Work}

theorem allowanceWrite (h : s.Keeps v.toState) {n} : s.Keeps (v.allowanceWrite n).toState := by
  unfold Work.allowanceWrite
  dsimp only
  split
  · exact h.modStation.releasedDraw
  · split
    · exact (h.modStation.trans (Work.keeps_shed 4 _)).raise
    · exact h.modStation

theorem stationWrite (h : s.Keeps v.toState) {field n} : s.Keeps (v.stationWrite field n).toState := by
  unfold Work.stationWrite
  split
  case h_2 => exact h.allowanceWrite
  case h_3 => exact h.modStation.mapWaitList fun _ => rfl
  case h_11 => exact h.trans (.of_eq rfl rfl rfl rfl rfl (fun _ => id) rfl)
  case h_12 => exact h
  all_goals exact h.modStation

theorem checkRated (h : s.Keeps v.toState) {b} : s.Keeps (v.checkRated b).toState := by
  unfold Work.checkRated
  split
  · exact h.isolateBank
  · exact h

theorem joinedIf (h : s.Keeps v.toState) {c : Prop} {_ : Decidable c} {b} :
    s.Keeps (if c then v.joinQueue b else v).toState := by
  split
  · exact h.joinQueue
  · exact h

/-- An UNUSED bank enters READY (02, R20). -/
theorem readied (h : s.Keeps v.toState) {b} (unused : (v.bank b).state = .unused) :
    s.Keeps (v.makeReady b).toState := by
  have row : v.RowsKept (v.makeReady b).toState :=
    v.rows_modBank b fun r => Bank.enterReady_row (r.unisolated (by rw [unused]; decide)) _ _
  refine h.trans ⟨row, fun c => ?_⟩
  have unclaimed := (c.banks b).unclaimed (by rw [unused]; decide) (by rw [unused]; decide)
  exact (v.aside_modBank b unclaimed.symm).custody row c

theorem newTier (h : s.Keeps v.toState) {b} (unused : (v.bank b).state = .unused) : s.Keeps (v.newTier b).toState := by
  have ready := h.readied unused
  unfold Work.newTier
  dsimp only
  split
  · exact ready.joinedIf.isolateBank
  · split
    · exact ready.joinedIf.isolateBank
    · split
      · exact ready.joinedIf.isolateBank
      · exact ready.joinedIf

/-- Marks and rated pressure are no part of custody. -/
theorem loaded (h : s.Keeps v.toState) {b : BankId} {f : Bank → Bank} {n : Fin 4}
    (row : ∀ x : Bank, x.RowHolds → (f x).RowHolds := by exact fun _ r => r.of_eq rfl rfl rfl rfl rfl)
    (claimant : ∀ x : Bank, (f x).claimant = x.claimant := by exact fun _ => rfl) :
    s.Keeps (v.modBank b (fun x => (f x).loadMarks n)).toState :=
  h.modBank claimant fun x r => (row x r).of_eq rfl rfl rfl rfl rfl

theorem tierWrite (h : s.Keeps v.toState) {b t} (setup : v.station.phase = .setup) :
    s.Keeps (v.tierWrite b t).toState := by
  unfold Work.tierWrite
  dsimp only
  split
  · split
    · exact h
    · have row : v.RowsKept (v.modBank b Bank.toUnused).toState := v.rows_modBank b fun _ => Bank.toUnused_row _
      refine (h.trans ⟨row, fun c => ?_⟩).trans (Work.keeps_leaveQueue _ b)
      exact (v.aside_modBank b (c.setup_unclaimed setup rfl b).symm).custody row c
  · have tiered : s.Keeps (v.modBank b (fun x =>
        ({ x with tier := t, rated := t.defaultRated }).loadMarks v.station.markProfile)).toState := h.loaded
    split
    · next unused =>
      refine tiered.newTier ?_
      rw [Work.modBank_bank_self]
      exact unused
    · exact tiered.reflag.checkRated

theorem replaceEntry (h : s.Keeps v.toState) {b} : s.Keeps (v.replaceEntry b).toState := by
  unfold Work.replaceEntry
  split
  · exact h
  · exact h.trans (.of_eq rfl rfl rfl rfl rfl (fun _ => id) rfl)

theorem bankWrite (h : s.Keeps v.toState) {b field n} (setup : field = 0 → v.station.phase = .setup) :
    s.Keeps (v.bankWrite b field n).toState := by
  unfold Work.bankWrite
  split
  · exact h.tierWrite (setup rfl)
  · exact h.loaded.reflag.checkRated
  · exact h.modBank.reflag
  · exact h.modBank.reflag
  · exact h.modBank.replaceEntry
  · exact h

theorem compWrite (h : s.Keeps v.toState) {k field n} : s.Keeps (v.modComp k (Compressor.write field n)).toState := by
  have kept : ∀ x : Compressor, (x.write field n).bank = x.bank ∧ (x.write field n).state = x.state ∧
      (x.write field n).startTimer = x.startTimer ∧ (x.write field n).unloadTimer = x.unloadTimer := fun x => by
    unfold Compressor.write
    split <;> exact ⟨rfl, rfl, rfl, rfl⟩
  refine h.modComp (fun x => (kept x).1) (fun x => ?_) fun x r => ?_
  · unfold Compressor.active
    rw [(kept x).2.1]
  · obtain ⟨bank, state, start, unload⟩ := kept x
    exact r.of_eq state bank start unload

theorem loopWrite (h : s.Keeps v.toState) {l field n} : s.Keeps (v.modLoop l (Loop.write field n)).toState := by
  refine h.modLoop (fun x => ?_) (fun x => ?_) (fun x => ?_)
  all_goals
    unfold Loop.write
    split <;> rfl

theorem posWrite (h : s.Keeps v.toState) {p field n} : s.Keeps (v.modPos p (Position.write field n)).toState := by
  refine h.modPos fun x => ?_
  unfold Position.write
  split <;> exact ⟨rfl, rfl, rfl, fun _ => id, id, id⟩

theorem writeField (h : s.Keeps v.toState) {ref field n vals}
    (ok : (fieldFails ref vals field n v.toState).isEmpty = true) : s.Keeps (v.writeField ref field n).toState := by
  have aside : ∀ t : Work, t.banks = v.banks → t.comps = v.comps → t.loops = v.loops → t.powerQueue = v.powerQueue →
      t.positions = v.positions → t.waitList = v.waitList → t.station = v.station → s.Keeps t.toState := by
    intro t hb hk hl ho hp hw hs
    exact h.trans (.of_eq hb hk hl ho hp (fun p => by unfold State.waits; rw [hw]; exact id) (by rw [hs]))
  cases ref with
  | station => exact h.stationWrite
  | bank b =>
    refine h.bankWrite fun tier => ?_
    subst tier
    unfold fieldFails bankFails setupOnly at ok
    simp only [noneFails_append, orFail_isEmpty, Bool.and_eq_true, beq_iff_eq] at ok
    exact ok.1
  | comp k => exact h.compWrite
  | loop l => exact h.loopWrite
  | position p => exact h.posWrite
  | hold x => exact h.modHold
  | tariff i => exact aside _ rfl rfl rfl rfl rfl rfl rfl
  | table i =>
    unfold Work.writeField Work.tableWrite
    dsimp only
    split <;> exact aside _ rfl rfl rfl rfl rfl rfl rfl
  | notice =>
    unfold Work.writeField
    dsimp only
    split
    · exact aside _ rfl rfl rfl rfl rfl rfl rfl
    · exact h

theorem setAll {ref : RecordRef} {vals xs : List (Nat × Nat)} (h : s.Keeps v.toState) :
    s.Keeps (Work.setAll ref vals xs v).2.toState := by
  induction xs generalizing v with
  | nil => exact h
  | cons x xs ih =>
    unfold Work.setAll
    dsimp only
    split
    · next ok => exact ih (h.writeField ok)
    · exact ih h

end State.Keeps

/-! ### Transfers -/

theorem State.keeps_rule {s : State} {f : Work → Work} (h : s.Keeps (f s.begin).toState) : s.Keeps (s.rule f) :=
  h.trans (Work.keeps_close _ s)

/-- A rule that may come about. -/
theorem State.keeps_ruleIf {s : State} {f : Work → Work} {c : Prop} {d : Decidable c}
    (h : c → s.Keeps (f s.begin).toState) : s.Keeps (if c then s.rule f else s) := by
  split
  · next due => exact State.keeps_rule (h due)
  · exact .refl s

/-- The port's own fields, the notices and the answer are no part of custody. -/
theorem State.keeps_answer (s : State) {t : State} (h : t = { s with
    port := t.port, notices := t.notices, hostOut := t.hostOut, freeIndex := t.freeIndex }) : s.Keeps t := by
  rw [h]
  exact .of_eq rfl rfl rfl rfl rfl (fun _ => id) rfl

theorem settleTransfer_keeps {fails : List Result} {f : Work → Work} {s : State}
    (h : fails.isEmpty = true → s.Keeps (f s.begin).toState) : s.Keeps (settleTransfer fails f s).2 := by
  unfold settleTransfer
  split
  · next ok => exact State.keeps_rule (h ok)
  · exact .refl s

theorem judge_keeps (r : Request) (s : State) : s.Keeps (judge r s).2 := by
  have start : s.Keeps s.begin.toState := .refl s
  have stays : s.Keeps s := .refl s
  unfold judge
  split
  · exact stays
  · split
    · exact stays
    · split
      · exact stays
      · split
        · exact stays
        · unfold judgeSet
          split
          · exact stays
          · dsimp only
            split
            · exact start.setAll.trans (Work.keeps_close _ s)
            · exact stays
        · unfold judgeAct
          split
          · exact stays
          · exact settleTransfer_keeps fun ok => Work.keeps_verbApply (w := s.begin) ok
        · unfold judgeOpen
          split
          · exact settleTransfer_keeps fun _ => start.modHold
          · exact stays
        · unfold judgeRetire
          split
          · exact settleTransfer_keeps fun _ => Work.keeps_retireHold s.begin _
          · exact stays
        · unfold judgeSelect
          split
          · exact stays
          · exact s.keeps_answer rfl
        · exact stays

theorem portRequest_keeps (r : Request) (s : State) : s.Keeps (portRequest r s) := by
  unfold portRequest
  split
  · exact s.keeps_answer rfl
  · dsimp only
    split
    · exact s.keeps_answer rfl
    · exact ((s.keeps_answer rfl).trans (judge_keeps r _)).trans (State.keeps_answer _ rfl)

theorem portShort_keeps (n : Nat) (extra : Fin 8) (served : Bool) (s : State) :
    s.Keeps (portShort n extra served s) := by
  unfold portShort
  split
  · exact s.keeps_answer rfl
  · dsimp only
    split
    · exact s.keeps_answer rfl
    · split
      · exact s.keeps_answer rfl
      · exact s.keeps_answer rfl

theorem portBits_keeps (x : Transfer) (s : State) : s.Keeps (portBits x s) := by
  unfold portBits
  split
  · exact portRequest_keeps _ s
  · exact portShort_keeps _ _ _ s

end Sys2Proof.Machine
end

section
/-! The obligations about rows and custody: every command keeps them, so every step does. -/
open Sys2Proof Sys2Proof.Machine
namespace Sys2Proof.Machine

/-! ### The release of master reset -/

theorem State.reset_bank (b : BankId) : State.reset.bank b = Bank.reset := by revert b; decide
theorem State.reset_pos (p : PosId) : State.reset.pos p = Position.reset := by revert p; decide
theorem State.reset_loop (l : LoopId) : State.reset.loop l = Loop.reset := by revert l; decide

theorem State.reset_comp (k : CompId) : (State.reset.comp k).RowHolds ∧ (State.reset.comp k).active = false := by
  unfold Compressor.RowHolds
  revert k
  decide

/-- Custody and the waiting order hold, and no compressor has a bank. -/
structure State.Released (s : State) : Prop where
  custody : s.Custody none
  order : s.WaitingOrder
  bankless : ∀ k, (s.comp k).bank = none

/-- Notices, queue of commands and the free-value counter are no part of it. -/
theorem State.Released.of_eq {s t : State} (h : s.Released) (g : t = { s with
    notices := t.notices, pending := t.pending, freeIndex := t.freeIndex }) : t.Released := by
  rw [g]
  have kept : s.Keeps { s with notices := t.notices, pending := t.pending, freeIndex := t.freeIndex } :=
    .of_eq rfl rfl rfl rfl rfl (fun _ => id) rfl
  exact ⟨kept.custody h.custody, h.order, h.bankless⟩

/-- The machine at the release, whatever the straps and levels (10, R174). -/
theorem State.released_reset (x : Station) : ({ State.reset with station := x } : State).Released where
  custody := by
    refine State.Custody.of_unclaimed (fun k => (State.reset_comp k).1) (fun b => ?_) (fun b => ?_)
      (fun k => (State.reset_comp k).2) (fun p => ?_) (fun _ => rfl) (fun _ p => ?_) (fun l => ?_)
    · show (State.reset.bank b).RowHolds
      rw [State.reset_bank]
      simp [Bank.RowHolds, Bank.reset]
    · show (State.reset.bank b).claimant = none
      rw [State.reset_bank]
      rfl
    · show (State.reset.pos p).Bare
      rw [State.reset_pos]
      exact ⟨rfl, rfl, rfl, rfl⟩
    · show (State.reset.pos p).ses.state = .idle
      rw [State.reset_pos]
      rfl
    · show ((State.reset.loop l).grants ++ (State.reset.loop l).queue).Nodup
      rw [State.reset_loop]
      exact List.nodup_nil
  order := by
    refine ⟨List.nodup_nil, fun l => ?_⟩
    show l ∈ [] ↔ (State.reset.loop l).chiller = .waitingPower
    rw [State.reset_loop]
    simp [Loop.reset]
  bankless := fun k => (State.reset_comp k).1.bank_none (State.reset_comp k).2

/-- A FAULT found active at the release (03, R57). -/
theorem State.Released.resetFault {s : State} (h : s.Released) (k : CompId) : (s.resetFault k).Released := by
  unfold State.resetFault
  split
  · have gone := s.begin.compGone_modComp k (f := Compressor.fault) (Compressor.fault_row _) rfl
    have faulted : (s.begin.modComp k Compressor.fault).toState.Released := by
      refine ⟨gone.custody h.custody (h.bankless k), h.order, fun j => ?_⟩
      by_cases e : j = k
      · rw [e]
        exact gone.gone
      · rw [gone.others j e]
        exact h.bankless j
    exact faulted.of_eq rfl
  · exact h

theorem State.released_releaseReset (st : Straps) : (State.releaseReset st).Released := by
  unfold State.releaseReset
  dsimp only
  split
  · exact (((State.released_reset _).of_eq rfl).resetFault 0).resetFault 1
  · exact ((State.released_reset _).resetFault 0).resetFault 1

/-! ### Commands -/

theorem State.begin_keeps (s : State) : s.Keeps s.begin.toState := .refl s

theorem State.sampleByte_keeps (s : State) (b : Byte) : s.Keeps (s.sampleByte b) := by
  have received : ∀ r, s.Keeps { s with link.rx := r } := fun _ => .of_eq rfl rfl rfl rfl rfl (fun _ => id) rfl
  unfold State.sampleByte
  split
  · split
    · exact received _
    · exact .refl s
  · dsimp only
    split
    · exact received _
    · split
      · exact received _
      · exact (received _).trans (State.keeps_rule (State.begin_keeps _).takeSample)

theorem State.vehicleByte_keeps (p : PosId) (s : State) (b : Byte) : s.Keeps (s.vehicleByte p b) := by
  have received : ∀ r, s.Keeps (s.setRx p r) := fun r =>
    (State.begin_keeps s).modPos (p := p) (f := fun x => { x with rx := r })
  unfold State.vehicleByte
  split
  · split
    · exact received _
    · exact .refl s
  · dsimp only
    split
    · exact received _
    · split
      · exact (received _).trans (State.keeps_rule (State.begin_keeps _).takeVehicle)
      · exact received _

theorem State.keeps_foldl {α : Type} {f : State → α → State} (step : ∀ (s : State) x, s.Keeps (f s x)) (xs : List α)
    (s : State) : s.Keeps (xs.foldl f s) := by
  induction xs generalizing s with
  | nil => exact .refl s
  | cons x xs ih => exact (step s x).trans (ih _)

theorem exec_keeps {c : Instr} {s t : State} (e : exec c s = .next t) : s.Keeps t := by
  have start := s.begin_keeps
  have port : ∀ r, s.Keeps (portRequest r s) := fun r => portRequest_keeps r s
  have written : ∀ {x : State}, x.banks = s.banks → x.comps = s.comps → x.loops = s.loops →
      x.powerQueue = s.powerQueue → x.positions = s.positions → x.waitList = s.waitList →
      x.station.phase = s.station.phase → s.Keeps x := fun hb hk hl ho hp hw hs =>
    .of_eq hb hk hl ho hp (fun p => by unfold State.waits; rw [hw]; exact id) hs
  cases c with
  | sampleFrame bytes => cases e; exact State.keeps_foldl State.sampleByte_keeps bytes s
  | silenceTimerExpiry c => cases e; exact State.keeps_ruleIf fun _ => start.channelLost
  | routeFrameComplete => cases e; exact written rfl rfl rfl rfl rfl rfl rfl
  | masterReset st =>
    cases e
    obtain ⟨custody, order, _⟩ := (State.released_releaseReset st).of_eq
      (t := { State.releaseReset st with pending := s.pending, freeIndex := s.freeIndex }) rfl
    exact ⟨⟨fun _ => custody.comps, fun _ => custody.banks, fun _ => order⟩, fun _ => custody⟩
  | coupledArrival p =>
    cases e
    refine State.keeps_rule ?_
    dsimp only
    split
    · next authorised => exact start.modStation.couple authorised
    · exact start.modStation
  | uncoupledArrival p => cases e; exact State.keeps_rule start.modStation.endFill
  | seatedArrival p =>
    cases e
    refine State.keeps_rule ?_
    dsimp only
    split
    · next done => exact start.modStation.seated done
    · exact start.modStation
  | liftArrival p => cases e; exact written rfl rfl rfl rfl rfl rfl rfl
  | meterPulse p m => cases e; exact State.keeps_rule start.meterPulse
  | vehicleFrame p bytes => cases e; exact State.keeps_foldl (State.vehicleByte_keeps p) bytes s
  | faultActive k => cases e; exact State.keeps_rule (start.modStation.trans (Work.keeps_faultComp _ k))
  | faultInactive k => cases e; exact written rfl rfl rfl rfl rfl rfl rfl
  | esdAsserted =>
    cases e
    refine State.keeps_rule ?_
    dsimp only
    split
    · exact start.modStation.raise.trans (Work.keeps_haltAll _)
    · exact start.modStation.raise
  | esdReleased => cases e; exact written rfl rfl rfl rfl rfl rfl rfl
  | clockSecond => cases e; exact written rfl rfl rfl rfl rfl rfl rfl
  | leakWindowExpiry b =>
    cases e
    split
    · next due =>
      exact s.begin.keeps_modBank b (f := Bank.retakeLeak s.station.clock s.station.leakWindow) rfl
        fun r => r.retakeLeak due.2 _ _
    · exact .refl s
  | yieldWaitExpiry p => cases e; exact State.keeps_ruleIf fun _ => start.yieldWaitExpiry
  | startTimerExpiry k => cases e; exact State.keeps_ruleIf fun due => Work.keeps_startExpiry (w := s.begin) due.2
  | unloadTimerExpiry k => cases e; exact State.keeps_ruleIf fun due => Work.keeps_unloaded (w := s.begin) due.2
  | precoolTick l => cases e; exact State.keeps_ruleIf fun _ => start.precoolTick
  | rampTick p => cases e; exact State.keeps_ruleIf fun due => Work.keeps_rampTick (w := s.begin) due.2
  | connectTimeout p => cases e; exact State.keeps_ruleIf fun due => (start.undoAuthorise due.2).raise
  | coolingTimeout p => cases e; exact State.keeps_ruleIf fun _ => start.endFill
  | bankWaitTimeout p => cases e; exact State.keeps_ruleIf fun _ => start.endFill
  | pulseTimerExpiry p => cases e; exact State.keeps_ruleIf fun due => Work.keeps_endPulse (w := s.begin) due.1
  | checkWindowExpiry p => cases e; exact State.keeps_ruleIf fun due => start.checkExpiry due.2
  | heldTimerExpiry p => cases e; exact State.keeps_ruleIf fun _ => start.endFill
  | ventTimerExpiry p => cases e; exact State.keeps_ruleIf fun due => start.ventExpiry due.2
  | freshnessExpiry p => cases e; exact State.keeps_ruleIf fun _ => start.freshnessExpiry
  | deferralExpiry p =>
    cases e
    refine State.keeps_ruleIf fun _ => ?_
    dsimp only
    split
    · exact start.modPos.applyFallback
    · exact start.modPos
  | stallTimerExpiry p => cases e; exact State.keeps_ruleIf fun _ => start.modPos.endFill
  | summaryTransfer n extra served =>
    cases e
    split
    · exact written rfl rfl rfl rfl rfl rfl rfl
    · exact written rfl rfl rfl rfl rfl rfl rfl
  | noop poll =>
    cases e
    cases poll with
    | silent served => exact portShort_keeps _ _ _ s
    | oneByte b served => exact portShort_keeps _ _ _ s
    | header cls num field tail => exact port _
  | failedTransfer x => cases e; exact portBits_keeps x s
  | _ => cases e; exact port _

theorem step_keeps {s t : State} (e : step s = .next t) : s.Keeps t := by
  unfold step at e
  split at e
  · cases e
    exact .refl s
  · next c rest _ =>
    exact State.Keeps.trans (b := { s with pending := rest }) (.of_eq rfl rfl rfl rfl rfl (fun _ => id) rfl)
      (exec_keeps e)

/-! ### Custody and the laws of one state -/

theorem State.custody_iff (s : State) : s.Custody none ↔ s.BankNaming ∧ s.CompRows ∧ s.BankRows ∧ s.ClaimsAgree ∧
    (s.station.phase = .setup → ∀ k : CompId, (s.comp k).active = false) ∧
    ∀ l : LoopId, ((s.loop l).grants ++ (s.loop l).queue).Nodup := by
  constructor
  · intro h
    exact ⟨fun p => ((Position.sound_iff _ _).mp (h.soundAll p)).1, h.comps, h.banks,
      ⟨h.posClaims, h.compClaims, fun p => ((Position.sound_iff _ _).mp (h.soundAll p)).2, h.idle⟩, h.quiet, h.loops⟩
  · rintro ⟨naming, comps, banks, ⟨posClaims, compClaims, supply, idle⟩, quiet, loops⟩
    exact
      { comps := comps
        banks := banks
        posClaims := posClaims
        compClaims := compClaims
        sound := fun p _ => (Position.sound_iff _ _).mpr ⟨naming p, supply p⟩
        unlisted := fun p e => (by cases e)
        idle := idle
        quiet := quiet
        loops := loops }

end Sys2Proof.Machine

/-- Settles O54: every operation of every rule keeps the rows (`step_keeps`). -/
theorem recordsStayInTheirRows : Obligations.RecordsStayInTheirRows := by
  unfold Obligations.RecordsStayInTheirRows
  intro s t e
  have kept := step_keeps e
  exact ⟨kept.comps, kept.banks, kept.order⟩

/-- Settles O59: the premises are `State.Custody`, which every step keeps, but for the parts of SETUP and of the loops
that custody does not need. -/
theorem claimsAgreeOnBothSides : Obligations.ClaimsAgreeOnBothSides := by
  unfold Obligations.ClaimsAgreeOnBothSides
  intro s t naming comps banks claims setup loops e
  have custody : s.Custody none := s.custody_iff.mpr ⟨naming, comps, banks, claims, fun phase => (setup phase).1,
    fun l => (loops l).2.2.2⟩
  obtain ⟨naming', comps', banks', claims', _, _⟩ := t.custody_iff.mp ((step_keeps e).custody custody)
  exact ⟨naming', comps', banks', claims'⟩
end

section
/-! SUPPORT. What the end of a rule makes of one bank and of one compressor (03, R49 to R51), and what an isolated bank
is when its rule has ended (02, R28). -/
open Sys2Proof Sys2Proof.Machine
namespace Sys2Proof.Machine

/-! ### One bank and one compressor at the end of a rule -/

/-- A bank that leaves the queue leaves every other bank's place. -/
theorem Work.leaveQueue_queued (w : Work) (b c : BankId) :
    (w.leaveQueue b).queued c = (w.queued c && decide (c ≠ b)) := by
  rw [Bool.eq_iff_iff]
  have queue : (w.leaveQueue b).refillQueue = w.refillQueue.filter (fun e => e.bank != b) := rfl
  simp only [State.queued, queue, List.any_filter, List.any_eq_true, Bool.and_eq_true, bne_iff_ne, beq_iff_eq,
    decide_eq_true_eq]
  constructor
  · rintro ⟨x, held, other, rfl⟩
    exact ⟨⟨x, held, rfl⟩, other⟩
  · rintro ⟨⟨x, held, rfl⟩, other⟩
    exact ⟨x, held, other, rfl⟩

/-- What scheduling makes of bank `b`: it stands, and keeps its place in the queue unless it is at its high mark, or it
was READY and a compressor took it. -/
structure Work.Schedules (b : BankId) (w t : Work) : Prop where
  queue : t.queued b = true → w.queued b = true
  bank : (t.bank b = w.bank b ∧ ((w.bank b).pressureAtHigh = false → t.queued b = w.queued b)) ∨
    ((w.bank b).state = .ready ∧ ∃ k, t.bank b = (w.bank b).claim (.comp k))

theorem Work.Schedules.refl (b : BankId) (w : Work) : Work.Schedules b w w := ⟨id, .inl ⟨rfl, fun _ => rfl⟩⟩

theorem Bank.claim_comp_state {k : Bank} (h : k.state = .ready) (c : CompId) :
    (k.claim (.comp c)).state = .refilling := by
  unfold Bank.claim
  rw [if_pos h]
  rfl

theorem Work.Schedules.trans {b : BankId} {w t u : Work} (h : Work.Schedules b w t) (g : Work.Schedules b t u) :
    Work.Schedules b w u where
  queue := fun q => h.queue (g.queue q)
  bank := by
    obtain ⟨same, place⟩ | ⟨ready, k, taken⟩ := h.bank
    · obtain ⟨same', place'⟩ | ⟨ready', taken'⟩ := g.bank
      · rw [same] at place' same'
        exact .inl ⟨same', fun low => (place' low).trans (place low)⟩
      · rw [same] at ready' taken'
        exact .inr ⟨ready', taken'⟩
    · obtain ⟨same', _⟩ | ⟨ready', _⟩ := g.bank
      · exact .inr ⟨ready, k, same'.trans taken⟩
      · rw [taken, Bank.claim_comp_state ready] at ready'
        cases ready'

/-- One entry of the walk (03, R50). -/
theorem Work.schedules_visit (w : Work) (e : QueueEntry) (b : BankId) : Work.Schedules b w (w.visit e) := by
  have leaves : (w.leaveQueue e.bank).queued b = true → w.queued b = true := fun q => by
    rw [Work.leaveQueue_queued, Bool.and_eq_true] at q
    exact q.1
  have stays : b ≠ e.bank → (w.leaveQueue e.bank).queued b = w.queued b := fun other => by
    rw [Work.leaveQueue_queued, decide_eq_true other, Bool.and_true]
  unfold Work.visit
  dsimp only
  split
  · next ready =>
    split
    · next high =>
      refine ⟨leaves, .inl ⟨rfl, fun low => stays ?_⟩⟩
      rintro rfl
      rw [high] at low
      cases low
    · split
      · next k _ =>
        have bank : (w.assign k e.bank).bank b = ((w.leaveQueue e.bank).claimBank (.comp k) e.bank).bank b := rfl
        refine ⟨leaves, ?_⟩
        by_cases other : b = e.bank
        · subst other
          exact .inr ⟨ready, k, bank.trans (Work.claimBank_bank _ _ _)⟩
        · exact .inl ⟨bank.trans (Work.modBank_bank_ne _ _ other), fun _ => stays other⟩
      · exact .refl b w
  · exact .refl b w

theorem Work.schedules_evaluate (w : Work) (b : BankId) : Work.Schedules b w w.evaluate := by
  unfold Work.evaluate
  split
  · exact Work.each_keeps (Work.Schedules b) (.refl b) .trans _ (fun e v => v.schedules_visit e b) _ w
  · exact .refl b w

theorem Work.schedules_wound (w : Work) (b : BankId) : Work.Schedules b w w.wound := by
  have served : Work.Schedules b w (if w.serveDue then w.serveWaiting else w) := by
    have stands := w.serves_serveWaiting
    have queued : w.serveWaiting.queued b = w.queued b := by unfold State.queued; rw [stands.refillQueue]
    have bank : w.serveWaiting.bank b = w.bank b := by unfold State.bank; rw [stands.banks]
    split
    · exact ⟨fun q => queued ▸ q, .inl ⟨bank, fun _ => queued⟩⟩
    · exact .refl b w
  unfold Work.wound
  dsimp only
  split
  · exact served.trans (Work.schedules_evaluate _ b)
  · exact served

/-- The end of a rule at one bank. -/
theorem Work.close_bank (w : Work) (s0 : State) (b : BankId) :
    ((w.close s0).bank b = w.bank b ∧ ((w.bank b).pressureAtHigh = false → (w.close s0).queued b = w.queued b)) ∨
    ((w.bank b).state = .ready ∧ ∃ k, (w.close s0).bank b = (w.bank b).claim (.comp k)) := by
  have scheduled := (w.schedules_wound b).bank
  rw [Work.close_eq]
  split <;> exact scheduled

/-- The end of a rule puts no bank on the queue. -/
theorem Work.close_unqueued {w : Work} {b : BankId} (h : w.queued b = false) (s0 : State) :
    (w.close s0).queued b = false := by
  have scheduled : w.wound.queued b = false :=
    Bool.eq_false_iff.mpr fun q => Bool.eq_false_iff.mp h ((w.schedules_wound b).queue q)
  rw [Work.close_eq]
  split <;> exact scheduled

/-- A bank that is not READY stands through the end of a rule. -/
theorem Work.close_bank_unready {w : Work} {b : BankId} (h : (w.bank b).state ≠ .ready) (s0 : State) :
    (w.close s0).bank b = w.bank b := by
  obtain ⟨same, _⟩ | ⟨ready, _⟩ := w.close_bank s0 b
  · exact same
  · exact absurd ready h

/-- Scheduling takes compressor `k` where it is STOPPED, and leaves it otherwise. -/
def Work.KeepsBusy (k : CompId) (w t : Work) : Prop := (w.comp k).state = .stopped ∨ t.comp k = w.comp k

theorem Work.KeepsBusy.trans {k : CompId} {w t u : Work} (h : Work.KeepsBusy k w t) (g : Work.KeepsBusy k t u) :
    Work.KeepsBusy k w u := by
  obtain stopped | same := h
  · exact .inl stopped
  · obtain stopped | same' := g
    · exact .inl (same ▸ stopped)
    · exact .inr (same'.trans same)

theorem Work.keepsBusy_visit (w : Work) (e : QueueEntry) (k : CompId) : Work.KeepsBusy k w (w.visit e) := by
  unfold Work.visit
  dsimp only
  split
  · split
    · exact .inr rfl
    · split
      · next c chosen =>
        by_cases other : k = c
        · subst other
          exact .inl (State.chooseComp_stopped chosen)
        · exact .inr (Work.modComp_comp_ne _ _ other)
      · exact .inr rfl
  · exact .inr rfl

theorem Work.keepsBusy_evaluate (w : Work) (k : CompId) : Work.KeepsBusy k w w.evaluate := by
  unfold Work.evaluate
  split
  · exact Work.each_keeps (Work.KeepsBusy k) (fun _ => .inr rfl) .trans _ (fun e v => v.keepsBusy_visit e k) _ w
  · exact .inr rfl

/-- A compressor that is not STOPPED stands through the end of a rule. -/
theorem Work.close_comp_busy {w : Work} {k : CompId} (h : (w.comp k).state ≠ .stopped) (s0 : State) :
    (w.close s0).comp k = w.comp k := by
  have served : Work.KeepsBusy k w (if w.serveDue then w.serveWaiting else w) := by
    split
    · exact .inr (congrArg (·.get k) w.serves_serveWaiting.comps)
    · exact .inr rfl
  have scheduled : Work.KeepsBusy k w w.wound := by
    unfold Work.wound
    dsimp only
    split
    · exact served.trans (Work.keepsBusy_evaluate _ k)
    · exact served
  have same : w.wound.comp k = w.comp k := scheduled.resolve_left h
  rw [Work.close_eq]
  split <;> exact same

/-! ### An isolated bank -/

/-- The record of an isolated bank: the yield count is all that is left open (02, R28). -/
theorem Work.isolateBank_bank {w : Work} {b : BankId} (h : (w.bank b).inService = true) (r : IsoReason) :
    ∃ y, (w.isolateBank b r).bank b = { (w.bank b).isolateWith r with yields := y } := by
  obtain ⟨v, told, steps⟩ := Work.isolateBank_steps h r
  have kept := told.bank b
  rw [Work.modBank_bank_self] at kept
  refine ⟨(v.bank b).yields, ?_⟩
  rw [steps]
  exact kept.outOfService rfl

/-- What a rule that isolates a bank in service leaves of it (02, R28). -/
theorem Work.isolateBank_isolated {w : Work} {b : BankId} (h : (w.bank b).inService = true) (r : IsoReason)
    (s0 : State) : let t := (w.isolateBank b r).close s0
    (t.bank b).state = .isolated ∧ (t.bank b).isolation = some r ∧ (t.bank b).claimant = none ∧
      (t.bank b).leakRef = none ∧ (t.bank b).leakTimer = none ∧ t.queued b = false ∧ t.requested 11 := by
  intro t
  obtain ⟨y, bank⟩ := Work.isolateBank_bank h r
  obtain ⟨v, _, steps⟩ := Work.isolateBank_steps h r
  have unready : ((w.isolateBank b r).bank b).state ≠ .ready := by
    rw [bank]
    exact fun ready => by cases ready
  have record : t.bank b = _ := (Work.close_bank_unready unready s0).trans bank
  have off : (w.isolateBank b r).queued b = false := by
    rw [steps]
    show (v.leaveQueue b).queued b = false
    simp [Work.leaveQueue_queued]
  obtain ⟨_, _, notice⟩ := Work.isolateBank_isolates h r
  rw [record]
  exact ⟨rfl, rfl, rfl, rfl, rfl, Work.close_unqueued off s0, (Work.settles_close _ s0).requested notice⟩

end Sys2Proof.Machine
end

section
/-! SUPPORT. A delivered sample of a bank, and O9 (02, R24, R25, R27). -/
open Sys2Proof Sys2Proof.Machine
namespace Sys2Proof.Machine

/-! ### A GOOD sample is one rule -/

/-- `s` at the start of a rule whose sample has reached channel `c` (01, R7). -/
def State.sampled (s : State) (c : Channel) (v : Int) : Work :=
  { s.begin with link := s.link.setChan c (ChannelState.good v) }

@[simp] theorem State.sampled_bank (s : State) (c : Channel) (v : Int) (b : BankId) :
    (s.sampled c v).bank b = s.bank b := rfl

theorem rule_takeSample {s : State} {f : Sample} (hg : f.good = true)
    (hp : (channelBounds f.chan).1 ≤ f.value ∧ f.value ≤ (channelBounds f.chan).2) :
    s.rule (Work.takeSample f) = ((s.sampled f.chan f.value).deliver f.chan f.value).close s := by
  unfold State.rule Work.takeSample
  rw [if_pos ⟨hg, (plausible_iff _ _).mpr hp⟩]
  rfl

/-- A whole GOOD frame with a plausible value: the owner of its channel takes it (01, R6, R7, R9). -/
theorem sampleFrame_taken {c : Channel} {kind index lo hi check : Byte} {v : Int} {s : State}
    (rx : s.link.rx = none) (hk : kind.toNat = (channelCodes c).1) (hi' : index.toNat = (channelCodes c).2)
    (sum : kind + index + lo + hi + check = 0) (hv : channelValue c (leValue [lo, hi]) = v)
    (low : (channelBounds c).1 ≤ v) (high : v ≤ (channelBounds c).2) :
    ∃ t, exec (.sampleFrame [0x5A, kind, index, lo, hi, 0, check]) s = .next t ∧
      t = ((s.sampled c v).deliver c v).close s ∧ s.Took t c (some v) := by
  subst hv
  have parsed := parseSample_taken (quality := 0) hk hi' (by simpa using sum) (by decide)
  refine ⟨_, sampleFrame_whole rx kind index lo hi 0 check, ?_⟩
  rw [parsed]
  exact ⟨rule_takeSample rfl ⟨low, high⟩, s.goodSample_took _ rfl ⟨low, high⟩⟩

theorem bankIndex_toNat (b : BankId) : (BitVec.ofNat 8 b.val).toNat = b.val := by
  have := b.isLt
  rw [BitVec.toNat_ofNat]
  omega

/-- A GOOD pressure frame of a bank. -/
theorem pressureFrame_taken {b : BankId} {lo hi check : Byte} {v : Nat} {s : State} (rx : s.link.rx = none)
    (hv : v = lo.toNat + 256 * hi.toNat) (high : v ≤ 11000) (sum : BitVec.ofNat 8 b.val + lo + hi + check = 0) :
    ∃ t, exec (.sampleFrame [0x5A, 0, BitVec.ofNat 8 b.val, lo, hi, 0, check]) s = .next t ∧
      t = ((s.sampled (.bankP b) v).bankPressure b v).close s ∧ s.Took t (.bankP b) (some v) := by
  refine sampleFrame_taken (c := .bankP b) rx rfl (bankIndex_toNat b) (by simpa using sum) ?_ (Int.natCast_nonneg v)
    (by simpa [channelBounds] using high)
  rw [channelValue_bytes, hv]
  simp [channelIsTemperature]

/-- A GOOD temperature frame of a bank. -/
theorem temperatureFrame_taken {b : BankId} {lo hi check : Byte} {s : State} (rx : s.link.rx = none)
    (low : 32768 - 400 ≤ lo.toNat + 256 * hi.toNat) (high : lo.toNat + 256 * hi.toNat ≤ 32768 + 1200)
    (sum : 1 + BitVec.ofNat 8 b.val + lo + hi + check = 0) :
    let v : Int := (lo.toNat + 256 * hi.toNat : Int) - 32768
    ∃ t, exec (.sampleFrame [0x5A, 1, BitVec.ofNat 8 b.val, lo, hi, 0, check]) s = .next t ∧
      t = ((s.sampled (.bankT b) v).bankTemperature b v).close s ∧ s.Took t (.bankT b) (some v) := by
  refine sampleFrame_taken (c := .bankT b) rx rfl (bankIndex_toNat b) sum ?_ ?_ ?_
  · rw [channelValue_bytes]
    rfl
  · simp only [channelBounds]
    omega
  · simp only [channelBounds]
    omega

/-! ### The bank at the judgement of its pressure -/

/-- New flags of one bank, with the join that may follow (02, R23). -/
theorem Work.reflag_bank (w : Work) (b : BankId) : (w.reflag b).bank b = (w.bank b).withFlags := by
  have joined : ∀ v : Work, (v.joinQueue b).bank b = v.bank b := fun v => by
    unfold Work.joinQueue
    split <;> rfl
  unfold Work.reflag
  dsimp only
  split
  · rw [joined, Work.modBank_bank_self]
  · rw [Work.modBank_bank_self]

theorem Work.reflag_station (w : Work) (b : BankId) : (w.reflag b).station = w.station :=
  (w.stands_reflag b).station

/-- The record of a bank with a new pressure, at its judgement (02, R24). -/
def Bank.pressed (k : Bank) (v : Nat) : Bank := Bank.withFlags { k with pressure := some v }

theorem Work.bankPressure_judged {w : Work} {b : BankId} (h : (w.bank b).state ≠ .unused) (v : Nat) :
    w.bankPressure b v = Work.judgePressure b v ((w.modBank b (fun k => { k with pressure := some v })).reflag b) :=
  if_neg h

/-- A work in which bank `b` is about to be judged on pressure `v`, from the sample that reached `w`. -/
structure Work.Pressed (b : BankId) (v : Nat) (w t : Work) : Prop where
  bank : t.bank b = (w.bank b).pressed v
  station : t.station = w.station

theorem Work.pressed_reflag (w : Work) (b : BankId) (v : Nat) :
    Work.Pressed b v w ((w.modBank b (fun k => { k with pressure := some v })).reflag b) where
  bank := by rw [Work.reflag_bank, Work.modBank_bank_self]; rfl
  station := Work.reflag_station _ b

theorem Bank.inService_of_ready {k : Bank} (h : k.state = .ready) : k.inService = true := by simp [Bank.inService, h]

theorem Bank.inService_used {k : Bank} (h : k.inService = true) : k.state ≠ .unused := fun unused => by
  simp [Bank.inService, unused] at h

/-- A pressure above the rated pressure of a bank in service isolates it (02, R24). -/
theorem Work.bankPressure_over {w : Work} {b : BankId} {v : Nat} (h : (w.bank b).inService = true)
    (above : (w.bank b).rated < v) : ∃ x : Work, (x.bank b).inService = true ∧
      w.bankPressure b v = x.isolateBank b .overpressure := by
  have pressed := w.pressed_reflag b v
  have service : ((w.bank b).pressed v).inService = true := h
  have rated : ((w.bank b).pressed v).overRated = true := decide_eq_true above
  rw [← pressed.bank] at service rated
  refine ⟨_, service, (Work.bankPressure_judged (Bank.inService_used h) v).trans ?_⟩
  unfold Work.judgePressure
  exact if_pos ⟨service, rated⟩

/-- A READY bank that is not above its rated pressure is judged for a leak (02, R24, R27). -/
theorem Work.bankPressure_leak {w : Work} {b : BankId} {v r : Nat} (h : (w.bank b).state = .ready)
    (sound : v ≤ (w.bank b).rated) (ref : (w.bank b).leakRef = some r) (leak : v + w.station.leakAllowance < r) :
    ∃ x : Work, (x.bank b).inService = true ∧ w.bankPressure b v = x.isolateBank b .leak := by
  have pressed := w.pressed_reflag b v
  have ready : ((w.bank b).pressed v).state = .ready := h
  have rated : ((w.bank b).pressed v).overRated = false := decide_eq_false (Nat.not_lt.mpr sound)
  have kept : ((w.bank b).pressed v).leakRef = some r := ref
  rw [← pressed.bank] at ready rated kept
  refine ⟨_, Bank.inService_of_ready ready,
    (Work.bankPressure_judged (Bank.inService_used (Bank.inService_of_ready h)) v).trans ?_⟩
  have leaks : State.leaks ((w.modBank b (fun k => { k with pressure := some v })).reflag b).toState b v = true := by
    unfold State.leaks
    rw [kept, pressed.station]
    exact decide_eq_true (by omega)
  unfold Work.judgePressure
  dsimp only
  rw [if_neg (by simp [rated]), ready]
  exact if_pos leaks

/-- Whatever a sample of a bank made of the rule, an isolation of the bank leaves it isolated, the settings, the holds
and the other readings as they were (02, R28). -/
theorem isolatedBank_of_took {s t : State} {x : Work} {b : BankId} {r : IsoReason} {c : Channel} {o : Option Int}
    (service : (x.bank b).inService = true) (ends : t = (x.isolateBank b r).close s) (took : s.Took t c o)
    (channel : c = .bankP b ∨ c = .bankT b) : IsolatedBank s t b r := by
  subst ends
  obtain ⟨state, reason, claimant, ref, timer, off, notice⟩ := Work.isolateBank_isolated service r s
  refine ⟨state, reason, claimant, ref, timer, off, notice, took.settings, took.holds, fun d => ?_⟩
  by_cases own : d = c
  · exact .inr (own ▸ channel)
  · exact .inl (took.others d own)

end Sys2Proof.Machine

/-- Settles O9: a sample that isolates ends as `Work.isolateBank_isolated` says; the leak window is one guarded
write. -/
theorem banksAreWatched : Obligations.BanksAreWatched := by
  unfold Obligations.BanksAreWatched
  refine ⟨fun b lo hi check s rx => ⟨fun v hv high sum => ?_, fun low high sum service => ?_⟩,
    fun b s => ⟨fun runs ready => ?_, fun idle => ?_⟩⟩
  · obtain ⟨t, runs, ends, took⟩ := pressureFrame_taken rx hv high sum
    refine ⟨fun service above => ⟨t, runs, ?_⟩, fun r ready sound ref leak => ⟨t, runs, ?_⟩⟩
    · obtain ⟨x, served, judged⟩ := Work.bankPressure_over (w := s.sampled (.bankP b) v) service above
      exact isolatedBank_of_took served (judged ▸ ends) took (.inl rfl)
    · obtain ⟨x, served, judged⟩ := Work.bankPressure_leak (w := s.sampled (.bankP b) v) ready sound ref leak
      exact isolatedBank_of_took served (judged ▸ ends) took (.inl rfl)
  · obtain ⟨t, runs, ends, took⟩ := temperatureFrame_taken rx (by omega) high sum
    refine ⟨t, runs, ?_⟩
    unfold Work.bankTemperature at ends
    rw [if_pos (show Config.hotTemperature ≤ (lo.toNat + 256 * hi.toNat : Int) - 32768 by
      unfold Config.hotTemperature; omega)] at ends
    refine isolatedBank_of_took ?_ ends took (.inr rfl)
    rw [Work.modBank_bank_self]
    exact service
  · exact congrArg Host.Outcome.next (if_pos ⟨runs, ready⟩)
  · refine congrArg Host.Outcome.next (if_neg fun both => ?_)
    obtain ⟨runs, ready⟩ := both
    obtain stopped | other := idle
    · rw [stopped] at runs
      cases runs
    · exact other ready
end

section
/-! SUPPORT. A write of the refill priority, and O15 (02, R33; 03, R47). -/
open Sys2Proof Sys2Proof.Machine
namespace Sys2Proof.Machine

theorem leValue_byte (n : Byte) : leValue [n] = n.toNat := by simp [leValue]

/-! ### An entry that is placed again -/

/-- An entry placed at the back of its class, in a list whose entries stand in priority order (03, R43). -/
theorem placeBack_filter {prio : BankId → Nat} {e : QueueEntry} {q : List QueueEntry} (h : InOrder prio q) :
    placeBack prio e q = q.filter (fun x => decide (prio e.bank ≤ prio x.bank)) ++ [e] ++
      q.filter (fun x => decide (prio x.bank < prio e.bank)) := by
  have sorted : q.Pairwise (fun x y =>
      decide (prio e.bank ≤ prio y.bank) = true → decide (prio e.bank ≤ prio x.bank) = true) := by
    refine h.imp fun order above => ?_
    rw [decide_eq_true_eq] at *
    omega
  obtain ⟨take, drop⟩ := takeWhile_eq_filter sorted
  unfold placeBack
  rw [take, drop]
  simp only [← decide_not, not_le, List.append_assoc, List.singleton_append]

/-- The one entry of a bank is the one that is found. -/
theorem find_entry {q : List QueueEntry} (one : (q.map QueueEntry.bank).Nodup) {e : QueueEntry} (h : e ∈ q) :
    q.find? (fun x => x.bank == e.bank) = some e := by
  obtain ⟨x, found⟩ := Option.isSome_iff_exists.mp
    (List.find?_isSome (p := fun x : QueueEntry => x.bank == e.bank).mpr ⟨e, h, beq_self_eq_true _⟩)
  have bank : x.bank = e.bank := by simpa using List.find?_some found
  rw [found, List.inj_on_of_nodup_map one (List.mem_of_find?_eq_some found) h bank]

/-- A bank without an entry has none to place again. -/
theorem Work.replaceEntry_unqueued {w : Work} {b : BankId} (h : w.queued b = false) : w.replaceEntry b = w := by
  have none : w.refillQueue.find? (fun e => e.bank == b) = none := by
    unfold State.queued at h
    rw [List.find?_eq_none]
    simpa using h
  unfold Work.replaceEntry
  rw [none]

/-- The entry of a bank whose priority was written, at the back of the written class (03, R47). -/
theorem Work.priorityWrite_queue {w : Work} (law : w.QueueLaw) {e : QueueEntry} (h : e ∈ w.refillQueue) (n : Nat) :
    w.priorityWrite e.bank n = { w.modBank e.bank (fun x => { x with priority := n }) with
      refillQueue := w.refillQueue.filter (fun x => x.bank != e.bank && decide (n ≤ (w.bank x.bank).priority)) ++ [e] ++
        w.refillQueue.filter (fun x => x.bank != e.bank && decide ((w.bank x.bank).priority < n)) } := by
  obtain ⟨one, _, ordered⟩ := law
  have own : ((w.modBank e.bank (fun x => { x with priority := n })).bank e.bank).priority = n := by
    rw [Work.modBank_bank_self]
  have others : ∀ x ∈ withoutBank e.bank w.refillQueue,
      ((w.modBank e.bank (fun x => { x with priority := n })).bank x.bank).priority = (w.bank x.bank).priority :=
    fun x hx => by rw [Work.modBank_bank_ne _ _ (by simpa using (List.mem_filter.mp hx).2)]
  have order : InOrder (fun x => ((w.modBank e.bank (fun x => { x with priority := n })).bank x).priority)
      (withoutBank e.bank w.refillQueue) := by
    refine (ordered.sublist List.filter_sublist).imp_of_mem fun hx hy above => ?_
    dsimp only
    rw [others _ hx, others _ hy]
    exact above
  unfold Work.priorityWrite Work.replaceEntry
  have found : (w.modBank e.bank (fun x => { x with priority := n })).refillQueue.find? (fun x => x.bank == e.bank) =
      some e := find_entry one h
  rw [found]
  dsimp only
  rw [show (w.modBank e.bank (fun x => { x with priority := n })).refillQueue = w.refillQueue from rfl,
    placeBack_filter order, own, List.filter_congr fun x hx => by rw [others x hx],
    List.filter_congr (p := fun x => decide (_ < n)) fun x hx => by rw [others x hx]]
  unfold withoutBank
  simp only [List.filter_filter, Bool.and_comm]

end Sys2Proof.Machine

/-- Settles O15: the write is a SET of one field that owes nothing at the rule's end. -/
theorem priorityWriteReplacesTheEntry : Obligations.PriorityWriteReplacesTheEntry := by
  unfold Obligations.PriorityWriteReplacesTheEntry
  intro b a tail n s names whole data law
  have ref := addrRequest_resolve names (cls := 1) rfl 2 9 tail
  have value : leValue tail.data = n.toNat := by rw [data, leValue_byte]
  have written : ∀ w : Work, n.toNat ≤ 3 → (s.heard (addrRequest a 2 1 9 tail)).begin.priorityWrite b n.toNat = w →
      w.serveDue = false → w.evalDue = false → w.routes = s.routes →
      exec (.refillPriorityWrite a tail) s = .next { w.toState with port.lastResult := .ok } :=
    fun w within write serve eval routes => congrArg Host.Outcome.next (portRequest_setField_plain
      (r := addrRequest a 2 1 9 tail) rfl whole (by decide) ref rfl
      (show inRange 0 3 (leValue tail.data) = [] by rw [value, inRange_within (Nat.zero_le _) within])
      (show Work.priorityWrite b (leValue tail.data) _ = w by rw [value, write]) serve eval routes)
  refine ⟨fun large => congrArg Host.Outcome.next ?_, fun within off => ?_, fun e within held own => ?_⟩
  · refine portRequest_setField_refused rfl whole (by decide) ref rfl ?_ (by decide)
    show firstFault (inRange 0 3 (leValue tail.data)) = _
    rw [value, inRange_outside (.inr large), firstFault_range]
  · exact written _ within (Work.replaceEntry_unqueued off) rfl rfl rfl
  · subst own
    exact written _ within (Work.priorityWrite_queue (w := (s.heard _).begin) law held n.toNat) rfl rfl rfl
end

section
/-! SUPPORT. An offer round by round: which entry it serves, what the served position makes of the bank, what it leaves
alone (02, R32, R37; 05, R95, R98). -/
open Sys2Proof Sys2Proof.Machine
namespace Sys2Proof.Machine

/-! ### The entry that is served -/

theorem State.eligible_iff {s : State} {b : BankId} {e : WaitEntry} : s.eligible b e = true ↔ EligibleFor s b e := by
  unfold State.eligible EligibleFor
  simp [Option.any_eq_true]

theorem eligibleFor_some {s : State} {b : BankId} {v : Nat} (h : (s.bank b).pressure = some v) (e : WaitEntry) :
    EligibleFor s b e ↔ (s.bank b).tier ∈ e.tiers ∧ e.need ≤ v := by
  unfold EligibleFor
  simp [h]

/-- Eligibility reads the tier and the pressure of the bank alone (02, R37). -/
theorem eligibleFor_congr {s t : State} {b : BankId} (tier : (t.bank b).tier = (s.bank b).tier)
    (pressure : (t.bank b).pressure = (s.bank b).pressure) (e : WaitEntry) :
    EligibleFor t b e ↔ EligibleFor s b e := by
  unfold EligibleFor
  rw [tier, pressure]

theorem find_eligible_none {s : State} {b : BankId} (h : ∀ e ∈ s.waitList, ¬ EligibleFor s b e) :
    s.waitList.find? (s.eligible b) = none :=
  List.find?_eq_none.mpr fun e he served => h e he (State.eligible_iff.mp served)

/-- The oldest eligible entry is the one found (02, R37). -/
theorem find_eligible {s : State} {b : BankId} {older younger : List WaitEntry} {e : WaitEntry}
    (list : s.waitList = older ++ e :: younger) (before : ∀ x ∈ older, ¬ EligibleFor s b x)
    (served : EligibleFor s b e) : s.waitList.find? (s.eligible b) = some e :=
  List.find?_eq_some_iff_append.mpr ⟨State.eligible_iff.mpr served, older, younger, list, fun x hx => by
    simpa using fun found => before x hx (State.eligible_iff.mp found)⟩

/-! ### One round -/

theorem Work.offer_nobody {n : Nat} {b : BankId} {w : Work} (h : ∀ e ∈ w.waitList, ¬ EligibleFor w.toState b e) :
    Work.offer n b w = w := by
  cases n with
  | zero => rfl
  | succ n =>
    unfold Work.offer
    rw [find_eligible_none h]

/-- An offer that no entry is eligible for leaves everything (02, R37). -/
theorem Work.offerBank_ineligible {b : BankId} {w : Work} (h : ∀ e ∈ w.waitList, ¬ EligibleFor w.toState b e) :
    w.offerBank b = w := by
  unfold Work.offerBank
  rw [Work.offer_nobody h]
  exact ite_self w

/-- The work in which the position of the served entry takes the bank: off the list, the bank claimed (02, R37). -/
def Work.served (p : PosId) (b : BankId) (w : Work) : Work := (w.leaveWaitList p).claimBank (.pos p) b

theorem Work.served_bank (w : Work) (p : PosId) (b : BankId) : (w.served p b).bank b = (w.bank b).claim (.pos p) :=
  Work.claimBank_bank _ _ _

theorem Work.served_bank_ne (w : Work) (p : PosId) {b c : BankId} (h : c ≠ b) : (w.served p b).bank c = w.bank c :=
  Work.modBank_bank_ne _ _ h

theorem Work.freeBank_suction (w : Work) (b : BankId) : (w.freeBank b).suction = w.suction := by
  have joined : ∀ v : Work, (v.joinQueue b).suction = v.suction := fun v => by
    unfold Work.joinQueue
    split <;> rfl
  unfold Work.freeBank Work.makeReady
  dsimp only
  split <;> split <;> simp [Work.oweEval, joined]

/-- One round of an offer: the served position answers whether it takes the bank (02, R37). -/
def Work.round (p : PosId) (b : BankId) (w : Work) : Bool × Work := (w.served p b).takeOffer p b

theorem Work.round_bank (w : Work) (p : PosId) (b : BankId) :
    (w.round p b).2.bank b = (w.bank b).claim (.pos p) := by
  unfold Work.round
  rw [Work.takeOffer_bank, Work.served_bank]

theorem Work.round_waitList (w : Work) (p : PosId) (b : BankId) :
    (w.round p b).2.waitList = w.waitList.filter (fun x => x.pos != p) :=
  ((w.served p b).takeOffer_lists p b).1

theorem Work.round_pos (w : Work) {p q : PosId} (b : BankId) (h : q ≠ p) : (w.round p b).2.pos q = w.pos q :=
  ((w.served p b).takeOffer_lists p b).2.1 q h

theorem Work.round_station (w : Work) (p : PosId) (b : BankId) : (w.round p b).2.station = w.station :=
  ((w.served p b).takeOffer_lists p b).2.2

/-- An offer with an eligible entry is a round, and the rest of the offer if the bank is handed back (02, R37). -/
theorem Work.offer_found {n : Nat} {b : BankId} {w : Work} {e : WaitEntry}
    (found : w.waitList.find? (w.eligible b) = some e) : Work.offer (n + 1) b w =
      if (w.round e.pos b).1 then (w.round e.pos b).2 else Work.offer n b ((w.round e.pos b).2.freeBank b) := by
  conv_lhs => unfold Work.offer
  rw [found]
  rfl

/-- A PULSING position without a bank takes the served bank as its current one (05, R95). -/
theorem Work.round_pulse {b : BankId} {w : Work} {p : PosId} (state : (w.pos p).ses.state = .pulsing)
    (current : (w.pos p).ses.current = none) :
    w.round p b = (true, (w.served p b).modPos p (Position.startPulse b)) := if_pos ⟨state, current⟩

theorem Work.round_notPulse {b : BankId} {w : Work} {p : PosId} (state : (w.pos p).ses.state = .held) :
    ¬(((w.served p b).pos p).ses.state = .pulsing ∧ ((w.served p b).pos p).ses.current = none) := fun both => by
  have pulsing : (w.pos p).ses.state = .pulsing := both.1
  rw [state] at pulsing
  cases pulsing

/-- A position HELD for NO_BANK alone goes on with the served bank staged (05, R98). -/
theorem Work.round_resume {b : BankId} {w : Work} {p : PosId} (state : (w.pos p).ses.state = .held)
    (causes : (w.pos p).ses.causes = { Causes.empty with noBank := true }) :
    w.round p b = (true, (w.served p b).modPos p
      (Position.resumeWith (w.hoseOf p) b ((w.bank b).claim (.pos p)).tier)) := by
  refine (if_neg (Work.round_notPulse state)).trans ((if_pos ⟨state, causes⟩).trans ?_)
  rw [Work.served_bank]
  rfl

/-- A position that loses the cause NO_BANK to an offer. -/
def Position.unbanked (p : Position) : Position := { p with ses.causes.noBank := false }

/-- A position HELD for more than NO_BANK hands the bank on (05, R98). -/
theorem Work.round_back {b : BankId} {w : Work} {p : PosId} (state : (w.pos p).ses.state = .held)
    (causes : (w.pos p).ses.causes ≠ { Causes.empty with noBank := true }) :
    w.round p b = (false, (w.served p b).modPos p Position.unbanked) :=
  (if_neg (Work.round_notPulse state)).trans ((if_neg fun both => causes both.2).trans (if_pos state))

/-! ### What every offer leaves alone -/

/-- What a bank keeps through a claim and an entry to READY: what makes entries eligible for it (02, R37). -/
theorem Work.freed_offered (w : Work) (p : PosId) (b : BankId) :
    (((w.round p b).2.freeBank b).bank b).tier = (w.bank b).tier ∧
      (((w.round p b).2.freeBank b).bank b).pressure = (w.bank b).pressure := by
  have claimed := Bank.claim_keeps (.pos p) (w.bank b)
  have ready : ∀ (k : Bank) (c : Clock) (n : Nat), (k.enterReady c n).tier = k.tier ∧
      (k.enterReady c n).pressure = k.pressure := fun k c n => by
    obtain ⟨tier, _, _, _, _, pressure, _⟩ := k.withFlags_settings
    exact ⟨tier, pressure⟩
  rw [Work.freeBank_bank, Work.round_bank]
  exact ⟨(ready _ _ _).1.trans claimed.tier, (ready _ _ _).2.trans claimed.pressure⟩

/-- What holds of an offered bank through a claim by a waiting position and through a hand-back holds after the
offer. -/
theorem Work.offer_bank_keeps {P : Bank → Prop} {n : Nat} {b : BankId} {w : Work}
    (claim : ∀ e ∈ w.waitList, ∀ k, P k → P (k.claim (.pos e.pos)))
    (ready : ∀ k, P k → P (k.enterReady w.station.clock w.station.leakWindow)) (h : P (w.bank b)) :
    P ((Work.offer n b w).bank b) := by
  induction n generalizing w with
  | zero => exact h
  | succ n ih =>
    cases found : w.waitList.find? (w.eligible b) with
    | none =>
      unfold Work.offer
      rw [found]
      exact h
    | some e =>
      have claimed : P ((w.round e.pos b).2.bank b) :=
        w.round_bank e.pos b ▸ claim e (List.mem_of_find?_eq_some found) _ h
      rw [Work.offer_found found]
      split
      · exact claimed
      · obtain ⟨_, list, freed⟩ := (w.round e.pos b).2.freeBank_lists b
        rw [Work.round_station] at freed
        refine ih (fun x hx => ?_) ?_ ?_
        · rw [list, Work.round_waitList] at hx
          exact claim x (List.mem_filter.mp hx).1
        · rw [freed]
          exact ready
        · rw [Work.freeBank_bank, Work.round_station]
          exact ready _ claimed

theorem Work.offerBank_bank_keeps {P : Bank → Prop} {b : BankId} {w : Work}
    (claim : ∀ e ∈ w.waitList, ∀ k, P k → P (k.claim (.pos e.pos)))
    (ready : ∀ k, P k → P (k.enterReady w.station.clock w.station.leakWindow)) (h : P (w.bank b)) :
    P ((w.offerBank b).bank b) := by
  unfold Work.offerBank
  split
  · exact Work.offer_bank_keeps claim ready h
  · exact h

/-- A position of which no entry is eligible stands through an offer (02, R37). -/
theorem Work.offer_pos {n : Nat} {b : BankId} {w : Work} {q : PosId}
    (h : ∀ e ∈ w.waitList, e.pos = q → ¬ EligibleFor w.toState b e) : (Work.offer n b w).pos q = w.pos q := by
  induction n generalizing w with
  | zero => rfl
  | succ n ih =>
    cases found : w.waitList.find? (w.eligible b) with
    | none =>
      unfold Work.offer
      rw [found]
    | some e =>
      have other : q ≠ e.pos := fun own =>
        h e (List.mem_of_find?_eq_some found) own.symm (State.eligible_iff.mp (List.find?_some found))
      rw [Work.offer_found found]
      split
      · exact w.round_pos b other
      · obtain ⟨positions, list, _⟩ := (w.round e.pos b).2.freeBank_lists b
        obtain ⟨tier, pressure⟩ := w.freed_offered e.pos b
        refine (ih fun x hx own => ?_).trans ((congrArg (·.get q) positions).trans (w.round_pos b other))
        rw [list, Work.round_waitList] at hx
        exact fun eligible => h x (List.mem_filter.mp hx).1 own ((eligibleFor_congr tier pressure x).mp eligible)

theorem Work.offerBank_pos {b : BankId} {w : Work} {q : PosId}
    (h : ∀ e ∈ w.waitList, e.pos = q → ¬ EligibleFor w.toState b e) : (w.offerBank b).pos q = w.pos q := by
  unfold Work.offerBank
  split
  · exact Work.offer_pos h
  · rfl

/-- An offer of a READY bank whose oldest eligible entry is `e`. -/
theorem Work.offerBank_found {b : BankId} {w : Work} {older younger : List WaitEntry} {e : WaitEntry}
    (ready : (w.bank b).state = .ready) (list : w.waitList = older ++ e :: younger)
    (before : ∀ x ∈ older, ¬ EligibleFor w.toState b x) (served : EligibleFor w.toState b e) : w.offerBank b =
      if (w.round e.pos b).1 then (w.round e.pos b).2
      else Work.offer (older.length + younger.length) b ((w.round e.pos b).2.freeBank b) := by
  unfold Work.offerBank
  rw [if_pos ready, list, List.length_append, List.length_cons, ← Nat.add_assoc,
    Work.offer_found (find_eligible list before served)]

end Sys2Proof.Machine
end

section
/-! SUPPORT. Whom an offer serves, and O17 (02, R32, R37; 05, R95, R98). -/
open Sys2Proof Sys2Proof.Machine
namespace Sys2Proof.Machine

section
variable {w : Work} {b : BankId} {older younger : List WaitEntry} {e : WaitEntry}

/-- The oldest eligible entry is of a PULSING position without a bank (05, R95). -/
theorem Work.offerBank_pulse (ready : (w.bank b).state = .ready) (list : w.waitList = older ++ e :: younger)
    (before : ∀ x ∈ older, ¬ EligibleFor w.toState b x) (served : EligibleFor w.toState b e)
    (state : (w.pos e.pos).ses.state = .pulsing) (current : (w.pos e.pos).ses.current = none) :
    w.offerBank b = (w.served e.pos b).modPos e.pos (Position.startPulse b) := by
  rw [Work.offerBank_found ready list before served, Work.round_pulse state current]
  exact if_pos rfl

/-- The oldest eligible entry is of a position HELD for NO_BANK alone (05, R98). -/
theorem Work.offerBank_resume (ready : (w.bank b).state = .ready) (list : w.waitList = older ++ e :: younger)
    (before : ∀ x ∈ older, ¬ EligibleFor w.toState b x) (served : EligibleFor w.toState b e)
    (state : (w.pos e.pos).ses.state = .held)
    (causes : (w.pos e.pos).ses.causes = { Causes.empty with noBank := true }) :
    w.offerBank b = (w.served e.pos b).modPos e.pos
      (Position.resumeWith (w.hoseOf e.pos) b ((w.bank b).claim (.pos e.pos)).tier) := by
  rw [Work.offerBank_found ready list before served, Work.round_resume state causes]
  exact if_pos rfl

/-- The work in which a position HELD for more than NO_BANK has handed the bank back (05, R98; 02, R32). -/
def Work.handedBack (p : PosId) (b : BankId) (w : Work) : Work :=
  ((w.served p b).modPos p Position.unbanked).freeBank b

/-- The oldest eligible entry is of a position HELD for more: the rest of the list is offered the bank (05, R98). -/
theorem Work.offerBank_back (ready : (w.bank b).state = .ready) (list : w.waitList = older ++ e :: younger)
    (before : ∀ x ∈ older, ¬ EligibleFor w.toState b x) (served : EligibleFor w.toState b e)
    (state : (w.pos e.pos).ses.state = .held)
    (causes : (w.pos e.pos).ses.causes ≠ { Causes.empty with noBank := true }) :
    w.offerBank b = Work.offer (older.length + younger.length) b (w.handedBack e.pos b) := by
  rw [Work.offerBank_found ready list before served, Work.round_back state causes]
  exact if_neg Bool.false_ne_true

end

/-! ### The bank served -/

/-- A position that has taken a READY bank, and what the hand-over leaves alone (02, R31, R37). -/
theorem Work.served_modPos {w : Work} {b : BankId} (ready : (w.bank b).state = .ready) (p : PosId)
    (f : Position → Position) : let t := (w.served p b).modPos p f
    (t.bank b).state = .serving ∧ (t.bank b).claimant = some (.pos p) ∧
      t.waitList = w.waitList.filter (fun x => x.pos != p) ∧ (∀ q : PosId, q ≠ p → t.pos q = w.pos q) ∧
      (∀ c : BankId, c ≠ b → t.bank c = w.bank c) ∧ t.pos p = f (w.pos p) := by
  intro t
  have bank : t.bank b = (w.bank b).claim (.pos p) := w.served_bank p b
  obtain ⟨serving, claimant⟩ := Bank.claim_serving ready p
  exact ⟨bank ▸ serving, bank ▸ claimant, rfl, fun q other => Work.modPos_pos_ne _ _ other,
    fun c other => w.served_bank_ne p other, Work.modPos_pos_self _ _ _⟩

/-! ### The bank handed back -/

theorem Work.handedBack_bank (w : Work) (p : PosId) (b : BankId) : (w.handedBack p b).bank b =
    ((w.bank b).claim (.pos p)).enterReady w.station.clock w.station.leakWindow := by
  unfold Work.handedBack
  rw [Work.freeBank_bank]
  show (((w.served p b).bank b)).enterReady _ _ = _
  rw [Work.served_bank]
  rfl

theorem Work.handedBack_waitList (w : Work) (p : PosId) (b : BankId) :
    (w.handedBack p b).waitList = w.waitList.filter (fun x => x.pos != p) :=
  (Work.freeBank_lists _ b).2.1

theorem Work.handedBack_waits (w : Work) (p : PosId) (b : BankId) : (w.handedBack p b).waits p = false := by
  unfold State.waits
  rw [Work.handedBack_waitList]
  exact w.leaveWaitList_waits_self p

theorem Work.handedBack_pos (w : Work) (p q : PosId) (b : BankId) :
    (w.handedBack p b).pos q = if q = p then (w.pos p).unbanked else w.pos q := by
  have positions := (Work.freeBank_lists ((w.served p b).modPos p Position.unbanked) b).1
  exact (congrArg (·.get q) positions).trans (Work.modPos_pos _ _ _ _)

theorem Work.handedBack_eligible (w : Work) (p : PosId) (b : BankId) (e : WaitEntry) :
    EligibleFor (w.handedBack p b).toState b e ↔ EligibleFor w.toState b e := by
  have claimed := Bank.claim_keeps (.pos p) (w.bank b)
  obtain ⟨tier, _, _, _, _, pressure, _⟩ := ((w.bank b).claim (.pos p)).withFlags_settings
  refine eligibleFor_congr ?_ ?_ e <;> rw [Work.handedBack_bank]
  · exact tier.trans claimed.tier
  · exact pressure.trans claimed.pressure

/-- A position that handed the bank back keeps what it then is through the rest of the offer (05, R98). -/
theorem Work.offer_handedBack (n : Nat) (w : Work) (p : PosId) (b : BankId) :
    (Work.offer n b (w.handedBack p b)).pos p = (w.pos p).unbanked ∧
      (Work.offer n b (w.handedBack p b)).waits p = false := by
  obtain ⟨pos, waits⟩ := Work.passesBy_offer p n b _ (w.handedBack_waits p b)
  exact ⟨pos.trans ((w.handedBack_pos p p b).trans (if_pos rfl)), waits⟩

/-- A bank handed back for which no other entry is eligible is READY again (02, R32, R37). -/
theorem Work.offer_handedBack_nobody {n : Nat} {w : Work} {p : PosId} {b : BankId}
    (h : ∀ x ∈ w.waitList, x.pos ≠ p → ¬ EligibleFor w.toState b x) :
    Work.offer n b (w.handedBack p b) = w.handedBack p b := by
  refine Work.offer_nobody fun x hx eligible => ?_
  rw [Work.handedBack_waitList, List.mem_filter, bne_iff_ne] at hx
  exact h x hx.1 hx.2 ((w.handedBack_eligible p b x).mp eligible)

/-- A bank handed back is offered to the entries that remain, in their order (02, R37; 05, R98). -/
theorem Work.offer_handedBack_pulse {n : Nat} {w : Work} {p : PosId} {b : BankId} {older younger : List WaitEntry}
    {f : WaitEntry} (list : w.waitList = older ++ f :: younger) (other : f.pos ≠ p)
    (before : ∀ x ∈ older, x.pos ≠ p → ¬ EligibleFor w.toState b x) (served : EligibleFor w.toState b f)
    (state : (w.pos f.pos).ses.state = .pulsing) (current : (w.pos f.pos).ses.current = none) :
    Work.offer (n + 1) b (w.handedBack p b) =
      ((w.handedBack p b).served f.pos b).modPos f.pos (Position.startPulse b) := by
  have remain : (w.handedBack p b).waitList =
      older.filter (fun x => x.pos != p) ++ f :: younger.filter (fun x => x.pos != p) := by
    rw [Work.handedBack_waitList, list, List.filter_append, List.filter_cons_of_pos (by simpa using other)]
  have found := find_eligible remain (fun x hx eligible => by
    rw [List.mem_filter, bne_iff_ne] at hx
    exact before x hx.1 hx.2 ((w.handedBack_eligible p b x).mp eligible)) ((w.handedBack_eligible p b f).mpr served)
  have pos : (w.handedBack p b).pos f.pos = w.pos f.pos := (w.handedBack_pos p f.pos b).trans (if_neg other)
  rw [Work.offer_found found, Work.round_pulse (by rw [pos]; exact state) (by rw [pos]; exact current)]
  exact if_pos rfl

theorem Causes.ne_noBank {c : Causes} (h : c.precool = true ∨ c.vehicle = true ∨ c.host = true) :
    c ≠ { Causes.empty with noBank := true } := by
  rintro rfl
  simp [Causes.empty] at h

end Sys2Proof.Machine

/-- Settles O17: the offer round by round, by what the oldest eligible entry's position makes of the bank. -/
theorem offerServesTheOldestEligibleEntry : Obligations.OfferServesTheOldestEligibleEntry := by
  unfold Obligations.OfferServesTheOldestEligibleEntry
  intro w b v ready pressure
  have eligible : ∀ e : WaitEntry, EligibleFor w.toState b e ↔ (w.bank b).tier ∈ e.tiers ∧ e.need ≤ v :=
    eligibleFor_some pressure
  simp only [← eligible]
  refine ⟨Work.offerBank_ineligible, fun older younger e list before tier need takes => ?_,
    fun older younger e list before tier need state noBank more => ?_⟩
  · have served := (eligible e).mpr ⟨tier, need⟩
    obtain ⟨state, current⟩ | ⟨state, causes⟩ := takes
    · rw [Work.offerBank_pulse ready list before served state current]
      obtain ⟨serving, claimant, rest, others, banks, own⟩ := w.served_modPos ready e.pos (Position.startPulse b)
      refine ⟨serving, claimant, rest, others, banks, fun _ => ?_, fun _ held => ?_⟩
      · rw [own]
        exact ⟨rfl, rfl, rfl, rfl, rfl⟩
      · rw [state] at held
        cases held
    · rw [Work.offerBank_resume ready list before served state causes]
      obtain ⟨serving, claimant, rest, others, banks, own⟩ := w.served_modPos ready e.pos
        (Position.resumeWith (w.hoseOf e.pos) b ((w.bank b).claim (.pos e.pos)).tier)
      refine ⟨serving, claimant, rest, others, banks, fun pulsing => ?_, fun hose _ hs => ?_⟩
      · rw [state] at pulsing
        cases pulsing
      · rw [own]
        refine ⟨rfl, rfl, (Bank.claim_keeps _ _).tier, ?_, rfl, rfl⟩
        unfold State.hoseOf
        rw [hs]
        rfl
  · have served := (eligible e).mpr ⟨tier, need⟩
    rw [Work.offerBank_back ready list before served state (Causes.ne_noBank more)]
    obtain ⟨own, off⟩ := Work.offer_handedBack (older.length + younger.length) w e.pos b
    refine ⟨own, off, fun nobody => ?_, fun between rest f after other later tier' need' state' current' => ?_⟩
    · rw [Work.offer_handedBack_nobody fun x hx out => ?_, Work.handedBack_bank]
      · refine ⟨rfl, rfl, (Bank.claim_keeps _ _).pressure.trans pressure, w.handedBack_waitList e.pos b,
          fun q other => (w.handedBack_pos e.pos q b).trans (if_neg other)⟩
      · rw [list, List.mem_append, List.mem_cons] at hx
        obtain old | rfl | young := hx
        · exact before x old
        · exact absurd rfl out
        · exact nobody x young
    · have split : w.waitList = (older ++ e :: between) ++ f :: rest := by
        rw [list, after, List.append_assoc, List.cons_append]
      have remain : ∀ x ∈ older ++ e :: between, x.pos ≠ e.pos → ¬ EligibleFor w.toState b x := fun x hx out => by
        rw [List.mem_append, List.mem_cons] at hx
        obtain old | rfl | young := hx
        · exact before x old
        · exact absurd rfl out
        · exact later x young
      have fuel : older.length + younger.length = (older.length + between.length + rest.length) + 1 := by
        rw [after, List.length_append, List.length_cons]
        omega
      rw [fuel, Work.offer_handedBack_pulse split other remain ((eligible f).mpr ⟨tier', need'⟩) state' current']
      have readyBack : ((w.handedBack e.pos b).bank b).state = .ready := by rw [Work.handedBack_bank]; rfl
      obtain ⟨serving, claimant, _, _, _, own'⟩ :=
        (w.handedBack e.pos b).served_modPos readyBack f.pos (Position.startPulse b)
      refine ⟨serving, claimant, ?_, (w.handedBack e.pos b).leaveWaitList_waits_self f.pos⟩
      rw [own']
      rfl
end

section
/-! SUPPORT. Verbs of a bank: what a taken one leaves of the transfer and of the settings, and O12 (02, R30; 09, R163,
R164). -/
open Sys2Proof Sys2Proof.Machine
namespace Sys2Proof.Machine

/-! ### A verb's answer -/

/-- Settings, holds, readings and the transfer's answer stand. -/
structure State.Answers (s t : State) : Prop extends State.Stands s t where
  hostOut : t.hostOut = s.hostOut

theorem State.Settles.answers {s t : State} (h : s.Settles t) : s.Answers t := { h.stands with hostOut := h.hostOut }

theorem State.Answers.trans {a b c : State} (h : a.Answers b) (g : b.Answers c) : a.Answers c :=
  { h.toStands.trans g.toStands with hostOut := g.hostOut.trans h.hostOut }

theorem State.Evolves.answers {s t : State} (h : s.Evolves t) : s.Answers t := h.toSettles.answers

/-- A rule on a heard transfer that keeps the answer takes the transfer. -/
theorem State.Answers.taken {s t : State} {r : Request} (h : (s.heard r).Answers t) :
    s.Taken (t.recordResult .ok) r := by
  refine ⟨?_, h.hostOut⟩
  rw [State.recordResult_ok]
  exact congrArg (fun x : Port => { x with lastResult := .ok }) h.port

theorem orFail_pass {ok : Bool} (h : ok = true) (x : Result) : orFail ok x = [] := if_pos h

theorem orFail_fail {ok : Bool} (h : ok ≠ true) (x : Result) : orFail ok x = [x] := if_neg h

/-- A refused verb. -/
theorem portRequest_verb_refused {r : Request} {s : State} {ref : RecordRef} {v : Verb} {x : Result} (hop : r.op = 3)
    (hw : r.tail.Whole v.argLength) (href : r.resolve s.port.window = .ok ref)
    (hv : verbOf ref r.field.toNat = some v) (hc : firstFault (verbFails v r.tail.data (s.heard r)) = x)
    (hx : x ≠ .ok) : portRequest r s = s.refusedWith r x := by
  have failed : ¬ (verbFails v r.tail.data (s.heard r)).isEmpty = true := fun none => by
    rw [List.isEmpty_iff] at none
    rw [none] at hc
    exact hx hc.symm
  rw [portRequest_judged hw.1 (by simp [hop]), judge_verb hop hw (s := s.heard r) href hv]
  unfold settleTransfer
  rw [if_neg failed, hc]
  exact State.heard_refused hx

/-! ### Writing a bank -/

/-- A bank's record written but for its settings and readings. -/
theorem Work.answers_modBank (w : Work) (b : BankId) {f : Bank → Bank}
    (settings : (f (w.bank b)).tier = (w.bank b).tier ∧ (f (w.bank b)).rated = (w.bank b).rated ∧
      (f (w.bank b)).low = (w.bank b).low ∧ (f (w.bank b)).high = (w.bank b).high ∧
      (f (w.bank b)).priority = (w.bank b).priority)
    (pressure : (f (w.bank b)).pressure = (w.bank b).pressure)
    (temperature : (f (w.bank b)).temperature = (w.bank b).temperature) :
    w.toState.Answers (w.modBank b f).toState := by
  have bank : ∀ c, (w.modBank b f).bank c = if c = b then f (w.bank b) else w.bank c :=
    fun c => Work.modBank_bank w b c f
  refine { station := rfl, holds := rfl, port := rfl, hostOut := rfl, settings := ?_, reading := fun c => ?_ }
  · refine ⟨rfl, rfl, rfl, rfl, rfl, fun _ => rfl, fun c => ?_, fun _ => ⟨rfl, rfl, rfl, rfl, rfl⟩,
      fun _ => ⟨rfl, rfl, rfl, rfl, rfl⟩⟩
    rw [bank]
    split
    · next e => rw [e]; exact settings
    · exact ⟨rfl, rfl, rfl, rfl, rfl⟩
  · cases c with
    | bankP c =>
      show ((w.modBank b f).bank c).pressure.map Int.ofNat = (w.bank c).pressure.map Int.ofNat
      rw [bank]
      split
      · next e => rw [e, pressure]
      · rfl
    | bankT c =>
      show ((w.modBank b f).bank c).temperature = (w.bank c).temperature
      rw [bank]
      split
      · next e => rw [e, temperature]
      · rfl
    | _ => rfl

theorem Work.answers_freeBank (w : Work) (b : BankId) : w.toState.Answers (w.freeBank b).toState := by
  obtain ⟨tier, rated, low, high, priority, pressure, temperature⟩ := (w.bank b).withFlags_settings
  have ready : w.toState.Answers (w.makeReady b).toState :=
    w.answers_modBank b ⟨tier, rated, low, high, priority⟩ pressure temperature
  unfold Work.freeBank
  dsimp only
  split <;> split
  · exact ready.trans (Work.evolves_joinQueue _ b).answers
  · exact ready.trans (Work.evolves_joinQueue _ b).answers
  · exact ready
  · exact ready

/-- A freed bank is queued if it was, or if it is below its low mark (02, R32). -/
theorem Work.freeBank_queued (w : Work) (b : BankId) : (w.freeBank b).queued b =
    (w.queued b || ((w.bank b).enterReady w.station.clock w.station.leakWindow).belowLow) := by
  have ready : (w.makeReady b).bank b = (w.bank b).enterReady w.station.clock w.station.leakWindow :=
    Work.modBank_bank_self _ _ _
  have place : (w.makeReady b).queued b = w.queued b := rfl
  have owed : ∀ v : Work, (if v.queued b then v.oweEval else v).queued b = v.queued b := fun v => by split <;> rfl
  unfold Work.freeBank
  dsimp only
  rw [owed, ready]
  split
  · next below => rw [Work.joinQueue_queued, place, below, decide_eq_true rfl]
  · next above => rw [place, Bool.eq_false_iff.mpr above, Bool.or_false]

/-! ### A bank back in service -/

/-- A bank that RESTORE returned to service from the record `k`, with pressure `v` (02, R30). -/
structure Bank.Restored (k : Bank) (v : Nat) (t : Bank) : Prop where
  isolation : t.isolation = none
  service : t.inService = true
  yields : t.yields = k.yields
  pressure : t.pressure = some v
  low : t.low = k.low
  high : t.high = k.high
  belowLow : t.belowLow = decide (v < k.low)
  atHigh : t.atHigh = decide (k.high ≤ v)

theorem Bank.Restored.claim {k t : Bank} {v : Nat} (h : k.Restored v t) (c : Claimant) : k.Restored v (t.claim c) := by
  obtain ⟨isolation, service, yields, pressure, low, high, belowLow, atHigh⟩ := h
  unfold Bank.claim
  split
  · refine ⟨isolation, ?_, yields, pressure, low, high, belowLow, atHigh⟩
    cases c <;> rfl
  · exact ⟨isolation, service, yields, pressure, low, high, belowLow, atHigh⟩

/-- A sound bank that enters READY (02, R23, R27). -/
theorem Bank.restored_enterReady {k t : Bank} {v : Nat} (isolation : t.isolation = none) (yields : t.yields = k.yields)
    (pressure : t.pressure = some v) (low : t.low = k.low) (high : t.high = k.high) (clock : Clock) (window : Nat) :
    k.Restored v (t.enterReady clock window) := by
  obtain ⟨belowLow, atHigh⟩ := Bank.enterReady_flags pressure clock window
  rw [low] at belowLow
  rw [high] at atHigh
  have rest : (t.enterReady clock window).isolation = t.isolation ∧ (t.enterReady clock window).yields = t.yields := by
    unfold Bank.enterReady Bank.withFlags
    split <;> exact ⟨rfl, rfl⟩
  obtain ⟨_, _, low', high', _, pressure', _⟩ := t.withFlags_settings
  exact ⟨rest.1.trans isolation, rfl, rest.2.trans yields, pressure'.trans pressure, low'.trans low, high'.trans high,
    belowLow, atHigh⟩

theorem Bank.Restored.enterReady {k t : Bank} {v : Nat} (h : k.Restored v t) (clock : Clock) (window : Nat) :
    k.Restored v (t.enterReady clock window) :=
  Bank.restored_enterReady h.isolation h.yields h.pressure h.low h.high clock window

/-- A bank back in service stays so through the end of the rule. -/
theorem Bank.Restored.close {k : Bank} {v : Nat} {w : Work} {b : BankId} (h : k.Restored v (w.bank b)) (s0 : State) :
    k.Restored v ((w.close s0).bank b) := by
  obtain ⟨same, _⟩ | ⟨_, c, taken⟩ := w.close_bank s0 b
  · rw [same]
    exact h
  · rw [taken]
    exact h.claim _

/-! ### RESTORE -/

/-- The checks of RESTORE pass on a sound isolated bank alone (02, R30). -/
theorem restore_sound {b : BankId} {s : State} :
    ((s.bank b).state == .isolated && (s.bank b).pressure.isSome && (s.bank b).temperature.isSome &&
      !(s.bank b).overRated && !(s.bank b).isHot) = true ↔
    ∃ (v : Nat) (x : Int), (s.bank b).state = .isolated ∧ (s.bank b).pressure = some v ∧ v ≤ (s.bank b).rated ∧
      (s.bank b).temperature = some x ∧ x < 850 := by
  unfold Bank.overRated Bank.isHot Config.hotTemperature
  cases (s.bank b).pressure with
  | none => simp
  | some v =>
    cases (s.bank b).temperature with
    | none => simp
    | some x => simp [and_assoc]

/-- The work in which RESTORE has freed the bank, before it is offered (02, R30). -/
def Work.restored (b : BankId) (w : Work) : Work := (w.modBank b (fun k => { k with isolation := none })).freeBank b

theorem Work.answers_restored (w : Work) (b : BankId) : w.toState.Answers (w.restored b).toState :=
  (w.answers_modBank b ⟨rfl, rfl, rfl, rfl, rfl⟩ rfl rfl).trans (Work.answers_freeBank _ b)

theorem Work.restored_bank (w : Work) (b : BankId) : (w.restored b).bank b =
    ({ w.bank b with isolation := none } : Bank).enterReady w.station.clock w.station.leakWindow := by
  unfold Work.restored
  rw [Work.freeBank_bank, Work.modBank_bank_self]
  rfl

theorem Work.restoreVerb_restored {w : Work} {b : BankId} {v : Nat} (h : (w.bank b).pressure = some v) (s0 : State) :
    (w.bank b).Restored v (((w.restoreVerb b).close s0).bank b) := by
  refine Bank.Restored.close ?_ s0
  refine Work.offerBank_bank_keeps (w := w.restored b) (fun e _ _ h => h.claim (.pos e.pos))
    (fun _ h => h.enterReady _ _) ?_
  rw [Work.restored_bank]
  exact Bank.restored_enterReady (k := w.bank b) (t := { w.bank b with isolation := none }) rfl rfl h rfl rfl _ _

/-- With nobody waiting and no evaluation to make, a restored bank is READY (02, R30). -/
theorem Work.restoreVerb_quiet {w : Work} {b : BankId} (nobody : w.waitList = []) (quiet : ¬ Evaluates w.toState)
    (s0 : State) : ((w.restoreVerb b).close s0).bank b = (w.restored b).bank b ∧
      ((w.restoreVerb b).close s0).queued b = (w.restored b).queued b := by
  have list : (w.restored b).waitList = [] :=
    (Work.freeBank_lists _ b).2.1.trans nobody
  have station : (w.restored b).station = w.station := (w.answers_restored b).station
  have suction : (w.restored b).suction = w.suction := Work.freeBank_suction _ b
  have same : w.restoreVerb b = w.restored b := Work.offerBank_nobody b list
  have unevaluated : (w.restoreVerb b).Unevaluated := by
    rw [same]
    refine .inl ?_
    rw [station, suction]
    exact quiet
  obtain ⟨banks, _, queue⟩ := unevaluated.close s0
  rw [same] at banks queue ⊢
  unfold State.bank State.queued
  rw [banks, queue]
  exact ⟨rfl, rfl⟩

/-- The rule of a taken RESTORE (02, R30). -/
theorem rule_restore {s : State} {b : BankId} {v : Nat} (h : (s.bank b).pressure = some v) :
    let t := s.rule (Work.restoreVerb b)
    s.Answers t ∧ (s.bank b).Restored v (t.bank b) ∧
      (s.waitList = [] → ¬ Evaluates s →
        t.bank b = ({ s.bank b with isolation := none } : Bank).enterReady s.station.clock s.station.leakWindow ∧
        t.queued b = (s.queued b || decide (v < (s.bank b).low))) := by
  refine ⟨((Work.answers_restored s.begin b).trans (Work.evolves_offerBank _ b).answers).trans
    (Work.settles_close _ _).answers, Work.restoreVerb_restored (w := s.begin) h s, fun nobody quiet => ?_⟩
  obtain ⟨bank, queued⟩ := Work.restoreVerb_quiet (w := s.begin) (b := b) nobody quiet s
  refine ⟨bank.trans (Work.restored_bank _ b), queued.trans ?_⟩
  have below := (Bank.enterReady_flags (k := { s.bank b with isolation := none }) h s.station.clock
    s.station.leakWindow).1
  unfold Work.restored
  rw [Work.freeBank_queued, Work.modBank_bank_self]
  exact congrArg (s.queued b || ·) below

end Sys2Proof.Machine

/-- Settles O12: the restored bank keeps `Bank.Restored` through the offer and the end of the rule. -/
theorem restoreReturnsASoundBank : Obligations.RestoreReturnsASoundBank := by
  unfold Obligations.RestoreReturnsASoundBank
  intro b a tail s names whole
  have ref := addrRequest_resolve names (cls := 1) rfl 3 1 tail
  refine ⟨fun v x isolated pressure within temperature cool => ?_, fun unsound => congrArg Host.Outcome.next ?_⟩
  · have sound : verbFails (.restore b) tail.data (s.heard (addrRequest a 3 1 1 tail)) = [] :=
      orFail_pass (restore_sound.mpr ⟨v, x, isolated, pressure, within, temperature, cool⟩) .state
    obtain ⟨answers, restored, quiet⟩ := rule_restore (s := s.heard (addrRequest a 3 1 1 tail)) (b := b) pressure
    have runs : exec (.restore a tail) s = .next (State.recordResult .ok
        (State.rule (Work.restoreVerb b) (s.heard (addrRequest a 3 1 1 tail)))) :=
      congrArg Host.Outcome.next (portRequest_verb_taken (v := .restore b) rfl whole ref rfl sound)
    generalize State.rule (Work.restoreVerb b) (s.heard (addrRequest a 3 1 1 tail)) = t at runs answers restored quiet
    refine ⟨_, runs, answers.taken, restored.isolation, restored.service, restored.yields, restored.belowLow,
      restored.atHigh, answers.settings, answers.station, answers.holds, fun nobody calm => ?_⟩
    obtain ⟨ready, queued⟩ := quiet nobody calm
    exact ⟨congrArg Bank.state ready, congrArg Bank.claimant ready, (congrArg Bank.leakRef ready).trans pressure,
      congrArg Bank.leakStamp ready, congrArg Bank.leakTimer ready, queued⟩
  · refine portRequest_verb_refused rfl whole (v := .restore b) ref rfl ?_ (by decide)
    exact congrArg firstFault (orFail_fail (fun passed => unsound (restore_sound.mp passed)) .state)
end

section
/-! SUPPORT. A step and an end of one session, exactly, from any state: how a release leaves the session, what selection
makes of it, what a DEFERRED fallback makes of the step (05, R101; 06, R115 to R121; 07, R133). -/
open Sys2Proof Sys2Proof.Machine
namespace Sys2Proof.Machine

/-! ### What others' grants leave of a session -/

/-- What the service of a loop leaves of position `p`: all but the band it is told, its place on the wait list, and the
banks it claims. -/
structure Work.Leaves (p : PosId) (w t : Work) : Prop where
  pos : ∃ band, t.pos p = { w.pos p with ses.band := band }
  waits : t.waits p = w.waits p
  claims : ∀ b, (t.bank b).claimant = some (.pos p) → (w.bank b).claimant = some (.pos p)

theorem Work.Leaves.refl (p : PosId) (w : Work) : Work.Leaves p w w := ⟨⟨_, rfl⟩, rfl, fun _ => id⟩

theorem Work.Leaves.trans {p : PosId} {a b c : Work} (h : Work.Leaves p a b) (g : Work.Leaves p b c) :
    Work.Leaves p a c := by
  obtain ⟨⟨band, pos⟩, waits, claims⟩ := h
  obtain ⟨⟨band', pos'⟩, waits', claims'⟩ := g
  exact ⟨⟨band', by rw [pos', pos]⟩, waits'.trans waits, fun b e => claims b (claims' b e)⟩

theorem Work.Leaves.state {p : PosId} {w t : Work} (h : Work.Leaves p w t) :
    (t.pos p).ses.state = (w.pos p).ses.state := by
  obtain ⟨band, pos⟩ := h.pos
  rw [pos]

theorem Work.leaves_modLoop (p : PosId) (w : Work) (l : LoopId) (f : Loop → Loop) :
    Work.Leaves p w (w.modLoop l f) := ⟨⟨_, rfl⟩, rfl, fun _ => id⟩

/-- A claim by another party. -/
theorem Bank.claim_other {k : Bank} {c d : Claimant} (other : c ≠ d) (h : (k.claim c).claimant = some d) :
    k.claimant = some d := by
  unfold Bank.claim at h
  split at h
  · exact absurd (Option.some.inj h) other
  · exact h

theorem Work.leaves_pulsingSelect {p q : PosId} (w : Work) (other : p ≠ q) :
    Work.Leaves p w (w.pulsingSelect q) := by
  obtain ⟨pos, waits⟩ := (w.pulsingSelect_selected q).others p other
  refine ⟨⟨_, pos⟩, waits, fun b => ?_⟩
  cases found : w.select (w.needOf q) (w.pos q).cfg.cls.tiers with
  | some c =>
    rw [Work.pulsingSelect_found found]
    show ((w.modBank c (Bank.claim (.pos q))).bank b).claimant = _ → _
    rw [Work.modBank_bank]
    split
    · next e =>
      rw [e]
      exact Bank.claim_other fun same => other (Claimant.pos.inj same).symm
    · exact id
  | none =>
    have banks : (w.joinWaitList q (w.pos q).cfg.cls.tiers).banks = w.banks := by
      unfold Work.joinWaitList; split <;> rfl
    rw [Work.pulsingSelect_none found]
    show ((w.joinWaitList q (w.pos q).cfg.cls.tiers).banks.get b).claimant = _ → _
    rw [banks]
    exact id

theorem Work.leaves_grantGiven {p : PosId} (q : PosId) (w : Work) (hot : (w.pos p).ses.state ≠ .cooling) :
    Work.Leaves p w (w.grantGiven q) := by
  have told : Work.Leaves p w (w.modPos q (fun x => { x with ses.band := .cold })) := by
    refine ⟨?_, rfl, fun _ => id⟩
    rw [Work.modPos_pos]
    split
    · next e => exact ⟨.cold, by rw [e]⟩
    · exact ⟨_, rfl⟩
  unfold Work.grantGiven
  dsimp only
  split
  · next cooling =>
    have other : p ≠ q := by
      rintro rfl
      exact hot cooling
    have cooled : Work.Leaves p (w.modPos q (fun x => { x with ses.band := .cold }))
        ((w.modPos q (fun x => { x with ses.band := .cold })).modPos q
          (fun x => { x with ses.state := .pulsing, tmr.cooling := none })) :=
      ⟨⟨_, Work.modPos_pos_ne _ _ other⟩, rfl, fun _ => id⟩
    exact (told.trans cooled).trans (Work.leaves_pulsingSelect _ other)
  · exact told

theorem Work.leaves_serveQueueN {p : PosId} (n : Nat) (l : LoopId) (w : Work)
    (hot : (w.pos p).ses.state ≠ .cooling) : Work.Leaves p w (Work.serveQueueN n l w) := by
  induction n generalizing w with
  | zero => exact .refl p w
  | succ n ih =>
    unfold Work.serveQueueN
    split
    · exact .refl p w
    · next q rest _ =>
      split
      · have given := (w.leaves_modLoop p l (fun x => { x with grants := x.grants ++ [q], queue := rest })).trans
          (Work.leaves_grantGiven q _ hot)
        exact given.trans (ih _ (given.state ▸ hot))
      · exact .refl p w

/-- A session that is not COOLING leaves its loop (04, R81, R82). -/
theorem Work.leaves_leaveLoop {p : PosId} (w : Work) (hot : (w.pos p).ses.state ≠ .cooling) :
    Work.Leaves p w (w.leaveLoop p) := by
  unfold Work.leaveLoop
  split
  · exact .refl p w
  · next l _ =>
    split
    · exact (w.leaves_modLoop p l _).trans (Work.leaves_serveQueueN 2 l _ hot)
    · split
      · exact (w.leaves_modLoop p l _).trans (Work.leaves_serveQueueN 2 l _ hot)
      · exact .refl p w

/-! ### A bank released -/

/-- The work `t` in which position `p`, off the wait list, has given up bank `b` of `w`: it is free, or for another. -/
structure Work.Released (p : PosId) (b : BankId) (w t : Work) : Prop where
  pos : t.pos p = w.pos p
  waits : t.waits p = false
  others : ∀ c, c ≠ b → t.bank c = w.bank c
  claimant : (t.bank b).claimant ≠ some (.pos p)
  pressure : (t.bank b).pressure = (w.bank b).pressure
  station : t.station = w.station

theorem Work.releaseBank_held {w : Work} {c : Claimant} {b : BankId} (h : w.heldBy c b = true) :
    w.releaseBank c b = (w.freeBank b).offerBank b := if_pos h

theorem State.heldBy_serving {s : State} {p : PosId} {b : BankId} (hc : (s.bank b).claimant = some (.pos p))
    (hs : (s.bank b).state = .serving) : s.heldBy (.pos p) b = true := by
  simp [State.heldBy, hc, hs]

/-- The bank a party has given up is its no longer (02, R32). -/
theorem Work.released_releaseBank {w : Work} {p : PosId} {b : BankId} (held : w.heldBy (.pos p) b = true)
    (off : w.waits p = false) : Work.Released p b w (w.releaseBank (.pos p) b) where
  pos := (Work.passesBy_releaseBank p w _ b off).1
  waits := (Work.passesBy_releaseBank p w _ b off).2
  others := (w.hands_releaseBank _ b).others
  claimant := by
    rw [Work.releaseBank_held held]
    refine Work.offerBank_bank_keeps (P := fun k => k.claimant ≠ some (.pos p)) (fun e he k free taken => ?_)
      (fun k _ => by simp [Bank.enterReady]) (by rw [Work.freeBank_bank]; simp [Bank.enterReady])
    rw [(w.freeBank_lists b).2.1] at he
    have other : e.pos ≠ p := by
      rintro rfl
      rw [State.waits_of_mem he] at off
      cases off
    exact free (Bank.claim_other (fun same => other (Claimant.pos.inj same)) taken)
  pressure := ((Work.evolves_releaseBank w _ b).bank b).pressure
  station := (Work.evolves_releaseBank w _ b).station

/-! ### The end of a fill -/

theorem Work.releaseNamed_passes {w : Work} {p : PosId} (off : w.waits p = false) :
    (w.releaseNamed p).pos p = (w.pos p).dropNames ∧ (w.releaseNamed p).waits p = false := by
  have dropped : (w.modPos p Position.dropNames).pos p = (w.pos p).dropNames := Work.modPos_pos_self _ _ _
  have first : ∀ o : Option BankId, (match o with
      | some b => (w.modPos p Position.dropNames).releaseBank (.pos p) b
      | none => w.modPos p Position.dropNames).pos p = (w.pos p).dropNames ∧ (match o with
      | some b => (w.modPos p Position.dropNames).releaseBank (.pos p) b
      | none => w.modPos p Position.dropNames).waits p = false := fun o => by
    cases o with
    | none => exact ⟨dropped, off⟩
    | some b =>
      obtain ⟨pos, waits⟩ := Work.passesBy_releaseBank p (w.modPos p Position.dropNames) (.pos p) b off
      exact ⟨pos.trans dropped, waits⟩
  obtain ⟨pos, waits⟩ := first (w.pos p).ses.current
  unfold Work.releaseNamed
  dsimp only
  split
  · next b _ =>
    obtain ⟨pos', waits'⟩ := Work.passesBy_releaseBank p _ (.pos p) b waits
    exact ⟨pos'.trans pos, waits'⟩
  · exact ⟨pos, waits⟩

/-- The session after the end of its fill: all of it but the band it is told (05, R101). -/
def Position.atEnd (r : EndReason) (clock : Clock) (band : Band) (x : Position) : Position :=
  Position.startVent { (x.markEnd r clock).dropNames with ses.band := band }

/-- The end of the fill of a session that is not COOLING, once its banks are given up (05, R101). -/
theorem Work.endCore_dropped {w : Work} {p : PosId} (hot : (w.pos p).ses.state ≠ .cooling) (r : EndReason)
    (dropped : ((w.modPos p (Position.markEnd r w.station.clock)).releaseNamed p).pos p =
      ((w.pos p).markEnd r w.station.clock).dropNames) :
    (∃ band, (w.endCore p r).pos p = (w.pos p).atEnd r w.station.clock band) ∧ (w.endCore p r).waits p = false := by
  have left : ((((w.modPos p (Position.markEnd r w.station.clock)).releaseNamed p).leaveWaitList p).pos p) =
      ((w.pos p).markEnd r w.station.clock).dropNames := dropped
  have leaves := Work.leaves_leaveLoop (p := p)
    (((w.modPos p (Position.markEnd r w.station.clock)).releaseNamed p).leaveWaitList p) (by rw [left]; exact hot)
  obtain ⟨band, same⟩ := leaves.pos
  rw [left] at same
  refine ⟨⟨band, ?_⟩, leaves.waits.trans (Work.leaveWaitList_waits_self _ p)⟩
  unfold Work.endCore
  dsimp only
  rw [Work.modPos_pos_self, same]
  rfl

/-- The end of the fill of a session that does not wait for a bank (05, R101). -/
theorem Work.endCore_exact {w : Work} {p : PosId} (off : w.waits p = false) (hot : (w.pos p).ses.state ≠ .cooling)
    (r : EndReason) : (∃ band, (w.endCore p r).pos p = (w.pos p).atEnd r w.station.clock band) ∧
      (w.endCore p r).waits p = false := by
  have dropped := (Work.releaseNamed_passes (w := w.modPos p (Position.markEnd r w.station.clock)) (p := p) off).1
  rw [Work.modPos_pos_self] at dropped
  exact Work.endCore_dropped hot r dropped

/-- The end of the fill of a session that names no bank (05, R101). -/
theorem Work.endCore_unnamed {w : Work} {p : PosId} (current : (w.pos p).ses.current = none)
    (staged : (w.pos p).ses.staged = none) (hot : (w.pos p).ses.state ≠ .cooling) (r : EndReason) :
    (∃ band, (w.endCore p r).pos p = (w.pos p).atEnd r w.station.clock band) ∧ (w.endCore p r).waits p = false := by
  have marked := Work.modPos_pos_self w p (Position.markEnd r w.station.clock)
  refine Work.endCore_dropped hot r ?_
  rw [Work.releaseNamed_unnamed (by rw [marked]; exact current) (by rw [marked]; exact staged), Work.modPos_pos_self,
    marked]

/-- The end of the fill of a session that names no bank leaves it no claim it had not (05, R101). -/
theorem Work.endCore_claims {w : Work} {p : PosId} (current : (w.pos p).ses.current = none)
    (staged : (w.pos p).ses.staged = none) (hot : (w.pos p).ses.state ≠ .cooling) (r : EndReason) (b : BankId)
    (h : ((w.endCore p r).bank b).claimant = some (.pos p)) : (w.bank b).claimant = some (.pos p) := by
  have marked := Work.modPos_pos_self w p (Position.markEnd r w.station.clock)
  have released := Work.releaseNamed_unnamed (w := w.modPos p (Position.markEnd r w.station.clock)) (p := p)
    (by rw [marked]; exact current) (by rw [marked]; exact staged)
  unfold Work.endCore at h
  dsimp only at h
  rw [released] at h
  have left : ((((w.modPos p (Position.markEnd r w.station.clock)).modPos p Position.dropNames).leaveWaitList p).pos
      p).ses.state ≠ .cooling := by
    show ((((w.modPos p _).modPos p Position.dropNames)).pos p).ses.state ≠ .cooling
    rw [Work.modPos_pos_self, marked]
    exact hot
  exact (Work.leaves_leaveLoop _ left).claims b h

theorem Work.endFill_fuelling {w : Work} {p : PosId} (h : (w.pos p).ses.state = .fuelling) (r : EndReason) :
    w.endFill p r = w.endCore p r := if_pos (by rw [h]; rfl)

/-- What the end of a fill leaves of a session, as the rule's end leaves it (05, R101). -/
theorem State.fillEnded_of_atEnd {s t : State} {p : PosId} {x : Position} {r : EndReason} {band : Band}
    (pos : t.pos p = x.atEnd r s.station.clock band) (vent : x.cfg.ventTime = (s.pos p).cfg.ventTime)
    (hold : x.ses.boundHold = (s.pos p).ses.boundHold) (waits : t.waits p = false) : s.FillEnded t p r := by
  unfold State.FillEnded
  rw [pos, ← vent, ← hold]
  exact ⟨rfl, rfl, rfl, rfl, rfl, rfl, rfl, rfl, rfl, rfl, waits⟩

/-! ### Selection -/

/-- A bank that selection takes has a key (06, R115). -/
theorem State.select_key {s : State} {need : Nat} {tiers : List Tier} {b : BankId}
    (h : s.select need tiers = some b) : ∃ tier, (s.selectKey tier need b).isSome = true := by
  induction tiers with
  | nil => cases h
  | cons tier rest ih =>
    unfold State.select at h
    split at h
    · next c found =>
      cases h
      exact ⟨tier, pickLowest_some found⟩
    · exact ih h

/-- Selection reads the banks alone, and a bank it cannot take not at all. -/
theorem State.select_congr_but {s t : State} {b : BankId} {need : Nat} (others : ∀ c, c ≠ b → t.bank c = s.bank c)
    (hs : ∀ tier, s.selectKey tier need b = none) (ht : ∀ tier, t.selectKey tier need b = none) (tiers : List Tier) :
    t.select need tiers = s.select need tiers := by
  have keys : ∀ tier, t.selectKey tier need = s.selectKey tier need := fun tier => by
    funext c
    by_cases own : c = b
    · rw [own, hs, ht]
    · unfold State.selectKey
      rw [others c own]
  induction tiers with
  | nil => rfl
  | cons tier rest ih =>
    unfold State.select
    rw [keys, ih]

theorem State.selectKey_unready {s : State} {b : BankId} (h : (s.bank b).state ≠ .ready) (tier : Tier) (need : Nat) :
    s.selectKey tier need b = none := if_neg fun both => h both.1

theorem State.selectKey_low {s : State} {b : BankId} {u need : Nat} (h : (s.bank b).pressure = some u)
    (low : u < need) (tier : Tier) : s.selectKey tier need b = none := by
  unfold State.selectKey
  dsimp only
  rw [h]
  split
  · simp [Option.filter, low]
  · rfl

/-- A staged bank and the cursor at its tier (06, R116). -/
def Position.staging (b : BankId) (tier : Tier) (x : Position) : Position :=
  { x with ses := { x.ses with staged := some b, cursor := tier } }

theorem Work.selectOrHold_found {w : Work} {p : PosId} {b : BankId}
    (h : w.select (w.needOf p) ((w.pos p).cfg.cls.tiersFrom (w.pos p).ses.cursor) = some b) :
    w.selectOrHold p = (w.claimBank (.pos p) b).modPos p (Position.staging b (w.bank b).tier) := by
  unfold Work.selectOrHold
  rw [Work.fuellingSelect_found h]
  rfl

theorem Work.selectOrHold_none {w : Work} {p : PosId} (current : (w.pos p).ses.current = none)
    (staged : (w.pos p).ses.staged = none)
    (h : w.select (w.needOf p) ((w.pos p).cfg.cls.tiersFrom (w.pos p).ses.cursor) = none) :
    w.selectOrHold p = (w.joinWaitList p ((w.pos p).cfg.cls.tiersFrom (w.pos p).ses.cursor)).modPos p
      (Position.toHeld .noBank) := by
  obtain ⟨_, _, _, pos⟩ := w.joinWaitList_frame p ((w.pos p).cfg.cls.tiersFrom (w.pos p).ses.cursor)
  unfold Work.selectOrHold
  rw [Work.fuellingSelect_none h]
  dsimp only
  rw [if_neg Bool.false_ne_true]
  exact Work.enterHeld_unnamed (by rw [pos]; exact current) (by rw [pos]; exact staged) .noBank

/-- The outcome of selection for the session `x` of position `p` from the state `s`: a bank staged and claimed, or HELD
with a place on the wait list; `b` is not the session's (06, R115, R117). -/
structure State.Chosen (s t : State) (p : PosId) (b : BankId) (x : Position) (found : Option BankId) : Prop where
  outcome : (∃ c, found = some c ∧ t.pos p = x.staging c (s.bank c).tier ∧ (t.bank c).claimant = some (.pos p) ∧
      (t.bank c).state = .serving) ∨
    (found = none ∧ t.pos p = x.toHeld .noBank ∧ t.waits p = true)
  claimant : (t.bank b).claimant ≠ some (.pos p)
  names : ¬ (t.pos p).ses.names b

/-- The outcome is read off the position, its place on the wait list and the banks. -/
theorem State.Chosen.of_eq {s t u : State} {p : PosId} {b : BankId} {x : Position} {found : Option BankId}
    (h : s.Chosen t p b x found) (pos : u.pos p = t.pos p) (banks : u.banks = t.banks)
    (waitList : u.waitList = t.waitList) : s.Chosen u p b x found := by
  obtain ⟨outcome, claimant, names⟩ := h
  have bank : ∀ c, u.bank c = t.bank c := fun c => congrArg (·.get c) banks
  have waits : u.waits p = t.waits p := congrArg (List.any · _) waitList
  simp only [← bank, ← pos, ← waits] at outcome claimant names
  exact ⟨outcome, claimant, names⟩

/-- Selection of a session that names no bank, where it cannot find `b` (06, R115, R117). -/
theorem Work.selectOrHold_chosen {s : State} {w : Work} {p : PosId} {b : BankId}
    (current : (w.pos p).ses.current = none) (staged : (w.pos p).ses.staged = none)
    (free : (w.bank b).claimant ≠ some (.pos p)) (key : ∀ tier, w.selectKey tier (w.needOf p) b = none)
    (tier : ∀ c, c ≠ b → (w.bank c).tier = (s.bank c).tier) :
    s.Chosen (w.selectOrHold p).toState p b (w.pos p)
      (w.select (w.needOf p) ((w.pos p).cfg.cls.tiersFrom (w.pos p).ses.cursor)) := by
  cases found : w.select (w.needOf p) ((w.pos p).cfg.cls.tiersFrom (w.pos p).ses.cursor) with
  | some c =>
    have other : c ≠ b := by
      rintro rfl
      obtain ⟨t, chosen⟩ := State.select_key found
      rw [key] at chosen
      cases chosen
    obtain ⟨serving, claimant⟩ := Bank.claim_serving (State.select_ready found) p
    rw [Work.selectOrHold_found found]
    have bank : ((w.claimBank (.pos p) c).modPos p (Position.staging c (w.bank c).tier)).bank c =
        (w.bank c).claim (.pos p) := Work.claimBank_bank _ _ _
    have rest : ((w.claimBank (.pos p) c).modPos p (Position.staging c (w.bank c).tier)).bank b = w.bank b :=
      Work.modBank_bank_ne _ _ other.symm
    have pos : ((w.claimBank (.pos p) c).modPos p (Position.staging c (w.bank c).tier)).pos p =
        (w.pos p).staging c (w.bank c).tier := Work.modPos_pos_self _ _ _
    refine ⟨.inl ⟨c, rfl, ?_, bank ▸ claimant, bank ▸ serving⟩, rest ▸ free, ?_⟩
    · rw [pos, tier c other]
    · rw [pos]
      simp [Session.names, Position.staging, current, other]
  | none =>
    rw [Work.selectOrHold_none current staged found]
    generalize (w.pos p).cfg.cls.tiersFrom (w.pos p).ses.cursor = tiers
    have banks : (w.joinWaitList p tiers).banks = w.banks := by unfold Work.joinWaitList; split <;> rfl
    have pos : ((w.joinWaitList p tiers).modPos p (Position.toHeld .noBank)).pos p = (w.pos p).toHeld .noBank := by
      rw [Work.modPos_pos_self, (w.joinWaitList_frame p tiers).2.2.2]
    refine ⟨.inr ⟨rfl, pos, w.joinWaitList_waits_self p tiers⟩, ?_, ?_⟩
    · show ((w.joinWaitList p tiers).banks.get b).claimant ≠ _
      rw [banks]
      exact free
    · rw [pos]
      simp [Session.names, Position.toHeld, Position.dropNames]

/-- The end of a rule leaves a position no claim it had not. -/
theorem Work.close_claims {w : Work} {b : BankId} {p : PosId} (h : (w.bank b).claimant ≠ some (.pos p)) (s0 : State) :
    ((w.close s0).bank b).claimant ≠ some (.pos p) := by
  obtain ⟨same, _⟩ | ⟨_, k, taken⟩ := w.close_bank s0 b
  · rw [same]
    exact h
  · rw [taken]
    exact fun e => h (Bank.claim_other (by simp) e)

theorem Work.close_waits (w : Work) (s0 : State) (p : PosId) : (w.close s0).waits p = w.waits p := by
  unfold State.waits
  rw [Work.close_waitList]

/-- What selection made stands through the end of the rule. -/
theorem State.Chosen.close {s : State} {w : Work} {p : PosId} {b : BankId} {x : Position} {found : Option BankId}
    (h : s.Chosen w.toState p b x found) (s0 : State) : s.Chosen (w.close s0) p b x found where
  outcome := by
    obtain ⟨c, same, pos, claimant, serving⟩ | ⟨same, pos, waits⟩ := h.outcome
    · have bank := Work.close_bank_unready (w := w) (b := c) (by rw [serving]; decide) s0
      exact .inl ⟨c, same, (Work.close_pos w s0 p).trans pos, bank ▸ claimant, bank ▸ serving⟩
    · exact .inr ⟨same, (Work.close_pos w s0 p).trans pos, (w.close_waits s0 p).trans waits⟩
  claimant := Work.close_claims h.claimant s0
  names := by
    rw [Work.close_pos]
    exact h.names

/-! ### The rest of a step -/

/-- One more step (06, R119). -/
def Position.countStep (x : Position) : Position := { x with ses.steps := min 255 (x.ses.steps + 1) }

/-- A step without a DEFERRED fallback goes on to selection (06, R119). -/
theorem Work.stepOn_plain {w : Work} {p : PosId} (fuelling : (w.pos p).ses.state = .fuelling)
    (prompt : (w.pos p).ses.deferred = false) : w.stepOn p = (w.modPos p Position.countStep).selectOrHold p := by
  have counted := Work.modPos_pos_self w p Position.countStep
  have still : ((w.modPos p Position.countStep).pos p).ses.deferred ≠ true := by
    rw [counted]
    exact Bool.eq_false_iff.mp prompt
  have again : ((w.modPos p Position.countStep).pos p).ses.state = .fuelling := by
    rw [counted]
    exact fuelling
  unfold Work.stepOn
  dsimp only
  rw [show w.modPos p (fun x => { x with ses.steps := min 255 (x.ses.steps + 1) }) =
    w.modPos p Position.countStep from rfl, if_neg still, if_pos again]

/-- The session at which a DEFERRED fallback has been applied in a step (07, R132, R133). -/
def Position.fallenBack (target : Nat) (x : Position) : Position := Position.fallBack target x.countStep

theorem Work.stepOn_deferred {w : Work} {p : PosId} (deferred : (w.pos p).ses.deferred = true) : w.stepOn p =
    let v := (w.modPos p Position.countStep).applyFallback p
    if (v.pos p).ses.state = .fuelling then v.selectOrHold p else v := by
  have counted := Work.modPos_pos_self w p Position.countStep
  have still : ((w.modPos p Position.countStep).pos p).ses.deferred = true := by
    rw [counted]
    exact deferred
  unfold Work.stepOn
  dsimp only
  rw [show w.modPos p (fun x => { x with ses.steps := min 255 (x.ses.steps + 1) }) =
    w.modPos p Position.countStep from rfl, if_pos still]

theorem Work.countStep_fallBack (w : Work) (p : PosId) : (w.modPos p Position.countStep).modPos p
    (Position.fallBack ((w.modPos p Position.countStep).noncommTarget p)) =
      w.modPos p (Position.fallenBack (w.noncommTarget p)) := by
  have target : (w.modPos p Position.countStep).noncommTarget p = w.noncommTarget p := by
    unfold State.noncommTarget
    rw [Work.modPos_pos_self]
    rfl
  rw [target, Work.modPos_modPos]
  rfl

/-- A step whose fallback brings the target down to the hose pressure ends the fill (07, R133). -/
theorem Work.stepOn_ends {w : Work} {p : PosId} (fuelling : (w.pos p).ses.state = .fuelling)
    (deferred : (w.pos p).ses.deferred = true)
    (reached : min (w.pos p).ses.target (w.noncommTarget p) ≤ w.hoseOf p) :
    w.stepOn p = (w.modPos p (Position.fallenBack (w.noncommTarget p))).endCore p .fullPressure := by
  have fallen := Work.modPos_pos_self w p (Position.fallenBack (w.noncommTarget p))
  have ended : (w.modPos p Position.countStep).applyFallback p =
      (w.modPos p (Position.fallenBack (w.noncommTarget p))).endCore p .fullPressure := by
    unfold Work.applyFallback
    rw [Work.countStep_fallBack]
    have full : ((w.modPos p (Position.fallenBack (w.noncommTarget p))).pos p).ses.target ≤
        State.hoseOf (w.modPos p (Position.fallenBack (w.noncommTarget p))).toState p := by
      unfold State.hoseOf
      rw [fallen]
      exact reached
    dsimp only
    rw [if_pos full, Work.endFill_fuelling (by rw [fallen]; exact fuelling)]
  rw [Work.stepOn_deferred deferred, ended]
  dsimp only
  rw [if_neg]
  rw [(Work.endCore_ended _ p _).state]
  decide

/-- A step whose fallback leaves the target above the hose pressure goes on to selection (06, R119; 07, R133). -/
theorem Work.stepOn_falls {w : Work} {p : PosId} (fuelling : (w.pos p).ses.state = .fuelling)
    (deferred : (w.pos p).ses.deferred = true) (current : (w.pos p).ses.current = none)
    (below : w.hoseOf p < min (w.pos p).ses.target (w.noncommTarget p)) :
    w.stepOn p = (w.modPos p (fun x => (x.fallenBack (w.noncommTarget p)).closeControl)).selectOrHold p := by
  have fallen := Work.modPos_pos_self w p (Position.fallenBack (w.noncommTarget p))
  have judged : (w.modPos p Position.countStep).applyFallback p =
      w.modPos p (fun x => (x.fallenBack (w.noncommTarget p)).closeControl) := by
    unfold Work.applyFallback
    rw [Work.countStep_fallBack]
    have open' : ¬((w.modPos p (Position.fallenBack (w.noncommTarget p))).pos p).ses.target ≤
        State.hoseOf (w.modPos p (Position.fallenBack (w.noncommTarget p))).toState p := by
      unfold State.hoseOf
      rw [fallen]
      exact Nat.not_le.mpr below
    dsimp only
    rw [if_neg open']
    have filling : ((w.pos p).fallenBack (w.noncommTarget p)).ses.state = .fuelling := fuelling
    have bare : ((w.pos p).fallenBack (w.noncommTarget p)).ses.current = none := current
    unfold Work.judgeValve
    dsimp only
    rw [fallen, if_pos filling, if_neg (fun valve => valve.1 bare), Work.modPos_modPos]
  have again : ((w.modPos p (fun x => (x.fallenBack (w.noncommTarget p)).closeControl)).pos p).ses.state =
      .fuelling := by
    rw [Work.modPos_pos_self]
    exact fuelling
  rw [Work.stepOn_deferred deferred, judged]
  exact if_pos again

/-! ### The outcome of a step -/

/-- What becomes, in `t`, of a session `x` of position `p` that gave up bank `b` and steps on, at hose pressure `hose`
and non-comm target `cell`; `found` is what its selection finds (06, R119, R121; 07, R132, R133). -/
structure State.SteppedOn (s t : State) (p : PosId) (b : BankId) (x : Position) (found : Option BankId)
    (hose cell : Nat) : Prop where
  plain : x.ses.deferred = false → s.Chosen t p b x.countStep found
  ends : x.ses.deferred = true → min x.ses.target cell ≤ hose →
    (∃ band, t.pos p = (x.fallenBack cell).atEnd .fullPressure s.station.clock band) ∧ t.waits p = false ∧
      (t.bank b).claimant ≠ some (.pos p)
  falls : x.ses.deferred = true → hose < min x.ses.target cell →
    s.Chosen t p b (x.fallenBack cell).closeControl found

/-- Selection after a change of the session that leaves its hose, class and cursor. -/
theorem Work.selectOrHold_modPos {s : State} {w : Work} {p : PosId} {b : BankId} {f : Position → Position}
    (current : (f (w.pos p)).ses.current = none) (staged : (f (w.pos p)).ses.staged = none)
    (hose : (f (w.pos p)).ses.hose = (w.pos p).ses.hose) (cfg : (f (w.pos p)).cfg = (w.pos p).cfg)
    (cursor : (f (w.pos p)).ses.cursor = (w.pos p).ses.cursor)
    (free : (w.bank b).claimant ≠ some (.pos p)) (key : ∀ tier, w.selectKey tier (w.needOf p) b = none)
    (tier : ∀ c, c ≠ b → (w.bank c).tier = (s.bank c).tier) :
    s.Chosen ((w.modPos p f).selectOrHold p).toState p b (f (w.pos p))
      (w.select (w.needOf p) ((w.pos p).cfg.cls.tiersFrom (w.pos p).ses.cursor)) := by
  have own := Work.modPos_pos_self w p f
  have need : State.needOf (w.modPos p f).toState p = w.needOf p := by
    unfold State.needOf State.hoseOf
    rw [own, hose]
    rfl
  have select := State.select_congr (s := w.toState) (t := (w.modPos p f).toState) rfl
  have chosen := Work.selectOrHold_chosen (s := s) (w := w.modPos p f) (p := p) (b := b) (by rw [own]; exact current)
    (by rw [own]; exact staged) free (by rw [need]; exact key) tier
  rwa [own, need, select, cfg, cursor] at chosen

/-- The rest of a step of a session that names no bank, where its selection cannot find `b` (06, R119, R121). -/
theorem Work.stepOn_outcome {s : State} {w : Work} {p : PosId} {b : BankId}
    (fuelling : (w.pos p).ses.state = .fuelling) (current : (w.pos p).ses.current = none)
    (staged : (w.pos p).ses.staged = none) (free : (w.bank b).claimant ≠ some (.pos p))
    (key : ∀ tier, w.selectKey tier (w.needOf p) b = none) (tier : ∀ c, c ≠ b → (w.bank c).tier = (s.bank c).tier)
    (clock : w.station.clock = s.station.clock) :
    s.SteppedOn (w.stepOn p).toState p b (w.pos p)
      (w.select (w.needOf p) ((w.pos p).cfg.cls.tiersFrom (w.pos p).ses.cursor)) (w.hoseOf p) (w.noncommTarget p) where
  plain := fun prompt => by
    rw [Work.stepOn_plain fuelling prompt]
    exact Work.selectOrHold_modPos (f := Position.countStep) current staged rfl rfl rfl free key tier
  ends := fun deferred reached => by
    have fallen := Work.modPos_pos_self w p (Position.fallenBack (w.noncommTarget p))
    have hot : ((w.modPos p (Position.fallenBack (w.noncommTarget p))).pos p).ses.state ≠ .cooling := by
      rw [fallen]
      intro cooling
      exact absurd (fuelling.symm.trans cooling) (by decide)
    have bare : ((w.modPos p (Position.fallenBack (w.noncommTarget p))).pos p).ses.current = none ∧
        ((w.modPos p (Position.fallenBack (w.noncommTarget p))).pos p).ses.staged = none := by
      rw [fallen]
      exact ⟨current, staged⟩
    obtain ⟨ended, waits⟩ := Work.endCore_unnamed bare.1 bare.2 hot .fullPressure
    rw [fallen, show (w.modPos p (Position.fallenBack (w.noncommTarget p))).station = w.station from rfl, clock]
      at ended
    rw [Work.stepOn_ends fuelling deferred reached]
    exact ⟨ended, waits, fun claimed => free (Work.endCore_claims bare.1 bare.2 hot .fullPressure b claimed)⟩
  falls := fun deferred below => by
    rw [Work.stepOn_falls fuelling deferred current below]
    exact Work.selectOrHold_modPos (f := fun x => (x.fallenBack (w.noncommTarget p)).closeControl) current staged rfl
      rfl rfl free key tier

theorem State.SteppedOn.of_eq {s t u : State} {p : PosId} {b : BankId} {x : Position} {found : Option BankId}
    {hose cell : Nat} (h : s.SteppedOn t p b x found hose cell) (pos : u.pos p = t.pos p) (banks : u.banks = t.banks)
    (waitList : u.waitList = t.waitList) : s.SteppedOn u p b x found hose cell where
  plain := fun prompt => (h.plain prompt).of_eq pos banks waitList
  ends := fun deferred reached => by
    obtain ⟨ended, waits, free⟩ := h.ends deferred reached
    have bank : u.bank b = t.bank b := congrArg (·.get b) banks
    rw [pos, bank]
    exact ⟨ended, (congrArg (List.any · _) waitList).trans waits, free⟩
  falls := fun deferred below => (h.falls deferred below).of_eq pos banks waitList

/-- What a step made stands through the end of the rule. -/
theorem State.SteppedOn.close {s : State} {w : Work} {p : PosId} {b : BankId} {x : Position} {found : Option BankId}
    {hose cell : Nat} (h : s.SteppedOn w.toState p b x found hose cell) (s0 : State) :
    s.SteppedOn (w.close s0) p b x found hose cell where
  plain := fun prompt => (h.plain prompt).close s0
  ends := fun deferred reached => by
    obtain ⟨ended, waits, free⟩ := h.ends deferred reached
    rw [Work.close_pos]
    exact ⟨ended, (w.close_waits s0 p).trans waits, Work.close_claims free s0⟩
  falls := fun deferred below => (h.falls deferred below).close s0

end Sys2Proof.Machine
end

section
/-! SUPPORT. A bank taken out of service and the claimant that is told, and O11 (02, R28, R29; 03, R56; 05, R95; 06,
R121). -/
open Sys2Proof Sys2Proof.Machine
namespace Sys2Proof.Machine

/-! ### The claimant is told -/

/-- The position that claims an isolated bank is told (02, R28). -/
theorem Work.isolateBank_position {w : Work} {b : BankId} {p : PosId} (service : (w.bank b).inService = true)
    (claimed : (w.bank b).claimant = some (.pos p)) (r : IsoReason) :
    w.isolateBank b r = (((w.modBank b (Bank.isolateWith r)).bankLost p b).leaveQueue b).raise 11 := by
  unfold Work.isolateBank
  dsimp only
  rw [if_pos service, claimed]

/-- The compressor that refills an isolated bank unloads (02, R28; 03, R56). -/
theorem Work.isolateBank_compressor {w : Work} {b : BankId} {k : CompId} (service : (w.bank b).inService = true)
    (claimed : (w.bank b).claimant = some (.comp k)) (active : (w.comp k).active = true) (r : IsoReason) :
    w.isolateBank b r = (((w.modBank b (Bank.isolateWith r)).unloadComp k).leaveQueue b).raise 11 := by
  unfold Work.isolateBank
  dsimp only
  rw [if_pos service, claimed]
  dsimp only
  rw [if_pos (by exact active)]

/-- Route closed and every named bank absent: the session whose bank was isolated (05, R95; 06, R121). -/
def Position.bereft (x : Position) : Position := x.closeRoute.dropNames

/-- The pulse of a session whose bank was isolated ends early (05, R95). -/
theorem Work.bankLost_pulsing {w : Work} {p : PosId} {b : BankId} (pulsing : (w.pos p).ses.state = .pulsing)
    (current : (w.pos p).ses.current = some b) :
    (w.bankLost p b).pos p = (w.pos p).bereft.toChecking (w.hoseOf p) := by
  have hose : State.hoseOf (w.modPos p Position.bereft).toState p = w.hoseOf p := by
    unfold State.hoseOf
    rw [Work.modPos_pos_self]
    rfl
  have told : w.bankLost p b = (w.modPos p Position.bereft).enterChecking p := if_pos ⟨pulsing, current⟩
  rw [told, Work.enterChecking_eq, hose, Work.modPos_pos_self, Work.modPos_pos_self]

/-- A FUELLING session whose bank was isolated makes a step without test (06, R121). -/
theorem Work.bankLost_fuelling {w : Work} {p : PosId} {b : BankId} (fuelling : (w.pos p).ses.state = .fuelling)
    (named : (w.pos p).ses.names b) : w.bankLost p b = (w.modPos p Position.bereft).stepOn p := by
  have other : ¬((w.pos p).ses.state = .pulsing ∧ (w.pos p).ses.current = some b) := fun both =>
    absurd (fuelling.symm.trans both.1) (by decide)
  unfold Work.bankLost
  dsimp only
  rw [if_neg other, if_pos ⟨fuelling, named⟩]
  rfl

/-- The step that the isolation of its bank makes a FUELLING session take (06, R121). -/
theorem Work.isolateBank_stepped {w : Work} {p : PosId} {b : BankId} (fuelling : (w.pos p).ses.state = .fuelling)
    (named : (w.pos p).ses.names b) (service : (w.bank b).inService = true)
    (claimed : (w.bank b).claimant = some (.pos p)) (r : IsoReason) :
    w.toState.SteppedOn (w.isolateBank b r).toState p b (w.pos p).bereft
      ((w.modBank b (Bank.isolateWith r)).select (w.needOf p)
        ((w.pos p).cfg.cls.tiersFrom (w.pos p).ses.cursor)) (w.hoseOf p) (w.noncommTarget p) := by
  have own := Work.modPos_pos_self (w.modBank b (Bank.isolateWith r)) p Position.bereft
  have isolated : ((w.modBank b (Bank.isolateWith r)).modPos p Position.bereft).bank b =
      (w.bank b).isolateWith r := Work.modBank_bank_self _ _ _
  have outcome := Work.stepOn_outcome (s := w.toState) (w := (w.modBank b (Bank.isolateWith r)).modPos p
    Position.bereft) (p := p) (b := b) (by rw [own]; exact fuelling) (by rw [own]; rfl) (by rw [own]; rfl)
    (by rw [isolated]; simp [Bank.isolateWith]) (fun tier => State.selectKey_unready (by
      rw [isolated]
      exact fun ready => by cases ready) tier _) (fun c other => by
      show ((w.modBank b (Bank.isolateWith r)).bank c).tier = _
      rw [Work.modBank_bank_ne _ _ other]) rfl
  have hose : State.hoseOf ((w.modBank b (Bank.isolateWith r)).modPos p Position.bereft).toState p = w.hoseOf p := by
    unfold State.hoseOf
    rw [own]
    rfl
  have need : State.needOf ((w.modBank b (Bank.isolateWith r)).modPos p Position.bereft).toState p = w.needOf p := by
    unfold State.needOf
    rw [hose]
    rfl
  have cell : State.noncommTarget ((w.modBank b (Bank.isolateWith r)).modPos p Position.bereft).toState p =
      w.noncommTarget p := by
    unfold State.noncommTarget
    rw [own]
    rfl
  rw [own, hose, need, cell, State.select_congr (t := ((w.modBank b (Bank.isolateWith r)).modPos p
    Position.bereft).toState) (s := (w.modBank b (Bank.isolateWith r)).toState) rfl] at outcome
  rw [Work.isolateBank_position service claimed, Work.bankLost_fuelling (w := w.modBank b (Bank.isolateWith r))
    fuelling named]
  generalize Work.stepOn p _ = v at outcome ⊢
  exact outcome.of_eq rfl rfl rfl

theorem State.Chosen.steps {s t : State} {p : PosId} {b : BankId} {x : Position} {found : Option BankId}
    (h : s.Chosen t p b x found) : (t.pos p).ses.steps = x.ses.steps := by
  obtain ⟨c, _, pos, _, _⟩ | ⟨_, pos, _⟩ := h.outcome <;> (rw [pos]; rfl)

/-- A step counts once, and the session does not name the bank it gave up (06, R119, R121). -/
theorem State.SteppedOn.counted {s t : State} {p : PosId} {b : BankId} {x : Position} {found : Option BankId}
    {hose cell : Nat} (h : s.SteppedOn t p b x found hose cell) :
    (t.pos p).ses.steps = min 255 (x.ses.steps + 1) ∧ ¬ (t.pos p).ses.names b := by
  by_cases deferred : x.ses.deferred = true
  · by_cases reached : min x.ses.target cell ≤ hose
    · obtain ⟨⟨band, pos⟩, _, _⟩ := h.ends deferred reached
      rw [pos]
      exact ⟨rfl, fun named => by cases named <;> contradiction⟩
    · have chosen := h.falls deferred (Nat.not_le.mp reached)
      exact ⟨chosen.steps, chosen.names⟩
  · have chosen := h.plain (Bool.eq_false_iff.mpr deferred)
    exact ⟨chosen.steps, chosen.names⟩

/-! ### ISOLATE -/

theorem Bank.inService_iff (k : Bank) :
    k.inService = true ↔ k.state = .ready ∨ k.state = .serving ∨ k.state = .refilling := by
  simp [Bank.inService, or_assoc]

/-- The rule of a taken ISOLATE (02, R28, R29). -/
theorem rule_isolate {s : State} {b : BankId} (service : (s.bank b).inService = true) :
    let t := s.rule (Work.isolateBank b .host)
    s.Answers t ∧ IsolatedBank s t b .host ∧
      (∀ (p : PosId) (hose : Nat), (s.bank b).claimant = some (.pos p) → (s.pos p).ses.state = .pulsing →
        (s.pos p).ses.current = some b → (s.pos p).ses.hose = some hose →
        t.pos p = (s.pos p).bereft.toChecking hose) ∧
      (∀ p : PosId, (s.bank b).claimant = some (.pos p) → (s.pos p).ses.state = .fuelling → (s.pos p).ses.names b →
        (t.pos p).ses.steps = min 255 ((s.pos p).ses.steps + 1) ∧ ¬ (t.pos p).ses.names b) ∧
      (∀ k : CompId, (s.bank b).claimant = some (.comp k) → (s.comp k).active = true →
        t.comp k = (s.comp k).unload) := by
  intro t
  have answers : s.Answers t :=
    (Work.evolves_isolateBank s.begin b .host).answers.trans (Work.settles_close _ s).answers
  obtain ⟨state, reason, claimant, ref, timer, off, notice⟩ :=
    Work.isolateBank_isolated (w := s.begin) service .host s
  refine ⟨answers, ⟨state, reason, claimant, ref, timer, off, notice, answers.settings, answers.holds,
    fun c => .inl (answers.reading c)⟩, fun p hose claimed pulsing current known => ?_,
    fun p claimed fuelling named => ?_, fun k claimed active => ?_⟩
  · have told : (Work.isolateBank b .host s.begin).pos p = (s.pos p).bereft.toChecking (s.hoseOf p) := by
      rw [Work.isolateBank_position (w := s.begin) service claimed]
      exact Work.bankLost_pulsing (w := s.begin.modBank b (Bank.isolateWith .host)) pulsing current
    have reads : s.hoseOf p = hose := by
      unfold State.hoseOf
      rw [known]
      rfl
    exact (Work.close_pos _ s p).trans (told.trans (by rw [reads]))
  · exact ((Work.isolateBank_stepped (w := s.begin) fuelling named service claimed .host).close s).counted
  · have told : (Work.isolateBank b .host s.begin).comp k = (s.comp k).unload := by
      rw [Work.isolateBank_compressor (w := s.begin) service claimed active]
      exact Work.modComp_comp_self _ _ _
    exact (Work.close_comp_busy (by rw [told]; exact fun stopped => by cases stopped) s).trans told

end Sys2Proof.Machine

/-- Settles O11: `rule_isolate` says what becomes of the bank and of its claimant. -/
theorem isolateTakesABankOutOfService : Obligations.IsolateTakesABankOutOfService := by
  unfold Obligations.IsolateTakesABankOutOfService
  intro b a tail s names whole
  have ref := addrRequest_resolve names (cls := 1) rfl 3 0 tail
  refine ⟨fun state => ?_, fun state => congrArg Host.Outcome.next ?_⟩
  · have service := (Bank.inService_iff (s.bank b)).mpr state
    have passed : verbFails (.isolate b) tail.data (s.heard (addrRequest a 3 1 0 tail)) = [] :=
      orFail_pass service .state
    have runs : exec (.isolate a tail) s = .next (State.recordResult .ok
        (State.rule (Work.isolateBank b .host) (s.heard (addrRequest a 3 1 0 tail)))) :=
      congrArg Host.Outcome.next (portRequest_verb_taken (v := .isolate b) rfl whole ref rfl passed)
    obtain ⟨answers, isolated, pulse, step, unload⟩ :=
      rule_isolate (s := s.heard (addrRequest a 3 1 0 tail)) (b := b) service
    generalize State.rule (Work.isolateBank b .host) (s.heard (addrRequest a 3 1 0 tail)) = t
      at runs answers isolated pulse step unload
    refine ⟨_, runs, answers.taken, isolated, answers.settings, answers.station,
      fun p hose claimed pulsing current known => ?_, step, unload⟩
    have pos := pulse p hose claimed pulsing current known
    rw [State.recordResult_ok, show State.pos { t with port.lastResult := .ok } p = t.pos p from rfl, pos]
    exact ⟨rfl, rfl, rfl, rfl, rfl, rfl, rfl⟩
  · refine portRequest_verb_refused rfl whole (v := .isolate b) ref rfl ?_ (by decide)
    refine congrArg firstFault (orFail_fail (fun service => ?_) .state)
    obtain h | h | h := (Bank.inService_iff _).mp service <;> obtain g | g := state <;>
      exact absurd (h.symm.trans g) (by decide)
end

section
/-! SUPPORT. The end of a pulse and the bank it releases, and O30 (02, R32, R37; 05, R95). -/
open Sys2Proof Sys2Proof.Machine
namespace Sys2Proof.Machine

/-! ### The current bank given up -/

/-- The work in which position `p` has freed its current bank `b`, before the bank is offered (02, R32). -/
def Work.vacated (p : PosId) (b : BankId) (w : Work) : Work := (w.modPos p Position.dropCurrent).freeBank b

section
variable (w : Work) (p : PosId) (b : BankId)

theorem Work.vacated_bank : (w.vacated p b).bank b =
    (w.bank b).enterReady w.station.clock w.station.leakWindow := Work.freeBank_bank _ b

theorem Work.vacated_positions : (w.vacated p b).positions = w.positions.set p (w.pos p).dropCurrent :=
  (Work.freeBank_lists _ b).1

theorem Work.vacated_pos (q : PosId) : (w.vacated p b).pos q = if q = p then (w.pos p).dropCurrent else w.pos q :=
  (congrArg (·.get q) (w.vacated_positions p b)).trans (Work.modPos_pos w p q _)

theorem Work.vacated_waitList : (w.vacated p b).waitList = w.waitList := (Work.freeBank_lists _ b).2.1

theorem Work.vacated_evaluates : Evaluates (w.vacated p b).toState ↔ Evaluates w.toState := by
  have station : (w.vacated p b).station = w.station := (Work.freeBank_lists _ b).2.2
  have suction : (w.vacated p b).suction = w.suction := Work.freeBank_suction _ b
  unfold Evaluates
  rw [station, suction]

theorem Work.vacated_eligible (e : WaitEntry) :
    EligibleFor (w.vacated p b).toState b e ↔ EligibleFor w.toState b e := by
  obtain ⟨tier, _, _, _, _, pressure, _⟩ := (w.bank b).withFlags_settings
  refine eligibleFor_congr ?_ ?_ e <;> rw [Work.vacated_bank]
  · exact tier
  · exact pressure

end

/-- The bank given up is free, or for another (02, R32). -/
theorem Work.vacated_claimant {w : Work} {p : PosId} {b : BankId} (held : w.heldBy (.pos p) b = true)
    (off : w.waits p = false) : (((w.vacated p b).offerBank b).bank b).claimant ≠ some (.pos p) := by
  have released := Work.released_releaseBank (w := w.modPos p Position.dropCurrent) (p := p) (b := b) held off
  rw [Work.releaseBank_held (show State.heldBy (w.modPos p Position.dropCurrent).toState _ _ = true from held)]
    at released
  exact released.claimant

/-! ### The end of a pulse -/

/-- A pulse on a bank its position holds: the bank is freed and offered, then the check begins (05, R95). -/
theorem Work.endPulse_held {w : Work} {p : PosId} {b : BankId} (current : (w.pos p).ses.current = some b)
    (held : w.heldBy (.pos p) b = true) :
    w.endPulse p = ((w.vacated p b).offerBank b).enterChecking p := by
  have released : (w.modPos p Position.dropCurrent).releaseBank (.pos p) b = (w.vacated p b).offerBank b :=
    Work.releaseBank_held held
  unfold Work.endPulse
  dsimp only
  rw [current, ← released]
  rfl

/-- The session after the end of its pulse (05, R95). -/
theorem Work.endPulse_pos {w : Work} {p : PosId} {b : BankId} (current : (w.pos p).ses.current = some b)
    (off : w.waits p = false) : (w.endPulse p).pos p = (w.pos p).dropCurrent.toChecking (w.hoseOf p) := by
  obtain ⟨pos, _⟩ := Work.passesBy_releaseBank p (w.modPos p Position.dropCurrent) (.pos p) b off
  rw [Work.modPos_pos_self] at pos
  have hose : State.hoseOf ((w.modPos p Position.dropCurrent).releaseBank (.pos p) b).toState p = w.hoseOf p := by
    unfold State.hoseOf
    rw [pos]
    rfl
  have ended : w.endPulse p = ((w.modPos p Position.dropCurrent).releaseBank (.pos p) b).enterChecking p := by
    unfold Work.endPulse
    dsimp only
    rw [current]
    rfl
  rw [ended, Work.enterChecking_eq, hose, Work.modPos_pos_self, pos]

theorem Work.evolves_endPulse (w : Work) (p : PosId) : w.Evolves (w.endPulse p) := by
  have closed : w.Evolves (w.modPos p Position.dropCurrent) :=
    Work.Evolves.modPos ⟨rfl, rfl, rfl, rfl, rfl, rfl, rfl, rfl, rfl, rfl, rfl⟩
  unfold Work.endPulse
  dsimp only
  split
  · exact (closed.trans (Work.evolves_releaseBank _ _ _)).trans (Work.evolves_enterChecking _ p)
  · exact closed.trans (Work.evolves_enterChecking _ p)

theorem State.settles_endPulse (s : State) (p : PosId) : s.Settles (s.rule (Work.endPulse p)) :=
  (s.begin.evolves_endPulse p).toSettles.trans (Work.settles_close _ s)

section
variable {s : State} {p : PosId} {b : BankId} (current : (s.pos p).ses.current = some b)
  (held : s.heldBy (.pos p) b = true)
include current held

theorem rule_endPulse_held : s.rule (Work.endPulse p) =
    ((((s.begin.vacated p b).offerBank b).enterChecking p).close s) :=
  congrArg (Work.close s) (Work.endPulse_held (w := s.begin) current held)

/-- The bank is the session's no longer (02, R32). -/
theorem rule_endPulse_claimant (off : s.waits p = false) :
    ((s.rule (Work.endPulse p)).bank b).claimant ≠ some (.pos p) := by
  have free := Work.vacated_claimant (w := s.begin) held off
  rw [rule_endPulse_held current held]
  generalize (s.begin.vacated p b).offerBank b = u at free ⊢
  exact Work.close_claims (w := u.enterChecking p) free s

/-- A session of which no entry is eligible for the bank stands (02, R37). -/
theorem rule_endPulse_others {q : PosId} (other : q ≠ p)
    (ineligible : ∀ e ∈ s.waitList, e.pos = q → ¬ EligibleFor s b e) :
    (s.rule (Work.endPulse p)).pos q = s.pos q := by
  have offered : ((s.begin.vacated p b).offerBank b).pos q = s.pos q := by
    rw [Work.offerBank_pos, Work.vacated_pos, if_neg other]
    · rfl
    · intro e he own eligible
      rw [Work.vacated_waitList] at he
      exact ineligible e he own ((s.begin.vacated_eligible p b e).mp eligible)
  rw [rule_endPulse_held current held, Work.close_pos, Work.enterChecking_eq, Work.modPos_pos_ne _ _ other, offered]

/-- With no eligible entry the bank is READY, or an evaluation gives it to a compressor (02, R32, R37; 03, R50). -/
theorem rule_endPulse_nobody (nobody : ∀ e ∈ s.waitList, ¬ EligibleFor s b e) :
    let t := s.rule (Work.endPulse p)
    t.positions = s.positions.set p (t.pos p) ∧ t.waitList = s.waitList ∧
      ((t.bank b).state = .ready ∨ ((t.bank b).state = .refilling ∧ Evaluates s)) ∧
      (¬ Evaluates s → (t.bank b).state = .ready ∧ (t.bank b).leakRef = (s.bank b).pressure) := by
  intro t
  have ends : t = ((s.begin.vacated p b).enterChecking p).close s := by
    have same : (s.begin.vacated p b).offerBank b = s.begin.vacated p b :=
      Work.offerBank_ineligible fun e he eligible => by
        rw [Work.vacated_waitList] at he
        exact nobody e he ((s.begin.vacated_eligible p b e).mp eligible)
    rw [← same]
    exact rule_endPulse_held current held
  have ready : ((s.begin.vacated p b).enterChecking p).bank b =
      (s.bank b).enterReady s.station.clock s.station.leakWindow := s.begin.vacated_bank p b
  have positions : ((s.begin.vacated p b).enterChecking p).positions =
      s.positions.set p (((s.begin.vacated p b).enterChecking p).pos p) := by
    rw [Work.enterChecking_eq, Work.modPos_pos_self]
    refine (congrArg (Vector.set · p.val _) (s.begin.vacated_positions p b)).trans ?_
    exact Vector.set_set ..
  have idle : ¬ Evaluates s → t.bank b = (s.bank b).enterReady s.station.clock s.station.leakWindow := fun idle => by
    have unevaluated : ((s.begin.vacated p b).enterChecking p).Unevaluated :=
      .inl fun runs => idle ((s.begin.vacated_evaluates p b).mp runs)
    rw [← ready, ends]
    exact congrArg (·.get b) (unevaluated.close s).1
  refine ⟨?_, ?_, ?_, fun quiet => ?_⟩
  · rw [ends, Work.close_pos, Work.close_positions, positions]
  · rw [ends, Work.close_waitList]
    exact s.begin.vacated_waitList p b
  · by_cases evaluates : Evaluates s
    · obtain ⟨same, _⟩ | ⟨was, k, taken⟩ := ((s.begin.vacated p b).enterChecking p).close_bank s b
      · rw [ends, same, ready]
        exact .inl rfl
      · rw [ends, taken]
        exact .inr ⟨Bank.claim_comp_state was k, evaluates⟩
    · rw [idle evaluates]
      exact .inl rfl
  · rw [idle quiet]
    exact ⟨rfl, rfl⟩

/-- The oldest eligible entry is of a PULSING position, which takes the bank (02, R37; 05, R95). -/
theorem rule_endPulse_pulse (naming : s.BankNaming) (off : s.waits p = false) {older younger : List WaitEntry}
    {e : WaitEntry} (list : s.waitList = older ++ e :: younger) (before : ∀ x ∈ older, ¬ EligibleFor s b x)
    (served : EligibleFor s b e) (pulsing : (s.pos e.pos).ses.state = .pulsing) :
    let t := s.rule (Work.endPulse p)
    (t.bank b).state = .serving ∧ (t.bank b).claimant = some (.pos e.pos) ∧ (t.pos e.pos).ses.current = some b ∧
      t.waitList = s.waitList.filter (fun x => x.pos != e.pos) ∧
      ∀ q : PosId, q ≠ p → q ≠ e.pos → t.pos q = s.pos q := by
  have waits : s.waits e.pos = true := State.waits_of_mem (by rw [list]; simp)
  have other : e.pos ≠ p := by
    intro own
    rw [own, off] at waits
    cases waits
  have bare : (s.pos e.pos).ses.current = none := by
    obtain ⟨_, _, _, waiting⟩ := naming e.pos
    obtain ⟨_, bare⟩ | ⟨held, _⟩ := waiting waits
    · exact bare
    · exact absurd (pulsing.symm.trans held) (by decide)
  have pos : (s.begin.vacated p b).pos e.pos = s.pos e.pos := (Work.vacated_pos _ p b e.pos).trans (if_neg other)
  have ready : ((s.begin.vacated p b).bank b).state = .ready := by rw [Work.vacated_bank]; rfl
  have offered : (s.begin.vacated p b).offerBank b = _ :=
    Work.offerBank_pulse ready ((s.begin.vacated_waitList p b).trans list)
      (fun x hx eligible => before x hx ((s.begin.vacated_eligible p b x).mp eligible))
      ((s.begin.vacated_eligible p b e).mpr served) (by rw [pos]; exact pulsing) (by rw [pos]; exact bare)
  obtain ⟨serving, claimant, rest, others, _, own⟩ :=
    (s.begin.vacated p b).served_modPos ready e.pos (Position.startPulse b)
  intro t
  have ends : t = (((s.begin.vacated p b).offerBank b).enterChecking p).close s := rule_endPulse_held current held
  rw [← offered] at serving claimant rest others own
  rw [Work.vacated_waitList] at rest
  generalize (s.begin.vacated p b).offerBank b = u at serving claimant rest others own ends
  have posOf : ∀ q, q ≠ p → t.pos q = u.pos q := fun q out => by
    rw [ends, Work.close_pos, Work.enterChecking_eq, Work.modPos_pos_ne _ _ out]
  have bank : t.bank b = u.bank b := by
    rw [ends]
    refine Work.close_bank_unready (w := u.enterChecking p) ?_ s
    show (u.bank b).state ≠ .ready
    rw [serving]
    decide
  refine ⟨bank ▸ serving, bank ▸ claimant, ?_, ?_, fun q out out' => ?_⟩
  · rw [posOf _ other, own]
    rfl
  · rw [ends, Work.close_waitList]
    exact rest
  · rw [posOf q out, others q out', Work.vacated_pos, if_neg out]
    rfl

end

end Sys2Proof.Machine

/-- Settles O30: the end of a pulse frees its bank, offers it and begins the check; what the offer does is
`Work.offerBank_ineligible` and `Work.offerBank_pulse`. -/
theorem pulseEndsInTheCheck : Obligations.PulseEndsInTheCheck := by
  unfold Obligations.PulseEndsInTheCheck
  intro p b hose s naming pulsing timed current known
  have off : s.waits p = false := Bool.eq_false_iff.mpr fun waits => by
    obtain ⟨_, _, _, waiting⟩ := naming p
    obtain ⟨_, bare⟩ | ⟨held, _⟩ := waiting waits
    · exact absurd (current.symm.trans bare) (by simp)
    · exact absurd (pulsing.symm.trans held) (by decide)
  have settles := s.settles_endPulse p
  refine ⟨s.rule (Work.endPulse p), congrArg Host.Outcome.next (if_pos ⟨timed, pulsing⟩), ?_, fun claimed serving => ?_,
    settles.holds, settles.station, settles.port, settles.sameSettings⟩
  · have reads : s.hoseOf p = hose := by
      unfold State.hoseOf
      rw [known]
      rfl
    rw [← reads]
    exact (Work.close_pos _ s p).trans (Work.endPulse_pos (w := s.begin) current off)
  · have held := State.heldBy_serving claimed serving
    exact ⟨rule_endPulse_claimant current held off, fun q other => rule_endPulse_others current held other,
      rule_endPulse_nobody current held, fun older younger e list before served =>
        rule_endPulse_pulse current held naming off list before served⟩
end

section
/-! SUPPORT. A step of a fill as O39 reads it, from the outcome of `Work.stepOn_outcome` (06, R119, R121; 07, R132,
R133, R138). -/
open Sys2Proof Sys2Proof.Machine
namespace Sys2Proof.Machine

/-! ### The session that steps -/

/-- A session with a hose pressure. -/
def Position.hosed (v : Nat) (x : Position) : Position := { x with ses.hose := some v }

theorem Position.hosed_self {x : Position} {v : Nat} (h : x.ses.hose = some v) : x.hosed v = x := by
  unfold Position.hosed
  rw [← h]

/-- A session with no bank staged gives up its current bank as it would both. -/
theorem Position.dropCurrent_bereft {x : Position} (staged : x.ses.staged = none) : x.dropCurrent = x.bereft := by
  unfold Position.dropCurrent Position.bereft Position.dropNames Position.closeRoute
  rw [← staged]

/-- The outcome of selection reads the tiers of the banks alone. -/
theorem State.Chosen.from {s s' t : State} {p : PosId} {b : BankId} {x : Position} {found : Option BankId}
    (h : s'.Chosen t p b x found) (tier : ∀ c, (s'.bank c).tier = (s.bank c).tier) : s.Chosen t p b x found := by
  obtain ⟨outcome, claimant, names⟩ := h
  simp only [tier] at outcome
  exact ⟨outcome, claimant, names⟩

/-- The outcome of a step reads the tiers of the banks and the clock alone. -/
theorem State.SteppedOn.from {s s' t : State} {p : PosId} {b : BankId} {x : Position} {found : Option BankId}
    {hose cell : Nat} (h : s'.SteppedOn t p b x found hose cell) (tier : ∀ c, (s'.bank c).tier = (s.bank c).tier)
    (clock : s'.station.clock = s.station.clock) : s.SteppedOn t p b x found hose cell where
  plain := fun prompt => (h.plain prompt).from tier
  ends := clock ▸ h.ends
  falls := fun deferred below => (h.falls deferred below).from tier

/-- A session that has stepped has no claim on the bank it gave up. -/
theorem State.SteppedOn.claimant {s t : State} {p : PosId} {b : BankId} {x : Position} {found : Option BankId}
    {hose cell : Nat} (h : s.SteppedOn t p b x found hose cell) : (t.bank b).claimant ≠ some (.pos p) := by
  by_cases deferred : x.ses.deferred = true
  · by_cases reached : min x.ses.target cell ≤ hose
    · exact (h.ends deferred reached).2.2
    · exact (h.falls deferred (Nat.not_le.mp reached)).claimant
  · exact (h.plain (Bool.eq_false_iff.mpr deferred)).claimant

/-- The non-comm target of a used class is the cell its table gives (07, R138). -/
theorem NoncommTarget.cell {s : State} {p : PosId} {cls : PosClass} {v : Nat} (h : NoncommTarget s cls v)
    (own : (s.pos p).cfg.cls = cls) (used : cls = .bus35 ∨ cls = .car70) : s.noncommTarget p = v := by
  obtain ⟨i, absent, present, car, bus⟩ := h
  have band : ambientBand s.station.ambient = i := by
    cases ambient : s.station.ambient with
    | none => exact (absent ambient).symm
    | some x =>
      obtain ⟨i0, i1, i2, i3, i4⟩ := present x ambient
      unfold ambientBand
      dsimp only
      split
      · next h0 => exact (i0 h0).symm
      · next h0 =>
        split
        · next h1 => exact (i1 (by omega) h1).symm
        · next h1 =>
          split
          · next h2 => exact (i2 (by omega) h2).symm
          · next h2 =>
            split
            · next h3 => exact (i3 (by omega) h3).symm
            · next h3 => exact (i4 (by omega)).symm
  unfold State.noncommTarget
  rw [band, own]
  obtain rfl | rfl := used
  · exact (List.getD_eq_getElem?_getD ..).trans (by rw [bus rfl]; rfl)
  · exact (List.getD_eq_getElem?_getD ..).trans (by rw [car rfl]; rfl)

/-! ### The two readings of a step -/

/-- What a step makes of a session that stays in its state. -/
@[simp] theorem Position.hosed_state (x : Position) (v : Nat) : (x.hosed v).ses.state = x.ses.state := rfl
@[simp] theorem Position.bereft_state (x : Position) : x.bereft.ses.state = x.ses.state := rfl
@[simp] theorem Position.countStep_state (x : Position) : x.countStep.ses.state = x.ses.state := rfl
@[simp] theorem Position.fallenBack_state (x : Position) (n : Nat) :
    (x.fallenBack n).ses.state = x.ses.state := rfl
@[simp] theorem Position.closeControl_state (x : Position) : x.closeControl.ses.state = x.ses.state := rfl
@[simp] theorem Position.staging_state (x : Position) (b : BankId) (tier : Tier) :
    (x.staging b tier).ses.state = x.ses.state := rfl

/-- What a step with a fallback to the cell `n` makes of the session `y`, in `z` (06, R119; 07, R132, R133). -/
structure Position.Fell (y z : Position) (n : Nat) : Prop where
  steps : z.ses.steps = min 255 (y.ses.steps + 1)
  current : z.ses.current = none
  supply : z.ses.supply = none
  control : z.ses.control = .closed
  stall : z.tmr.stall = none
  mode : z.ses.mode = some .noncomm
  target : z.ses.target = min y.ses.target n
  ceiling : z.ses.ceiling = min y.ses.ceiling (min y.ses.target n)
  vehicle : z.ses.vehicle = y.ses.vehicle.map (fun g => { g with fallback := .applied })
  deferral : z.tmr.deferral = none
  cfg : z.cfg = y.cfg
  boundHold : z.ses.boundHold = y.ses.boundHold

theorem Position.fell_fallenBack (y : Position) (hose n : Nat) : y.Fell ((y.hosed hose).bereft.fallenBack n) n :=
  ⟨rfl, rfl, rfl, rfl, rfl, rfl, rfl, rfl, rfl, rfl, rfl, rfl⟩

section
variable {s t : State} {p : PosId} {b : BankId} {found : Option BankId} {hose cell : Nat}
  (h : s.SteppedOn t p b ((s.pos p).hosed hose).bereft found hose cell)
  (fuelling : (s.pos p).ses.state = .fuelling)
  (selected : found = s.select (hose + s.station.switchMargin) ((s.pos p).cfg.cls.tiersFrom (s.pos p).ses.cursor))
include h fuelling selected

/-- A step without a deferred fallback (06, R115, R117, R119). -/
theorem State.SteppedOn.stepped (prompt : (s.pos p).ses.deferred = false) : Stepped s t p b hose := by
  obtain ⟨outcome, claimant, _⟩ := h.plain prompt
  subst selected
  unfold Stepped
  obtain ⟨c, chosen, pos, claimed, _⟩ | ⟨nothing, pos, waits⟩ := outcome
  · rw [pos, chosen]
    exact ⟨rfl, rfl, rfl, rfl, rfl, claimant, .inl ⟨by simpa using fuelling, rfl⟩,
      fun _ d same => Option.some.inj same ▸ ⟨rfl, rfl, claimed⟩, fun _ none => by cases none⟩
  · rw [pos, nothing]
    exact ⟨rfl, rfl, rfl, rfl, rfl, claimant, .inr ⟨rfl, rfl, waits, rfl, rfl⟩, fun _ d same => (by cases same),
      fun _ _ => rfl⟩

/-- A step that applies a deferred fallback (06, R119, R121; 07, R132, R133). -/
theorem State.SteppedOn.deferredStep (deferred : (s.pos p).ses.deferred = true) (holds : t.holds = s.holds)
    (station : t.station = s.station) (settings : s.SameSettings t) : DeferredStep s t p hose cell := by
  have fell := Position.fell_fallenBack (s.pos p) hose cell
  have state : (((s.pos p).hosed hose).bereft.fallenBack cell).ses.state = .fuelling := by simpa using fuelling
  have ends := h.ends deferred
  have falls := h.falls deferred
  subst selected
  generalize ((s.pos p).hosed hose).bereft.fallenBack cell = z at fell state ends falls
  obtain ⟨steps, current, supply, control, stall, mode, target, ceiling, vehicle, deferral, cfg, hold⟩ := fell
  unfold DeferredStep
  by_cases reached : min (s.pos p).ses.target cell ≤ hose
  · obtain ⟨⟨band, pos⟩, waits, _⟩ := ends reached
    have ended : s.FillEnded t p .fullPressure :=
      State.fillEnded_of_atEnd pos (congrArg PosConfig.ventTime cfg) hold waits
    rw [pos]
    exact ⟨steps, rfl, rfl, rfl, rfl, mode, target, ceiling, vehicle, rfl, fun _ => ended,
      fun below => absurd reached (Nat.not_le.mpr below), holds, station, settings⟩
  · obtain ⟨outcome, _, _⟩ := falls (Nat.not_le.mp reached)
    obtain ⟨c, chosen, pos, claimed, _⟩ | ⟨nothing, pos, waits⟩ := outcome
    · rw [pos, chosen]
      exact ⟨steps, current, supply, rfl, rfl, mode, target, ceiling, vehicle, deferral,
        fun full => absurd full reached, fun _ => ⟨.inl ⟨state, rfl⟩,
          fun _ d same => Option.some.inj same ▸ ⟨rfl, rfl, claimed⟩, fun _ none => by cases none⟩, holds, station,
        settings⟩
    · rw [pos, nothing]
      exact ⟨steps, rfl, rfl, rfl, rfl, mode, target, ceiling, vehicle, deferral, fun full => absurd full reached,
        fun _ => ⟨.inr ⟨rfl, rfl, waits, rfl, rfl⟩, fun _ d same => (by cases same), fun _ _ => rfl⟩, holds, station,
        settings⟩

end

/-! ### A step from the current bank -/

/-- A step of a FUELLING session from a SERVING current bank below the need level (06, R119). -/
theorem Work.stepFill_stepped {w : Work} {p : PosId} {b : BankId} {u : Nat}
    (fuelling : (w.pos p).ses.state = .fuelling) (current : (w.pos p).ses.current = some b)
    (staged : (w.pos p).ses.staged = none) (claimed : (w.bank b).claimant = some (.pos p))
    (serving : (w.bank b).state = .serving) (off : w.waits p = false) (pressure : (w.bank b).pressure = some u)
    (low : u < w.needOf p) :
    w.toState.SteppedOn (w.stepFill p).toState p b (w.pos p).bereft
      (w.select (w.needOf p) ((w.pos p).cfg.cls.tiersFrom (w.pos p).ses.cursor)) (w.hoseOf p)
      (w.noncommTarget p) := by
  have held : State.heldBy (w.modPos p Position.dropCurrent).toState (.pos p) b = true :=
    State.heldBy_serving (s := w.toState) claimed serving
  have released := Work.released_releaseBank (w := w.modPos p Position.dropCurrent) held off
  have evolves := Work.evolves_releaseBank (w.modPos p Position.dropCurrent) (.pos p) b
  have steps : w.stepFill p = ((w.modPos p Position.dropCurrent).releaseBank (.pos p) b).stepOn p := by
    unfold Work.stepFill
    dsimp only
    rw [current]
    rfl
  rw [steps]
  generalize (w.modPos p Position.dropCurrent).releaseBank (.pos p) b = v at released evolves ⊢
  have own : v.pos p = (w.pos p).bereft := by
    rw [released.pos, Work.modPos_pos_self, Position.dropCurrent_bereft staged]
  have others : ∀ c, c ≠ b → v.bank c = w.bank c := released.others
  have station : v.station = w.station := released.station
  have hose : v.hoseOf p = w.hoseOf p := by
    unfold State.hoseOf
    rw [own]
    rfl
  have need : v.needOf p = w.needOf p := by
    unfold State.needOf
    rw [hose, station]
  have cell : v.noncommTarget p = w.noncommTarget p := by
    have table : v.targetTable = w.targetTable := evolves.targetTable
    unfold State.noncommTarget
    rw [own, station, table]
    rfl
  have key : ∀ tier, v.selectKey tier (v.needOf p) b = none :=
    State.selectKey_low (released.pressure.trans pressure) (need ▸ low)
  have outcome := Work.stepOn_outcome (s := w.toState) (w := v) (p := p) (b := b) (by rw [own]; exact fuelling)
    (by rw [own]; rfl) (by rw [own]; rfl) released.claimant key (fun c other => by rw [others c other])
    (congrArg Station.clock station)
  rw [need] at key
  rw [own, hose, need, cell, State.select_congr_but others
    (fun tier => State.selectKey_unready (by rw [serving]; decide) tier _) key] at outcome
  exact outcome

end Sys2Proof.Machine
end

section
/-! SUPPORT. A hose sample, a pressure of the current bank and an isolation, as they drive a fill, and O39 (05, R90; 06,
R114, R119, R121 to R123; 07, R132, R133). -/
open Sys2Proof Sys2Proof.Machine
namespace Sys2Proof.Machine

/-! ### The step test and the valve -/

/-- The step test with a bank of known pressure (06, R119). -/
theorem State.stepDue_known {s : State} {p : PosId} {b : BankId} {u : Nat} (current : (s.pos p).ses.current = some b)
    (pressure : (s.bank b).pressure = some u) :
    s.stepDue p = true ↔ (s.pos p).ses.control = .opened ∧ u < s.needOf p := by
  unfold State.stepDue
  simp [current, pressure]

theorem State.stepDue_bankless {s : State} {p : PosId} (current : (s.pos p).ses.current = none) :
    s.stepDue p = false := by
  unfold State.stepDue
  simp [current]

/-- The valve judgement is one write of the position (06, R114). -/
theorem Work.judgeValve_fuelling {w : Work} {p : PosId} (fuelling : (w.pos p).ses.state = .fuelling) :
    w.judgeValve p = w.modPos p (if (w.pos p).ses.current ≠ none ∧ w.hoseOf p < (w.pos p).ses.ceiling
      then Position.openControl w.station.stallWindow else Position.closeControl) := by
  unfold Work.judgeValve
  dsimp only
  rw [if_pos fuelling]
  split <;> rfl

theorem judgedValve_openControl (x : Position) (window : Nat) :
    JudgedValve true window x (x.openControl window) := by
  unfold Position.openControl JudgedValve
  split
  · next opened =>
    refine ⟨fun _ => ⟨opened, fun closed => ?_, fun _ => rfl⟩, fun h => by cases h⟩
    exact absurd (opened.symm.trans closed) (by decide)
  · next closed => exact ⟨fun _ => ⟨rfl, fun _ => rfl, fun opened => absurd opened closed⟩, fun h => by cases h⟩

theorem judgedValve_closeControl (x : Position) (window : Nat) : JudgedValve false window x x.closeControl :=
  ⟨fun h => (by cases h), fun _ => ⟨rfl, rfl⟩⟩

/-- An opening of the valve leaves state and current bank. -/
theorem Position.openControl_bank (x : Position) (window : Nat) :
    (x.openControl window).ses.state = x.ses.state ∧ (x.openControl window).ses.current = x.ses.current := by
  unfold Position.openControl
  split <;> exact ⟨rfl, rfl⟩

/-! ### A hose sample -/

/-- A GOOD hose frame of a position. -/
theorem hoseFrame_taken {p : PosId} {lo hi check : Byte} {v : Nat} {s : State} (rx : s.link.rx = none)
    (hv : v = lo.toNat + 256 * hi.toNat) (high : v ≤ 10000)
    (sum : 2 + BitVec.ofNat 8 p.val + lo + hi + check = 0) :
    ∃ t, exec (.sampleFrame [0x5A, 2, BitVec.ofNat 8 p.val, lo, hi, 0, check]) s = .next t ∧
      t = ((s.sampled (.hoseP p) v).hoseSample p v).close s ∧ s.Took t (.hoseP p) (some v) := by
  have index : (BitVec.ofNat 8 p.val).toNat = p.val := by
    have := p.isLt
    rw [BitVec.toNat_ofNat]
    omega
  refine sampleFrame_taken (c := .hoseP p) rx rfl index sum ?_ (Int.natCast_nonneg v)
    (by simpa [channelBounds] using high)
  rw [channelValue_bytes, hv]
  simp [channelIsTemperature]

/-- The work in which the hose pressure of a position is new (05, R90). -/
def State.hosed (s : State) (p : PosId) (v : Nat) : Work := (s.sampled (.hoseP p) v).modPos p (Position.hosed v)

section
variable (s : State) (p : PosId) (v : Nat)

theorem State.hosed_pos : (s.hosed p v).pos p = (s.pos p).hosed v := Work.modPos_pos_self _ _ _

theorem State.hosed_hoseOf : State.hoseOf (s.hosed p v).toState p = v := by
  unfold State.hoseOf
  rw [State.hosed_pos]
  rfl

theorem State.hosed_needOf : State.needOf (s.hosed p v).toState p = v + s.station.switchMargin := by
  unfold State.needOf
  rw [State.hosed_hoseOf]
  rfl

theorem State.hosed_noncommTarget : State.noncommTarget (s.hosed p v).toState p = s.noncommTarget p := by
  unfold State.noncommTarget
  rw [State.hosed_pos]
  rfl

theorem State.hosed_stepDue {s : State} {p : PosId} {v u : Nat} {b : BankId}
    (current : (s.pos p).ses.current = some b) (pressure : (s.bank b).pressure = some u) :
    State.stepDue (s.hosed p v).toState p = true ↔
      (s.pos p).ses.control = .opened ∧ u < v + s.station.switchMargin := by
  have own := s.hosed_pos p v
  have test := State.stepDue_known (s := (s.hosed p v).toState) (p := p) (b := b) (by rw [own]; exact current) pressure
  rwa [own, s.hosed_needOf] at test

/-- The state after a hose sample. -/
def State.afterHose : State := ((s.sampled (.hoseP p) v).hoseSample p v).close s

theorem State.afterHose_station : (s.afterHose p v).station = s.station :=
  (Work.settles_close _ s).station.trans ((s.sampled (.hoseP p) v).hoseSample_evolves p v).station

end

section
variable {s : State} {p : PosId} {v : Nat}

/-- A sample in a FUELLING session: the end, a step or the valve (06, R122). -/
theorem hoseSample_fuelling (fuelling : (s.pos p).ses.state = .fuelling) :
    (s.sampled (.hoseP p) v).hoseSample p v =
      if (s.pos p).ses.target ≤ v then (s.hosed p v).endFill p .fullPressure
      else if State.stepDue (s.hosed p v).toState p then (s.hosed p v).stepFill p else (s.hosed p v).judgeValve p := by
  have same : ((s.sampled (.hoseP p) v).pos p).ses.state = .fuelling := fuelling
  unfold Work.hoseSample
  dsimp only
  rw [same]
  rfl

/-- A hose sample at or above the target ends the fill (06, R122). -/
theorem afterHose_full (fuelling : (s.pos p).ses.state = .fuelling) (off : s.waits p = false)
    (full : (s.pos p).ses.target ≤ v) : s.FillEnded (s.afterHose p v) p .fullPressure := by
  have own := s.hosed_pos p v
  have filling : ((s.hosed p v).pos p).ses.state = .fuelling := by rw [own]; exact fuelling
  have ends : (s.sampled (.hoseP p) v).hoseSample p v = (s.hosed p v).endCore p .fullPressure := by
    rw [hoseSample_fuelling fuelling, if_pos full, Work.endFill_fuelling filling]
  obtain ⟨⟨band, pos⟩, waits⟩ := Work.endCore_exact (w := s.hosed p v) (p := p) off
    (by rw [filling]; decide) .fullPressure
  unfold State.afterHose
  rw [ends]
  rw [own] at pos
  generalize (s.hosed p v).endCore p .fullPressure = w at pos waits ⊢
  exact State.fillEnded_of_atEnd (x := (s.pos p).hosed v) ((Work.close_pos w s p).trans pos) rfl rfl
    ((w.close_waits s p).trans waits)

/-- A hose sample that leaves the current bank below the need level makes the session step (06, R119, R122). -/
theorem afterHose_stepped {b : BankId} {u : Nat} (fuelling : (s.pos p).ses.state = .fuelling)
    (off : s.waits p = false) (below : v < (s.pos p).ses.target) (opened : (s.pos p).ses.control = .opened)
    (current : (s.pos p).ses.current = some b) (staged : (s.pos p).ses.staged = none)
    (pressure : (s.bank b).pressure = some u) (low : u < v + s.station.switchMargin)
    (claimed : (s.bank b).claimant = some (.pos p)) (serving : (s.bank b).state = .serving) :
    s.SteppedOn (s.afterHose p v) p b ((s.pos p).hosed v).bereft
      (s.select (v + s.station.switchMargin) ((s.pos p).cfg.cls.tiersFrom (s.pos p).ses.cursor)) v
      (s.noncommTarget p) := by
  have own := s.hosed_pos p v
  have need := s.hosed_needOf p v
  have due : State.stepDue (s.hosed p v).toState p = true := (State.hosed_stepDue current pressure).mpr ⟨opened, low⟩
  have steps : (s.sampled (.hoseP p) v).hoseSample p v = (s.hosed p v).stepFill p := by
    rw [hoseSample_fuelling fuelling, if_neg (Nat.not_le.mpr below), if_pos due]
  have outcome := Work.stepFill_stepped (w := s.hosed p v) (by rw [own]; exact fuelling)
    (by rw [own]; exact current) (by rw [own]; exact staged) claimed serving off pressure (need ▸ low)
  rw [own, need, s.hosed_hoseOf, s.hosed_noncommTarget,
    State.select_congr (s := s) (t := (s.hosed p v).toState) rfl] at outcome
  unfold State.afterHose
  rw [steps]
  exact (outcome.from (s := s) (fun _ => rfl) rfl).close s

/-- A hose sample that makes no step judges the valve, and no bank changes (06, R114, R122). -/
theorem afterHose_judged (fuelling : (s.pos p).ses.state = .fuelling) (below : v < (s.pos p).ses.target)
    (rest : State.stepDue (s.hosed p v).toState p = false) :
    (s.afterHose p v).pos p = (if (s.pos p).ses.current ≠ none ∧ v < (s.pos p).ses.ceiling
      then Position.openControl s.station.stallWindow else Position.closeControl) ((s.pos p).hosed v) ∧
    (s.afterHose p v).banks = s.banks := by
  have own := s.hosed_pos p v
  have judged : (s.sampled (.hoseP p) v).hoseSample p v = (s.hosed p v).modPos p
      (if (s.pos p).ses.current ≠ none ∧ v < (s.pos p).ses.ceiling
        then Position.openControl s.station.stallWindow else Position.closeControl) := by
    rw [hoseSample_fuelling fuelling, if_neg (Nat.not_le.mpr below), if_neg (by simp [rest]),
      Work.judgeValve_fuelling (by rw [own]; exact fuelling), s.hosed_hoseOf, own]
    rfl
  unfold State.afterHose
  rw [judged, Work.close_pos, Work.modPos_pos_self, own, Work.close_nothingDue rfl rfl]
  exact ⟨rfl, rfl⟩

/-- The valve of a session with a current bank, after a hose sample that makes no step (06, R114, R122). -/
theorem afterHose_valve {b : BankId} (fuelling : (s.pos p).ses.state = .fuelling) (below : v < (s.pos p).ses.target)
    (current : (s.pos p).ses.current = some b) (rest : State.stepDue (s.hosed p v).toState p = false) :
    JudgedValve (decide (v < (s.pos p).ses.ceiling)) s.station.stallWindow (s.pos p) ((s.afterHose p v).pos p) ∧
      ((s.afterHose p v).pos p).ses.state = .fuelling ∧ ((s.afterHose p v).pos p).ses.current = some b := by
  rw [(afterHose_judged fuelling below rest).1]
  by_cases under : v < (s.pos p).ses.ceiling
  · obtain ⟨state, bank⟩ := ((s.pos p).hosed v).openControl_bank s.station.stallWindow
    rw [if_pos ⟨by simp [current], under⟩, decide_eq_true under]
    exact ⟨judgedValve_openControl ((s.pos p).hosed v) _, state.trans fuelling, bank.trans current⟩
  · rw [if_neg fun both => under both.2, decide_eq_false under]
    exact ⟨judgedValve_closeControl ((s.pos p).hosed v) _, fuelling, current⟩

/-- In any other state a hose sample sets the field and the need level alone (05, R90; 02, R35). -/
theorem afterHose_other (other : (s.pos p).ses.state ≠ .fuelling) :
    (s.afterHose p v).pos p = (s.pos p).hosed v ∧ (s.afterHose p v).banks = s.banks := by
  have same : (s.sampled (.hoseP p) v).hoseSample p v = (s.hosed p v).renewNeed p ∨
      (s.sampled (.hoseP p) v).hoseSample p v = s.hosed p v := by
    unfold Work.hoseSample
    dsimp only
    split
    · exact .inl rfl
    · exact .inl rfl
    · next fuelling => exact absurd fuelling other
    · exact .inr rfl
  unfold State.afterHose
  obtain renewed | plain := same
  · rw [renewed, Work.close_pos, Work.close_nothingDue rfl rfl]
    exact ⟨s.hosed_pos p v, rfl⟩
  · rw [plain, Work.close_pos, Work.close_nothingDue rfl rfl]
    exact ⟨s.hosed_pos p v, rfl⟩

/-- A hose sample renews the need level of a session that may wait for a bank (02, R35). -/
theorem afterHose_need (waiting : (s.pos p).ses.state = .pulsing ∨ (s.pos p).ses.state = .held) :
    ∀ e ∈ (s.afterHose p v).waitList, e.pos = p → e.need = v + s.station.switchMargin := by
  have renewed : (s.sampled (.hoseP p) v).hoseSample p v = (s.hosed p v).renewNeed p := by
    have same : ((s.sampled (.hoseP p) v).pos p).ses.state = (s.pos p).ses.state := rfl
    unfold Work.hoseSample
    dsimp only
    rw [same]
    obtain pulsing | held := waiting
    · rw [pulsing]
      rfl
    · rw [held]
      rfl
  intro e he own
  unfold State.afterHose at he
  rw [renewed, Work.close_waitList] at he
  obtain ⟨x, _, rfl⟩ := List.mem_map.mp he
  split
  · exact s.hosed_needOf p v
  · next out =>
    rw [if_neg out] at own
    exact absurd (beq_iff_eq.mpr own) out

end

/-! ### A pressure of the current bank -/

/-- New flags leave everything but the bank's flags and the refill queue (02, R23). -/
theorem Work.reflag_frame (w : Work) (b : BankId) : (w.reflag b).positions = w.positions ∧
    (w.reflag b).waitList = w.waitList ∧ (w.reflag b).targetTable = w.targetTable ∧
    ∀ c, c ≠ b → (w.reflag b).bank c = w.bank c := by
  have joined : ∀ v : Work, (v.joinQueue b).positions = v.positions ∧ (v.joinQueue b).waitList = v.waitList ∧
      (v.joinQueue b).targetTable = v.targetTable ∧ ∀ c, (v.joinQueue b).bank c = v.bank c := fun v => by
    unfold Work.joinQueue
    split <;> exact ⟨rfl, rfl, rfl, fun _ => rfl⟩
  obtain ⟨positions, waitList, table, banks⟩ := joined (w.modBank b Bank.withFlags)
  unfold Work.reflag
  dsimp only
  split
  · exact ⟨positions, waitList, table, fun c other => (banks c).trans (Work.modBank_bank_ne _ _ other)⟩
  · exact ⟨rfl, rfl, rfl, fun c other => Work.modBank_bank_ne _ _ other⟩

/-- The work in which a bank's pressure and flags are new (02, R24). -/
def Work.repressed (b : BankId) (v : Nat) (w : Work) : Work :=
  (w.modBank b (fun k => { k with pressure := some v })).reflag b

section
variable (w : Work) (b : BankId) (v : Nat)

theorem Work.repressed_bank : (w.repressed b v).bank b = (w.bank b).pressed v := (w.pressed_reflag b v).bank

theorem Work.repressed_bank_ne {c : BankId} (other : c ≠ b) : (w.repressed b v).bank c = w.bank c :=
  ((Work.reflag_frame _ b).2.2.2 c other).trans (Work.modBank_bank_ne _ _ other)

theorem Work.repressed_pos (q : PosId) : (w.repressed b v).pos q = w.pos q :=
  congrArg (·.get q) (Work.reflag_frame (w.modBank b (fun k => { k with pressure := some v })) b).1

theorem Work.repressed_waits (q : PosId) : (w.repressed b v).waits q = w.waits q :=
  congrArg (List.any · _) (Work.reflag_frame (w.modBank b (fun k => { k with pressure := some v })) b).2.1

theorem Work.repressed_station : (w.repressed b v).station = w.station := (w.pressed_reflag b v).station

theorem Work.repressed_hoseOf (q : PosId) : (w.repressed b v).hoseOf q = w.hoseOf q := by
  unfold State.hoseOf
  rw [Work.repressed_pos]

theorem Work.repressed_needOf (q : PosId) : (w.repressed b v).needOf q = w.needOf q := by
  unfold State.needOf
  rw [Work.repressed_hoseOf, Work.repressed_station]

theorem Work.repressed_noncommTarget (q : PosId) : (w.repressed b v).noncommTarget q = w.noncommTarget q := by
  have table : (w.repressed b v).targetTable = w.targetTable :=
    (Work.reflag_frame (w.modBank b (fun k => { k with pressure := some v })) b).2.2.1
  unfold State.noncommTarget
  rw [Work.repressed_pos, Work.repressed_station, table]

end

/-- A pressure within the rated one of a bank that serves a position goes to the position (02, R24). -/
theorem Work.bankPressure_serving {w : Work} {b : BankId} {p : PosId} {v : Nat}
    (serving : (w.bank b).state = .serving) (claimed : (w.bank b).claimant = some (.pos p))
    (within : v ≤ (w.bank b).rated) : w.bankPressure b v = (w.repressed b v).pressureToPos p b := by
  have bank := w.repressed_bank b v
  have rated : ((w.bank b).pressed v).overRated = false := decide_eq_false (Nat.not_lt.mpr within)
  have state : ((w.bank b).pressed v).state = .serving := serving
  have claimant : ((w.bank b).pressed v).claimant = some (.pos p) := claimed
  rw [Work.bankPressure_judged (by rw [serving]; decide)]
  unfold Work.judgePressure
  dsimp only
  rw [show (w.modBank b (fun k => { k with pressure := some v })).reflag b = w.repressed b v from rfl, bank,
    if_neg (by simp [rated]), state, claimant]

/-- The state after a pressure sample of a bank. -/
def State.afterPressure (s : State) (b : BankId) (v : Nat) : State :=
  ((s.sampled (.bankP b) v).bankPressure b v).close s

section
variable {s : State} {p : PosId} {b : BankId} {v : Nat} (serving : (s.bank b).state = .serving)
  (claimed : (s.bank b).claimant = some (.pos p)) (within : v ≤ (s.bank b).rated)
include serving claimed within

theorem afterPressure_serving :
    s.afterPressure b v = (((s.sampled (.bankP b) v).repressed b v).pressureToPos p b).close s :=
  congrArg (Work.close s) (Work.bankPressure_serving (w := s.sampled (.bankP b) v) serving claimed within)

theorem afterPressure_station : (s.afterPressure b v).station = s.station := by
  rw [afterPressure_serving serving claimed within]
  refine (Work.settles_close _ s).station.trans ((Work.evolves_pressureToPos _ p b).station.trans ?_)
  exact Work.repressed_station _ b v

/-- A pressure of the current bank below the need level makes the session step (06, R119, R123). -/
theorem afterPressure_stepped {hose : Nat} (fuelling : (s.pos p).ses.state = .fuelling) (off : s.waits p = false)
    (opened : (s.pos p).ses.control = .opened) (current : (s.pos p).ses.current = some b)
    (staged : (s.pos p).ses.staged = none) (known : (s.pos p).ses.hose = some hose)
    (low : v < hose + s.station.switchMargin) :
    s.SteppedOn (s.afterPressure b v) p b ((s.pos p).hosed hose).bereft
      (s.select (hose + s.station.switchMargin) ((s.pos p).cfg.cls.tiersFrom (s.pos p).ses.cursor)) hose
      (s.noncommTarget p) := by
  have reads : s.hoseOf p = hose := by
    unfold State.hoseOf
    rw [known]
    rfl
  have need : s.needOf p = hose + s.station.switchMargin := by
    unfold State.needOf
    rw [reads]
  rw [afterPressure_serving serving claimed within, Position.hosed_self known]
  have own : ((s.sampled (.bankP b) v).repressed b v).pos p = s.pos p := Work.repressed_pos _ b v p
  have bank : ((s.sampled (.bankP b) v).repressed b v).bank b = (s.bank b).pressed v := Work.repressed_bank _ b v
  have others : ∀ c, c ≠ b → ((s.sampled (.bankP b) v).repressed b v).bank c = s.bank c :=
    fun c other => Work.repressed_bank_ne _ b v other
  have waits : ((s.sampled (.bankP b) v).repressed b v).waits p = s.waits p := Work.repressed_waits _ b v p
  have hoseOf : ((s.sampled (.bankP b) v).repressed b v).hoseOf p = s.hoseOf p := Work.repressed_hoseOf _ b v p
  have needOf : ((s.sampled (.bankP b) v).repressed b v).needOf p = s.needOf p := Work.repressed_needOf _ b v p
  have cell : ((s.sampled (.bankP b) v).repressed b v).noncommTarget p = s.noncommTarget p :=
    Work.repressed_noncommTarget _ b v p
  have station : ((s.sampled (.bankP b) v).repressed b v).station = s.station := Work.repressed_station _ b v
  generalize (s.sampled (.bankP b) v).repressed b v = w at own bank others waits hoseOf needOf cell station ⊢
  have keeps : (w.bank b).pressure = some v ∧ (w.bank b).state = .serving ∧
      (w.bank b).claimant = some (.pos p) ∧ (w.bank b).tier = (s.bank b).tier := by
    rw [bank]
    exact ⟨rfl, serving, claimed, rfl⟩
  obtain ⟨pressure, state, claimant, tierB⟩ := keeps
  have tier : ∀ c, (w.bank c).tier = (s.bank c).tier := fun c => by
    by_cases same : c = b
    · rw [same, tierB]
    · rw [others c same]
  have due : w.stepDue p = true :=
    (State.stepDue_known (by rw [own]; exact current) pressure).mpr ⟨by rw [own]; exact opened, by
      rw [needOf, need]; exact low⟩
  have steps : w.pressureToPos p b = w.stepFill p := by
    unfold Work.pressureToPos
    dsimp only
    rw [own, if_pos ⟨fuelling, current, due⟩]
  have outcome := Work.stepFill_stepped (w := w) (p := p) (b := b) (by rw [own]; exact fuelling)
    (by rw [own]; exact current) (by rw [own]; exact staged) claimant state (waits.trans off) pressure
    (by rw [needOf, need]; exact low)
  rw [own, hoseOf, reads, needOf, need, cell, State.select_congr_but (s := s) others
    (fun tier => State.selectKey_unready (by rw [serving]; decide) tier _)
    (fun tier => State.selectKey_unready (by rw [state]; decide) tier _)] at outcome
  rw [steps]
  exact (outcome.from (s := s) tier (congrArg Station.clock station)).close s

/-- A pressure of the current bank that makes no step leaves the session (06, R123). -/
theorem afterPressure_rests {hose : Nat} (current : (s.pos p).ses.current = some b)
    (known : (s.pos p).ses.hose = some hose)
    (rest : (s.pos p).ses.control = .closed ∨ hose + s.station.switchMargin ≤ v) :
    (s.afterPressure b v).pos p = s.pos p := by
  have own : ((s.sampled (.bankP b) v).repressed b v).pos p = s.pos p := Work.repressed_pos _ b v p
  have need : ((s.sampled (.bankP b) v).repressed b v).needOf p = hose + s.station.switchMargin := by
    rw [Work.repressed_needOf]
    show s.hoseOf p + s.station.switchMargin = _
    unfold State.hoseOf
    rw [known]
    rfl
  have pressure : (((s.sampled (.bankP b) v).repressed b v).bank b).pressure = some v := by
    rw [Work.repressed_bank]
    rfl
  rw [afterPressure_serving serving claimed within, Work.close_pos]
  generalize (s.sampled (.bankP b) v).repressed b v = w at own need pressure ⊢
  have idle : ¬ w.stepDue p = true := fun due => by
    obtain ⟨opened, low⟩ := (State.stepDue_known (by rw [own]; exact current) pressure).mp due
    rw [own] at opened
    rw [need] at low
    obtain closed | high := rest
    · exact absurd (opened.symm.trans closed) (by decide)
    · omega
  unfold Work.pressureToPos
  dsimp only
  rw [if_neg fun both => idle both.2.2, own]

end

/-! ### An isolation of the current or the staged bank -/

/-- A FUELLING session steps when its bank is isolated (06, R121). -/
theorem rule_isolate_stepped {s : State} {p : PosId} {b : BankId} {hose : Nat}
    (serving : (s.bank b).state = .serving) (claimed : (s.bank b).claimant = some (.pos p))
    (fuelling : (s.pos p).ses.state = .fuelling) (named : (s.pos p).ses.names b)
    (known : (s.pos p).ses.hose = some hose) :
    s.SteppedOn (s.rule (Work.isolateBank b .host)) p b ((s.pos p).hosed hose).bereft
      (s.select (hose + s.station.switchMargin) ((s.pos p).cfg.cls.tiersFrom (s.pos p).ses.cursor)) hose
      (s.noncommTarget p) := by
  have reads : s.hoseOf p = hose := by
    unfold State.hoseOf
    rw [known]
    rfl
  have need : s.needOf p = hose + s.station.switchMargin := by
    unfold State.needOf
    rw [reads]
  have service : (s.bank b).inService = true := (Bank.inService_iff _).mpr (.inr (.inl serving))
  have outcome := Work.isolateBank_stepped (w := s.begin) fuelling named service claimed .host
  have isolated : ∀ tier, State.selectKey (s.begin.modBank b (Bank.isolateWith .host)).toState tier
      (s.needOf p) b = none := fun tier => State.selectKey_unready (by
    rw [Work.modBank_bank_self]
    exact fun ready => by cases ready) tier _
  rw [State.begin_toState, State.select_congr_but (s := s) (fun c other => Work.modBank_bank_ne _ _ other)
    (fun tier => State.selectKey_unready (by rw [serving]; decide) tier _) isolated, need, reads] at outcome
  rw [Position.hosed_self known]
  exact State.SteppedOn.close outcome s

/-! ### The three samples together -/

/-- A FUELLING session that names its banks singly does not wait, and has none staged beside a current one. -/
theorem State.BankNaming.fuelling {s : State} {p : PosId} (h : s.BankNaming)
    (fuelling : (s.pos p).ses.state = .fuelling) : s.waits p = false ∧
      ∀ b, (s.pos p).ses.current = some b → (s.pos p).ses.staged = none := by
  obtain ⟨_, staged, _, waiting⟩ := h p
  refine ⟨Bool.eq_false_iff.mpr fun waits => ?_, fun b current => ?_⟩
  · obtain ⟨other, _⟩ | ⟨other, _⟩ := waiting waits <;> exact absurd (fuelling.symm.trans other) (by decide)
  · rw [← Option.not_isSome_iff_eq_none]
    intro some
    rw [(staged some).2] at current
    cases current

end Sys2Proof.Machine

/-- Settles O39: the three samples are read off `State.SteppedOn`, the end of a fill and the valve judgement. -/
theorem samplesDriveTheFill : Obligations.SamplesDriveTheFill := by
  unfold Obligations.SamplesDriveTheFill
  intro p lo hi check v s rx hv naming _
  refine ⟨fun high sum => ?_, fun b hose high within sum serving claimed fuelling current known => ?_,
    fun b hose nv cls a tail names whole serving claimed fuelling named known deferred own used target => ?_⟩
  · obtain ⟨t, runs, ends, took⟩ := hoseFrame_taken rx hv high sum
    have after : t = s.afterHose p v := ends
    have station : t.station = s.station := after ▸ s.afterHose_station p v
    refine ⟨t, runs, ?_, fun fuelling full => ?_, fun b u fuelling below opened current pressure low prompt claimed
      serving => ?_, fun b u nv cls fuelling below opened current pressure low deferred claimed serving own used
      target => ?_, fun b u fuelling below current pressure rest => ?_, fun fuelling below current => ?_,
      fun waiting => ?_, fun other => ?_⟩
    · have reads : (t.pos p).ses.hose.map Int.ofNat = some (v : Int) := took.reading
      cases hose : (t.pos p).ses.hose with
      | none =>
        rw [hose] at reads
        cases reads
      | some n =>
        rw [hose] at reads
        exact congrArg some (Int.ofNat.inj (Option.some.inj reads))
    · rw [after]
      exact afterHose_full fuelling (naming.fuelling fuelling).1 full
    · obtain ⟨off, unstaged⟩ := naming.fuelling fuelling
      rw [after]
      exact (afterHose_stepped fuelling off below opened current (unstaged b current) pressure low claimed
        serving).stepped fuelling rfl prompt
    · obtain ⟨off, unstaged⟩ := naming.fuelling fuelling
      have stepped := afterHose_stepped fuelling off below opened current (unstaged b current) pressure low claimed
        serving
      rw [target.cell own used, ← after] at stepped
      exact ⟨stepped.deferredStep fuelling rfl deferred took.holds station took.settings, stepped.claimant⟩
    · have idle : State.stepDue (s.hosed p v).toState p = false := Bool.eq_false_iff.mpr fun due => by
        obtain ⟨opened, low⟩ := (State.hosed_stepDue current pressure).mp due
        obtain closed | above := rest
        · exact absurd (closed.symm.trans opened) (by decide)
        · omega
      obtain ⟨valve, filling, bank⟩ := afterHose_valve fuelling below current idle
      rw [after]
      exact ⟨valve, filling, bank, (afterHose_judged fuelling below idle).2⟩
    · obtain ⟨pos, banks⟩ := afterHose_judged fuelling below
        (State.stepDue_bankless (by rw [s.hosed_pos]; exact current))
      rw [after, pos, if_neg fun both => both.1 current]
      exact ⟨judgedValve_closeControl _ _, fuelling⟩
    · rw [after]
      exact afterHose_need waiting
    · rw [after]
      exact afterHose_other other
  · obtain ⟨t, runs, ends, took⟩ := pressureFrame_taken rx hv high sum
    have after : t = s.afterPressure b v := ends
    have station : t.station = s.station := after ▸ afterPressure_station serving claimed within
    obtain ⟨off, unstaged⟩ := naming.fuelling fuelling
    refine ⟨t, runs, fun opened low prompt => ?_, fun nv cls opened low deferred own used target => ?_,
      fun rest => ?_⟩
    · rw [after]
      exact (afterPressure_stepped serving claimed within fuelling off opened current (unstaged b current) known
        low).stepped fuelling rfl prompt
    · have stepped := afterPressure_stepped serving claimed within fuelling off opened current (unstaged b current)
        known low
      rw [target.cell own used, ← after] at stepped
      exact ⟨stepped.deferredStep fuelling rfl deferred took.holds station took.settings, stepped.claimant⟩
    · rw [after]
      exact afterPressure_rests serving claimed within current known rest
  · have ref := addrRequest_resolve names (cls := 1) rfl 3 0 tail
    have service := (Bank.inService_iff (s.bank b)).mpr (.inr (.inl serving))
    have runs : exec (.isolate a tail) s = .next (State.recordResult .ok
        (State.rule (Work.isolateBank b .host) (s.heard (addrRequest a 3 1 0 tail)))) :=
      congrArg Host.Outcome.next
        (portRequest_verb_taken (v := .isolate b) rfl whole ref rfl (orFail_pass service .state))
    obtain ⟨answers, isolated, _⟩ := rule_isolate (s := s.heard (addrRequest a 3 1 0 tail)) (b := b) service
    have stepped := rule_isolate_stepped (s := s.heard (addrRequest a 3 1 0 tail)) serving claimed fuelling named known
    rw [State.select_congr (s := s) (t := s.heard (addrRequest a 3 1 0 tail)) rfl] at stepped
    generalize State.rule (Work.isolateBank b .host) (s.heard (addrRequest a 3 1 0 tail)) = t
      at runs answers isolated stepped
    have recorded : s.SteppedOn (t.recordResult .ok) p b ((s.pos p).hosed hose).bereft _ hose (s.noncommTarget p) :=
      (stepped.from (s := s) (fun _ => rfl) rfl).of_eq rfl rfl rfl
    rw [target.cell own used] at recorded
    exact ⟨_, runs, recorded.deferredStep fuelling rfl deferred answers.holds answers.station answers.settings,
      isolated.1⟩
end

section
/-! SUPPORT. Level flags and the place on the refill queue through a rule: what hands banks over keeps both, and O10
(02, R23, R24). -/
open Sys2Proof Sys2Proof.Machine
namespace Sys2Proof.Machine

/-! ### A bank whose flags say its level -/

/-- The level flags agree with the latest pressure and the marks (02, R23). -/
def Bank.Levelled (k : Bank) : Prop :=
  ∀ v, k.pressure = some v → k.belowLow = decide (v < k.low) ∧ k.atHigh = decide (k.high ≤ v)

theorem Bank.levelled_withFlags (k : Bank) : k.withFlags.Levelled := by
  intro v
  unfold Bank.withFlags
  split
  · next absent => exact fun known => by rw [absent] at known; cases known
  · next u known =>
    intro same
    cases known.symm.trans same
    exact ⟨rfl, rfl⟩

theorem Bank.levelled_enterReady (k : Bank) (clock : Clock) (window : Nat) : (k.enterReady clock window).Levelled :=
  k.levelled_withFlags

theorem Bank.Levelled.claim {k : Bank} (h : k.Levelled) (c : Claimant) : (k.claim c).Levelled := by
  unfold Bank.claim
  split <;> exact h

/-- From `w` to `t` the flags of bank `b` stay those of its level, and it keeps its place on the refill queue. -/
structure Work.KeepsLevel (b : BankId) (w t : Work) : Prop where
  fits : (w.bank b).Levelled → (t.bank b).Levelled
  queued : w.queued b = true → t.queued b = true

theorem Work.KeepsLevel.of_eq {b : BankId} {w t : Work} (banks : t.banks = w.banks)
    (queue : t.refillQueue = w.refillQueue) : Work.KeepsLevel b w t where
  fits := by unfold State.bank; rw [banks]; exact id
  queued := by unfold State.queued; rw [queue]; exact id

theorem Work.KeepsLevel.refl (b : BankId) (w : Work) : Work.KeepsLevel b w w := ⟨id, id⟩

theorem Work.KeepsLevel.trans {b : BankId} {w t u : Work} (h : Work.KeepsLevel b w t) (g : Work.KeepsLevel b t u) :
    Work.KeepsLevel b w u := ⟨fun x => g.fits (h.fits x), fun x => g.queued (h.queued x)⟩

/-! ### Banks handed over -/

theorem Work.level_modBank (b : BankId) (w : Work) (c : BankId) {f : Bank → Bank}
    (h : (w.bank c).Levelled → (f (w.bank c)).Levelled) : Work.KeepsLevel b w (w.modBank c f) where
  fits := by
    rw [Work.modBank_bank]
    split
    · next e => rw [e]; exact h
    · exact id
  queued := id

theorem Work.level_modPos (b : BankId) (w : Work) (p : PosId) (f : Position → Position) :
    Work.KeepsLevel b w (w.modPos p f) := .of_eq rfl rfl

theorem Work.level_claimBank (b : BankId) (w : Work) (c : Claimant) (d : BankId) :
    Work.KeepsLevel b w (w.claimBank c d) := w.level_modBank b d fun h => h.claim c

theorem Work.level_joinQueue (b : BankId) (w : Work) (c : BankId) : Work.KeepsLevel b w (w.joinQueue c) where
  fits := by rw [Work.joinQueue_bank]; exact id
  queued := fun here => by rw [Work.joinQueue_queued, here, Bool.true_or]

theorem Work.level_makeReady (b : BankId) (w : Work) (c : BankId) : Work.KeepsLevel b w (w.makeReady c) :=
  w.level_modBank b c fun _ => Bank.levelled_enterReady _ _ _

theorem Work.level_freeBank (b : BankId) (w : Work) (c : BankId) : Work.KeepsLevel b w (w.freeBank c) := by
  have ready := w.level_makeReady b c
  have joined := ready.trans (Work.level_joinQueue b (w.makeReady c) c)
  unfold Work.freeBank
  dsimp only
  split <;> split
  · exact joined.trans (.of_eq rfl rfl)
  · exact joined
  · exact ready.trans (.of_eq rfl rfl)
  · exact ready

theorem Work.level_round (b : BankId) (w : Work) (p : PosId) (c : BankId) : Work.KeepsLevel b w (w.round p c).2 := by
  have taken : ∀ v : Work, Work.KeepsLevel b v (v.takeOffer p c).2 := fun v => by
    unfold Work.takeOffer
    dsimp only
    split
    · exact .of_eq rfl rfl
    · split
      · exact .of_eq rfl rfl
      · split
        · exact .of_eq rfl rfl
        · exact .refl b v
  have left : Work.KeepsLevel b w (w.leaveWaitList p) := .of_eq rfl rfl
  exact (left.trans (Work.level_claimBank b _ _ c)).trans (taken _)

theorem Work.level_offer (b : BankId) (n : Nat) (c : BankId) (w : Work) :
    Work.KeepsLevel b w (Work.offer n c w) := by
  induction n generalizing w with
  | zero => exact .refl b w
  | succ n ih =>
    cases found : w.waitList.find? (w.eligible c) with
    | none =>
      unfold Work.offer
      rw [found]
      exact .refl b w
    | some e =>
      rw [Work.offer_found found]
      split
      · exact w.level_round b e.pos c
      · exact ((w.level_round b e.pos c).trans (Work.level_freeBank b _ c)).trans (ih _)

theorem Work.level_offerBank (b : BankId) (w : Work) (c : BankId) : Work.KeepsLevel b w (w.offerBank c) := by
  unfold Work.offerBank
  split
  · exact Work.level_offer b _ c w
  · exact .refl b w

theorem Work.level_releaseBank (b : BankId) (w : Work) (c : Claimant) (d : BankId) :
    Work.KeepsLevel b w (w.releaseBank c d) := by
  unfold Work.releaseBank
  split
  · exact (w.level_freeBank b d).trans (Work.level_offerBank b _ d)
  · exact .refl b w

theorem Work.level_frontQueue (b : BankId) (w : Work) (c : BankId) : Work.KeepsLevel b w (w.frontQueue c) where
  fits := id
  queued := fun here => by
    obtain ⟨x, hx, own⟩ := List.any_eq_true.mp here
    rw [beq_iff_eq] at own
    unfold State.queued
    rw [Work.frontQueue_refillQueue]
    refine List.any_eq_true.mpr ?_
    by_cases same : c = b
    · exact ⟨_, (mem_placeFront _ _ _ _).mpr (.inl rfl), beq_iff_eq.mpr same⟩
    · refine ⟨x, (mem_placeFront _ _ _ _).mpr (.inr ?_), beq_iff_eq.mpr own⟩
      exact List.mem_filter.mpr ⟨hx, bne_iff_ne.mpr fun e => same (e.symm.trans own)⟩

theorem Work.level_giveBack (b : BankId) (w : Work) (k : CompId) (c : BankId) :
    Work.KeepsLevel b w (w.giveBack k c) := by
  unfold Work.giveBack
  split
  · exact ((w.level_makeReady b c).trans (Work.level_frontQueue b _ c)).trans (Work.level_offerBank b _ c)
  · exact .refl b w

/-! ### The sequencer -/

theorem Work.level_joinWaitList (b : BankId) (w : Work) (p : PosId) (ts : List Tier) :
    Work.KeepsLevel b w (w.joinWaitList p ts) := by
  unfold Work.joinWaitList
  split <;> exact .of_eq rfl rfl

theorem Work.level_pulsingSelect (b : BankId) (w : Work) (p : PosId) : Work.KeepsLevel b w (w.pulsingSelect p) := by
  unfold Work.pulsingSelect
  dsimp only
  split
  · exact (w.level_claimBank b _ _).trans (Work.level_modPos b _ p _)
  · exact (w.level_joinWaitList b p _).trans (Work.level_modPos b _ p _)

theorem Work.level_grantGiven (b : BankId) (w : Work) (p : PosId) : Work.KeepsLevel b w (w.grantGiven p) := by
  have told := w.level_modPos b p (fun x => { x with ses.band := .cold })
  unfold Work.grantGiven
  dsimp only
  split
  · exact (told.trans (Work.level_modPos b _ p _)).trans (Work.level_pulsingSelect b _ p)
  · exact told

theorem Work.level_serveQueueN (b : BankId) (n : Nat) (l : LoopId) (w : Work) :
    Work.KeepsLevel b w (Work.serveQueueN n l w) := by
  induction n generalizing w with
  | zero => exact .refl b w
  | succ n ih =>
    unfold Work.serveQueueN
    split
    · exact .refl b w
    · next q rest _ =>
      split
      · have moved : Work.KeepsLevel b w (w.modLoop l (fun x => { x with grants := x.grants ++ [q], queue := rest })) :=
          .of_eq rfl rfl
        exact (moved.trans (Work.level_grantGiven b _ q)).trans (ih _)
      · exact .refl b w

theorem Work.level_leaveLoop (b : BankId) (w : Work) (p : PosId) : Work.KeepsLevel b w (w.leaveLoop p) := by
  have served : ∀ l f, Work.KeepsLevel b w ((w.modLoop l f).serveQueue l) := fun l f =>
    have moved : Work.KeepsLevel b w (w.modLoop l f) := .of_eq rfl rfl
    moved.trans (Work.level_serveQueueN b 2 l _)
  unfold Work.leaveLoop
  split
  · exact .refl b w
  · split
    · exact served _ _
    · split
      · exact served _ _
      · exact .refl b w

theorem Work.level_releaseNamed (b : BankId) (w : Work) (p : PosId) : Work.KeepsLevel b w (w.releaseNamed p) := by
  have dropped := w.level_modPos b p (fun y => { y with ses := { y.ses with current := none, staged := none } })
  unfold Work.releaseNamed
  dsimp only
  split <;> split
  · exact (dropped.trans (Work.level_releaseBank b _ _ _)).trans (Work.level_releaseBank b _ _ _)
  · exact dropped.trans (Work.level_releaseBank b _ _ _)
  · exact dropped.trans (Work.level_releaseBank b _ _ _)
  · exact dropped

theorem Work.level_endFill (b : BankId) (w : Work) (p : PosId) (r : EndReason) :
    Work.KeepsLevel b w (w.endFill p r) := by
  have left : ∀ v : Work, Work.KeepsLevel b v (v.leaveWaitList p) := fun _ => .of_eq rfl rfl
  unfold Work.endFill Work.endCore
  split
  · exact ((((w.level_modPos b p _).trans (Work.level_releaseNamed b _ p)).trans (left _)).trans
      (Work.level_leaveLoop b _ p)).trans (Work.level_modPos b _ p _)
  · exact .refl b w

theorem Work.level_judgeValve (b : BankId) (w : Work) (p : PosId) : Work.KeepsLevel b w (w.judgeValve p) := by
  unfold Work.judgeValve
  dsimp only
  split
  · split
    · exact w.level_modPos b p _
    · exact w.level_modPos b p _
  · exact .refl b w

theorem Work.level_applyFallback (b : BankId) (w : Work) (p : PosId) : Work.KeepsLevel b w (w.applyFallback p) := by
  unfold Work.applyFallback
  dsimp only
  split
  · exact (w.level_modPos b p _).trans (Work.level_endFill b _ p _)
  · exact (w.level_modPos b p _).trans (Work.level_judgeValve b _ p)

theorem Work.level_enterHeld (b : BankId) (w : Work) (p : PosId) (c : Cause) :
    Work.KeepsLevel b w (w.enterHeld p c) := by
  unfold Work.enterHeld
  exact ((w.level_modPos b p _).trans (Work.level_releaseNamed b _ p)).trans (Work.level_modPos b _ p _)

theorem Work.level_selectOrHold (b : BankId) (w : Work) (p : PosId) : Work.KeepsLevel b w (w.selectOrHold p) := by
  cases found : w.select (w.needOf p) ((w.pos p).cfg.cls.tiersFrom (w.pos p).ses.cursor) with
  | some c =>
    rw [Work.selectOrHold_found found]
    exact (w.level_claimBank b _ c).trans (Work.level_modPos b _ p _)
  | none =>
    have holds : w.selectOrHold p = w.noBankHold p := by
      unfold Work.selectOrHold
      rw [Work.fuellingSelect_none found]
      exact if_neg Bool.false_ne_true
    rw [holds]
    exact (w.level_joinWaitList b p _).trans (Work.level_enterHeld b _ p .noBank)

theorem Work.level_stepOn (b : BankId) (w : Work) (p : PosId) : Work.KeepsLevel b w (w.stepOn p) := by
  have counted := w.level_modPos b p (fun x => { x with ses.steps := min 255 (x.ses.steps + 1) })
  have selects : ∀ v : Work, Work.KeepsLevel b v (if (v.pos p).ses.state = .fuelling then v.selectOrHold p else v) :=
    fun v => by
      split
      · exact v.level_selectOrHold b p
      · exact .refl b v
  unfold Work.stepOn
  dsimp only
  refine Work.KeepsLevel.trans ?_ (selects _)
  split
  · exact counted.trans (Work.level_applyFallback b _ p)
  · exact counted

theorem Work.level_stepFill (b : BankId) (w : Work) (p : PosId) : Work.KeepsLevel b w (w.stepFill p) := by
  have dropped := w.level_modPos b p Position.dropCurrent
  unfold Work.stepFill
  dsimp only
  split
  · exact (dropped.trans (Work.level_releaseBank b _ _ _)).trans (Work.level_stepOn b _ p)
  · exact dropped.trans (Work.level_stepOn b _ p)

/-! ### The compressors' side -/

theorem Work.level_unloadComp (b : BankId) (w : Work) (k : CompId) : Work.KeepsLevel b w (w.unloadComp k) :=
  .of_eq rfl rfl

theorem Work.level_loseRefill (b : BankId) (w : Work) (k : CompId) : Work.KeepsLevel b w (w.loseRefill k) := by
  unfold Work.loseRefill
  dsimp only
  split
  · exact (w.level_unloadComp b k).trans (Work.level_giveBack b _ k _)
  · exact w.level_unloadComp b k

theorem Work.level_completeRefill (b : BankId) (w : Work) (k : CompId) :
    Work.KeepsLevel b w (w.completeRefill k) := by
  have counted : Work.KeepsLevel b w ((w.unloadComp k).modComp k (fun c => { c with refills := c.refills + 1 })) :=
    .of_eq rfl rfl
  unfold Work.completeRefill
  dsimp only
  split
  · exact (counted.trans (Work.level_modBank b _ _ fun h => h)).trans (Work.level_releaseBank b _ _ _)
  · exact counted

theorem Work.level_yieldAtPressure (b : BankId) (w : Work) (k : CompId) (c : BankId) :
    Work.KeepsLevel b w (w.yieldAtPressure k c) := by
  unfold Work.yieldAtPressure
  split
  · exact .refl b w
  · split
    · exact (Work.level_modBank b w c fun h => h).trans (Work.level_loseRefill b _ k)
    · exact .refl b w

theorem Work.level_pressureToComp (b : BankId) (w : Work) (k : CompId) (c : BankId) :
    Work.KeepsLevel b w (w.pressureToComp k c) := by
  unfold Work.pressureToComp
  dsimp only
  split
  · exact w.level_completeRefill b k
  · split
    · exact w.level_yieldAtPressure b k c
    · exact .refl b w

theorem Work.level_pressureToPos (b : BankId) (w : Work) (p : PosId) (c : BankId) :
    Work.KeepsLevel b w (w.pressureToPos p c) := by
  unfold Work.pressureToPos
  dsimp only
  split
  · exact w.level_stepFill b p
  · exact .refl b w

/-! ### The judgement of a pressure -/

theorem Work.level_isolated {w : Work} {b : BankId} (service : (w.bank b).inService = true) (r : IsoReason)
    (h : (w.bank b).Levelled) : ((w.isolateBank b r).bank b).Levelled := by
  obtain ⟨y, bank⟩ := Work.isolateBank_bank service r
  rw [bank]
  exact h

/-- The judgement of a pressure keeps the flags those of the level (02, R23, R24). -/
theorem Work.judgePressure_levelled {w : Work} {b : BankId} {v : Nat} (h : (w.bank b).Levelled) :
    ((w.judgePressure b v).bank b).Levelled := by
  unfold Work.judgePressure
  dsimp only
  split
  · next out => exact Work.level_isolated out.1 _ h
  · split
    · next ready =>
      split
      · exact Work.level_isolated (Bank.inService_of_ready ready) _ h
      · exact (w.level_offerBank b b).fits h
    · exact (w.level_pressureToPos b _ b).fits h
    · exact (w.level_pressureToComp b _ b).fits h
    · exact h

/-- The judgement of a pressure that does not isolate the bank leaves its place on the queue. -/
theorem Work.judgePressure_queued {w : Work} {b : BankId} {v : Nat} (sound : (w.bank b).overRated = false)
    (tight : w.leaks b v = false) (here : w.queued b = true) : (w.judgePressure b v).queued b = true := by
  unfold Work.judgePressure
  dsimp only
  rw [if_neg (by simp [sound])]
  split
  · rw [if_neg (by simp [tight])]
    exact (w.level_offerBank b b).queued here
  · exact (w.level_pressureToPos b _ b).queued here
  · exact (w.level_pressureToComp b _ b).queued here
  · exact here

/-- The flags are those of the level at the end of the rule as before it. -/
theorem Bank.Levelled.close {w : Work} {b : BankId} (h : (w.bank b).Levelled) (s0 : State) :
    ((w.close s0).bank b).Levelled := by
  obtain ⟨same, _⟩ | ⟨_, k, taken⟩ := w.close_bank s0 b
  · rw [same]
    exact h
  · rw [taken]
    exact h.claim _

/-- A queued bank below its high mark is queued at the end of the rule, or a compressor has taken it (03, R50, R51). -/
theorem Work.close_queued {w : Work} {b : BankId} (here : w.queued b = true)
    (low : (w.bank b).pressureAtHigh = false) (s0 : State) :
    (w.close s0).queued b = true ∨ ((w.close s0).bank b).state = .refilling := by
  obtain ⟨_, place⟩ | ⟨ready, k, taken⟩ := w.close_bank s0 b
  · exact .inl ((place low).trans here)
  · rw [taken]
    exact .inr (Bank.claim_comp_state ready k)

/-- A READY or SERVING bank whose pressure crosses its low mark joins the refill queue (02, R23). -/
theorem Work.reflag_joins {w : Work} {b : BankId} (above : (w.bank b).belowLow = false)
    (below : (w.bank b).withFlags.belowLow = true)
    (state : (w.bank b).state = .ready ∨ (w.bank b).state = .serving) : (w.reflag b).queued b = true := by
  unfold Work.reflag
  dsimp only
  rw [if_pos ⟨above, by rw [Work.modBank_bank_self]; exact below, state⟩, Work.joinQueue_queued, decide_eq_true rfl,
    Bool.or_true]

/-- A low-mark crossing of a bank the sample does not isolate ends on the queue, or with a compressor (02, R23; 03,
R50). -/
theorem afterPressure_crossing {s : State} {b : BankId} {v : Nat} (above : (s.bank b).belowLow = false)
    (crossing : v < (s.bank b).low) (marks : (s.bank b).low < (s.bank b).high) (sound : v ≤ (s.bank b).rated)
    (state : (s.bank b).state = .ready ∨ (s.bank b).state = .serving)
    (tight : ∀ r, (s.bank b).leakRef = some r → r ≤ v + s.station.leakAllowance) :
    (s.afterPressure b v).queued b = true ∨ ((s.afterPressure b v).bank b).state = .refilling := by
  have used : (s.bank b).state ≠ .unused := by
    obtain ready | serving := state
    · rw [ready]; decide
    · rw [serving]; decide
  have bank : ((s.sampled (.bankP b) v).repressed b v).bank b = (s.bank b).pressed v := Work.repressed_bank _ b v
  have station : ((s.sampled (.bankP b) v).repressed b v).station = s.station := Work.repressed_station _ b v
  have here : ((s.sampled (.bankP b) v).repressed b v).queued b = true := by
    refine Work.reflag_joins ?_ ?_ ?_ <;> rw [Work.modBank_bank_self]
    · exact above
    · exact decide_eq_true crossing
    · exact state
  have judged : s.afterPressure b v =
      (Work.judgePressure b v ((s.sampled (.bankP b) v).repressed b v)).close s :=
    congrArg (Work.close s) (Work.bankPressure_judged (w := s.sampled (.bankP b) v) used v)
  rw [judged]
  generalize (s.sampled (.bankP b) v).repressed b v = w at bank station here ⊢
  have rated : (w.bank b).overRated = false := by
    rw [bank]
    exact decide_eq_false (Nat.not_lt.mpr sound)
  have leaks : w.leaks b v = false := by
    unfold State.leaks
    rw [bank, station]
    show (s.bank b).leakRef.any _ = false
    cases ref : (s.bank b).leakRef with
    | none => rfl
    | some r =>
      have bound := tight r ref
      exact decide_eq_false (by omega)
  have kept := (Work.evolves_judgePressure w b v).bank b
  refine Work.close_queued (Work.judgePressure_queued rated leaks here) ?_ s
  unfold Bank.pressureAtHigh
  rw [kept.pressure, kept.high, bank]
  exact decide_eq_false (by
    show ¬ (s.bank b).high ≤ v
    omega)

end Sys2Proof.Machine

/-- Settles O10: a rule keeps the flags of a bank those of its level, and a bank that has joined its place. -/
theorem pressureSampleSetsTheLevelFlags : Obligations.PressureSampleSetsTheLevelFlags := by
  unfold Obligations.PressureSampleSetsTheLevelFlags
  intro b lo hi check v s rx hv high sum used
  obtain ⟨t, runs, ends, took⟩ := pressureFrame_taken rx hv high sum
  have after : t = s.afterPressure b v := ends
  have levelled : (t.bank b).Levelled := by
    rw [ends, Work.bankPressure_judged (w := s.sampled (.bankP b) v) used]
    refine Bank.Levelled.close (Work.judgePressure_levelled ?_) s
    rw [Work.reflag_bank]
    exact Bank.levelled_withFlags _
  have reads : (t.bank b).pressure.map Int.ofNat = some (v : Int) := took.reading
  have pressure : (t.bank b).pressure = some v := by
    cases known : (t.bank b).pressure with
    | none =>
      rw [known] at reads
      cases reads
    | some n =>
      rw [known] at reads
      exact congrArg some (Int.ofNat.inj (Option.some.inj reads))
  obtain ⟨_, _, _, _, _, _, banks, _, _⟩ := took.settings
  obtain ⟨_, _, low, high', _⟩ := banks b
  obtain ⟨belowLow, atHigh⟩ := levelled v pressure
  rw [low] at belowLow
  rw [high'] at atHigh
  refine ⟨t, runs, pressure, belowLow, atHigh, fun above crossing marks sound state tight => ?_⟩
  rw [after]
  exact afterPressure_crossing above crossing marks sound state tight
end

section
/-! SUPPORT. Writes that configure a bank in SETUP: what they leave of everything else, and the bank's record after an
entry to READY, a reload and an isolation (02, R20, R21, R23). -/
open Sys2Proof Sys2Proof.Machine
namespace Sys2Proof.Machine

/-! ### Only one bank changes -/

/-- From `w` to `t` nothing changes but the record of bank `b`, its place on the refill queue and the notices; its
readings and its priority stand. -/
structure Work.OnlyBank (b : BankId) (w t : Work) : Prop where
  others : ∀ c, c ≠ b → t.bank c = w.bank c
  queued : ∀ c, c ≠ b → t.queued c = w.queued c
  pressure : (t.bank b).pressure = (w.bank b).pressure
  temperature : (t.bank b).temperature = (w.bank b).temperature
  priority : (t.bank b).priority = (w.bank b).priority
  rest : t.toState = { w.toState with banks := t.banks, refillQueue := t.refillQueue, notices := t.notices }
  serveDue : t.serveDue = w.serveDue

theorem Work.OnlyBank.refl (b : BankId) (w : Work) : Work.OnlyBank b w w :=
  ⟨fun _ _ => rfl, fun _ _ => rfl, rfl, rfl, rfl, rfl, rfl⟩

theorem Work.OnlyBank.trans {b : BankId} {w t u : Work} (h : Work.OnlyBank b w t) (g : Work.OnlyBank b t u) :
    Work.OnlyBank b w u where
  others := fun c other => (g.others c other).trans (h.others c other)
  queued := fun c other => (g.queued c other).trans (h.queued c other)
  pressure := g.pressure.trans h.pressure
  temperature := g.temperature.trans h.temperature
  priority := g.priority.trans h.priority
  rest := by rw [g.rest, h.rest]
  serveDue := g.serveDue.trans h.serveDue

theorem Work.onlyBank_modBank (w : Work) (b : BankId) {f : Bank → Bank}
    (pressure : (f (w.bank b)).pressure = (w.bank b).pressure)
    (temperature : (f (w.bank b)).temperature = (w.bank b).temperature)
    (priority : (f (w.bank b)).priority = (w.bank b).priority) : Work.OnlyBank b w (w.modBank b f) where
  others := fun c other => Work.modBank_bank_ne w f other
  queued := fun _ _ => rfl
  pressure := by rw [Work.modBank_bank_self, pressure]
  temperature := by rw [Work.modBank_bank_self, temperature]
  priority := by rw [Work.modBank_bank_self, priority]
  rest := rfl
  serveDue := rfl

theorem Work.onlyBank_joinQueue (w : Work) (b : BankId) : Work.OnlyBank b w (w.joinQueue b) := by
  have frame : (w.joinQueue b).toState =
      { w.toState with banks := (w.joinQueue b).banks, refillQueue := (w.joinQueue b).refillQueue,
                       notices := (w.joinQueue b).notices } ∧ (w.joinQueue b).serveDue = w.serveDue := by
    unfold Work.joinQueue
    split <;> exact ⟨rfl, rfl⟩
  have bank := w.joinQueue_bank b
  refine ⟨fun c _ => bank c, fun c other => ?_, by rw [bank], by rw [bank], by rw [bank], frame.1, frame.2⟩
  rw [Work.joinQueue_queued, decide_eq_false other.symm, Bool.or_false]

theorem Work.onlyBank_leaveQueue (w : Work) (b : BankId) : Work.OnlyBank b w (w.leaveQueue b) := by
  refine ⟨fun _ _ => rfl, fun c other => ?_, rfl, rfl, rfl, rfl, rfl⟩
  rw [Work.leaveQueue_queued, decide_eq_true other, Bool.and_true]

theorem Work.onlyBank_raise (w : Work) (b : BankId) (i : Nat) : Work.OnlyBank b w (w.raise i) :=
  ⟨fun _ _ => rfl, fun _ _ => rfl, rfl, rfl, rfl, rfl, rfl⟩

/-- A bank in service without a claimant is isolated with no one to tell (02, R28). -/
theorem Work.isolateBank_unclaimed {w : Work} {b : BankId} (service : (w.bank b).inService = true)
    (unclaimed : (w.bank b).claimant = none) (r : IsoReason) :
    w.isolateBank b r = ((w.modBank b (Bank.isolateWith r)).leaveQueue b).raise 11 := by
  unfold Work.isolateBank
  dsimp only
  rw [if_pos service, unclaimed]

/-- The isolation of a bank that no one claims (02, R28). -/
theorem Work.isolateBank_free {w : Work} {b : BankId} (service : (w.bank b).inService = true)
    (unclaimed : (w.bank b).claimant = none) (r : IsoReason) : Work.OnlyBank b w (w.isolateBank b r) ∧
      (w.isolateBank b r).bank b = (w.bank b).isolateWith r ∧ (w.isolateBank b r).requested 11 := by
  have only : Work.OnlyBank b w (w.isolateBank b r) := by
    rw [Work.isolateBank_unclaimed service unclaimed]
    exact ((w.onlyBank_modBank b rfl rfl rfl).trans (Work.onlyBank_leaveQueue _ b)).trans (Work.onlyBank_raise _ b 11)
  refine ⟨only, ?_, (Work.isolateBank_isolates service r).2.2⟩
  rw [Work.isolateBank_unclaimed service unclaimed]
  exact Work.modBank_bank_self _ _ _

/-- In SETUP the end of such a rule adds nothing. -/
theorem Work.OnlyBank.close {b : BankId} {s : State} {w : Work} (h : Work.OnlyBank b s.begin w)
    (setUp : s.station.phase = .setup) : w.close s = w.toState := by
  have station : w.station = s.station := (congrArg State.station h.rest).trans rfl
  have routes : w.routes = s.routes := (congrArg State.routes h.rest).trans rfl
  have unevaluated : w.Unevaluated := .inl fun runs => by
    rw [station, setUp] at runs
    exact absurd runs.1 (by decide)
  have serve : w.serveDue = false := h.serveDue
  have same : w.wound = w := by
    rw [unevaluated.wound, serve]
    rfl
  rw [Work.close_eq, same, if_pos routes]

/-! ### The configured bank -/

/-- New flags, with the join that may follow. -/
theorem Work.onlyBank_reflag (w : Work) (b : BankId) : Work.OnlyBank b w (w.reflag b) := by
  obtain ⟨_, _, _, _, priority, pressure, temperature⟩ := (w.bank b).withFlags_settings
  have flags := w.onlyBank_modBank b (f := Bank.withFlags) pressure temperature priority
  unfold Work.reflag
  dsimp only
  split
  · exact flags.trans (Work.onlyBank_joinQueue _ b)
  · exact flags

/-- A bank is the record `k`, isolated or not. -/
def Bank.Shaped (t k : Bank) : Prop := t = k ∨ ∃ r, t = k.isolateWith r

theorem Bank.Shaped.keeps {t k : Bank} (h : t.Shaped k) : t.tier = k.tier ∧ t.rated = k.rated ∧ t.low = k.low ∧
    t.high = k.high ∧ t.belowLow = k.belowLow ∧ t.atHigh = k.atHigh := by
  obtain rfl | ⟨r, rfl⟩ := h <;> exact ⟨rfl, rfl, rfl, rfl, rfl, rfl⟩

theorem Bank.withFlags_stands (k : Bank) : k.withFlags.state = k.state ∧ k.withFlags.claimant = k.claimant ∧
    k.withFlags.isolation = k.isolation ∧ k.withFlags.leakRef = k.leakRef := by
  unfold Bank.withFlags
  split <;> exact ⟨rfl, rfl, rfl, rfl⟩

/-- A bank that no one claims is judged against its rated pressure after a reload (02, R20, R21, R23). -/
theorem Work.reload_cases {w : Work} {b : BankId} (unclaimed : (w.bank b).claimant = none) :
    let t := (w.reflag b).checkRated b
    Work.OnlyBank b w t ∧ (t.bank b).Shaped (w.bank b).withFlags ∧
      ((w.bank b).state = .ready → (w.bank b).overRated = true →
        t.bank b = (w.bank b).withFlags.isolateWith .overpressure ∧ t.requested 11) ∧
      (¬((w.bank b).state = .ready ∧ (w.bank b).overRated = true) → t.bank b = (w.bank b).withFlags) := by
  have only := w.onlyBank_reflag b
  have bank := w.reflag_bank b
  obtain ⟨state, claimant, _, _⟩ := (w.bank b).withFlags_stands
  obtain ⟨_, rated, _, _, _, pressure, _⟩ := (w.bank b).withFlags_settings
  have overRated : (w.bank b).withFlags.overRated = (w.bank b).overRated := by
    unfold Bank.overRated
    rw [rated, pressure]
  have checked : ((w.reflag b).checkRated b) = if (w.bank b).state = .ready ∧ (w.bank b).overRated = true
      then (w.reflag b).isolateBank b .overpressure else w.reflag b := by
    unfold Work.checkRated
    rw [bank, state, overRated]
  dsimp only
  rw [checked]
  by_cases out : (w.bank b).state = .ready ∧ (w.bank b).overRated = true
  · rw [if_pos out]
    obtain ⟨isolates, record, notice⟩ := Work.isolateBank_free (w := w.reflag b) (b := b)
      (by rw [bank]; exact Bank.inService_of_ready (state.trans out.1)) (by rw [bank, claimant]; exact unclaimed)
      .overpressure
    rw [bank] at record
    exact ⟨only.trans isolates, .inr ⟨_, record⟩, fun _ _ => ⟨record, notice⟩, fun within => absurd out within⟩
  · rw [if_neg out]
    exact ⟨only, .inl bank, fun ready above => absurd ⟨ready, above⟩ out, fun _ => bank⟩

/-- An UNUSED bank given a tier: READY, or isolated as its readings say (02, R20). -/
theorem Work.newTier_cases (w : Work) (b : BankId) :
    let t := w.newTier b
    let k := (w.bank b).enterReady w.station.clock w.station.leakWindow
    Work.OnlyBank b w t ∧ (t.bank b).Shaped k ∧
      ((w.bank b).pressure = none ∨ (w.bank b).temperature = none →
        t.bank b = k.isolateWith .sensor ∧ t.requested 11) ∧
      ∀ (v : Nat) (x : Int), (w.bank b).pressure = some v → (w.bank b).temperature = some x →
        ((w.bank b).rated < v → t.bank b = k.isolateWith .overpressure ∧ t.requested 11) ∧
        (v ≤ (w.bank b).rated → 850 ≤ x → t.bank b = k.isolateWith .overtemp ∧ t.requested 11) ∧
        (v ≤ (w.bank b).rated → x < 850 → t.bank b = k ∧ (k.belowLow = true → t.queued b = true)) := by
  intro t k
  obtain ⟨_, rated, _, _, priority, pressure, temperature⟩ := (w.bank b).withFlags_settings
  have ready : (w.makeReady b).bank b = k := Work.modBank_bank_self _ _ _
  have entered : Work.OnlyBank b w (w.makeReady b) := w.onlyBank_modBank b pressure temperature priority
  have readings : k.pressure = (w.bank b).pressure ∧ k.temperature = (w.bank b).temperature ∧
      k.rated = (w.bank b).rated := ⟨pressure, temperature, rated⟩
  obtain ⟨pressureK, temperatureK, ratedK⟩ := readings
  have joined : ∃ u : Work, Work.OnlyBank b w u ∧ u.bank b = k ∧ (k.belowLow = true → u.queued b = true) ∧
      t = if k.pressure = none ∨ k.temperature = none then u.isolateBank b .sensor
        else if k.overRated then u.isolateBank b .overpressure
        else if k.isHot then u.isolateBank b .overtemp else u := by
    refine ⟨if k.belowLow then (w.makeReady b).joinQueue b else w.makeReady b, ?_, ?_, fun below => ?_, ?_⟩
    · split
      · exact entered.trans (Work.onlyBank_joinQueue _ b)
      · exact entered
    · split
      · rw [Work.joinQueue_bank, ready]
      · exact ready
    · rw [if_pos below, Work.joinQueue_queued, decide_eq_true rfl, Bool.or_true]
    · show w.newTier b = _
      unfold Work.newTier
      dsimp only
      rw [ready]
  obtain ⟨u, only, bank, queued, judged⟩ := joined
  have isolates : ∀ r, Work.OnlyBank b w (u.isolateBank b r) ∧ (u.isolateBank b r).bank b = k.isolateWith r ∧
      (u.isolateBank b r).requested 11 := fun r => by
    obtain ⟨isolates, record, notice⟩ := Work.isolateBank_free (w := u) (b := b)
      (by rw [bank]; rfl) (by rw [bank]; rfl) r
    rw [bank] at record
    exact ⟨only.trans isolates, record, notice⟩
  have shaped : ∀ r, Work.OnlyBank b w (u.isolateBank b r) ∧ ((u.isolateBank b r).bank b).Shaped k := fun r => by
    obtain ⟨isolated, record, _⟩ := isolates r
    exact ⟨isolated, .inr ⟨r, record⟩⟩
  have onlyT : Work.OnlyBank b w t ∧ (t.bank b).Shaped k := by
    rw [judged]
    split
    · exact shaped .sensor
    · split
      · exact shaped .overpressure
      · split
        · exact shaped .overtemp
        · exact ⟨only, .inl bank⟩
  refine ⟨onlyT.1, onlyT.2, fun absent => ?_, fun v x known warm => ?_⟩
  · rw [judged, if_pos (by rw [pressureK, temperatureK]; exact absent)]
    exact (isolates .sensor).2
  · have present : ¬(k.pressure = none ∨ k.temperature = none) := by
      rw [pressureK, temperatureK, known, warm]
      simp
    have above : k.overRated = decide ((w.bank b).rated < v) := by
      unfold Bank.overRated
      rw [pressureK, ratedK, known]
      rfl
    have hot : k.isHot = decide (850 ≤ x) := by
      unfold Bank.isHot
      rw [temperatureK, warm]
      rfl
    rw [if_neg present, above, hot] at judged
    refine ⟨fun out => ?_, fun within burning => ?_, fun within cool => ?_⟩
    · rw [judged, if_pos (decide_eq_true out)]
      exact (isolates .overpressure).2
    · rw [judged, if_neg (by simpa using within), if_pos (decide_eq_true burning)]
      exact (isolates .overtemp).2
    · rw [judged, if_neg (by simpa using within), if_neg (by simpa using cool)]
      exact ⟨bank, queued⟩

/-! ### Writes of a bank in SETUP -/

theorem marksOf_profile (profile : Fin 4) (rated : Nat) :
    MarksOf profile rated (rated * lowPercent profile / 100) (rated * highPercent profile / 100) := by
  unfold MarksOf
  fin_cases profile <;> exact ⟨rfl, rfl⟩

/-- A taken SET of one bank field in SETUP that changes only the bank. -/
theorem portRequest_bankField {r : Request} {s : State} {b : BankId} {n : Nat} {w : Work} (hop : r.op = 2)
    (hw : r.tail.Whole n) (hn : 0 < n) (href : r.resolve s.port.window = .ok (.bank b))
    (hf : (RecordRef.bank b).widths[r.field.toNat]? = some n)
    (hc : bankFails b [(r.field.toNat, leValue r.tail.data)] r.field.toNat (leValue r.tail.data) (s.heard r) = [])
    (setUp : s.station.phase = .setup)
    (write : (s.heard r).begin.bankWrite b r.field.toNat (leValue r.tail.data) = w)
    (only : Work.OnlyBank b (s.heard r).begin w) :
    portRequest r s = { w.toState with port.lastResult := .ok } := by
  rw [portRequest_setField_taken hop hw hn href hf hc]
  show State.recordResult .ok (Work.close (s.heard r) ((s.heard r).begin.bankWrite b _ _)) = _
  rw [write, only.close setUp, State.recordResult_ok]

/-- What such a write leaves of the station. -/
theorem Work.OnlyBank.recorded {r : Request} {s : State} {b : BankId} {w : Work}
    (only : Work.OnlyBank b (s.heard r).begin w) : s.Taken { w.toState with port.lastResult := .ok } r ∧
      OnlyBankChanged s { w.toState with port.lastResult := .ok } b := by
  obtain ⟨others, queued, pressure, temperature, priority, rest, _⟩ := only
  have port : w.port = s.port := (congrArg State.port rest).trans rfl
  refine ⟨⟨congrArg (fun x : Port => { x with lastResult := .ok }) port, (congrArg State.hostOut rest).trans rfl⟩,
    others, pressure, temperature, priority, queued, (congrArg State.station rest).trans rfl,
    (congrArg State.comps rest).trans rfl, (congrArg State.loops rest).trans rfl,
    (congrArg State.positions rest).trans rfl, (congrArg State.holds rest).trans rfl,
    (congrArg State.waitList rest).trans rfl,
    (congrArg State.powerQueue rest).trans rfl, (congrArg State.link rest).trans rfl⟩

end Sys2Proof.Machine
end

section
/-! SUPPORT. A tier write, and O13 (02, R20, R21). -/
open Sys2Proof Sys2Proof.Machine
namespace Sys2Proof.Machine

/-! ### The checks of a SETUP field -/

theorem setupOnly_setup {s : State} (h : s.station.phase = .setup) : setupOnly s = [] :=
  orFail_pass (by rw [h]; rfl) .phase

theorem setupOnly_service {s : State} (h : s.station.phase = .service) : setupOnly s = [.phase] :=
  orFail_fail (by rw [h]; decide) .phase

/-- PHASE comes before STATE and RANGE (09, R164). -/
theorem firstFault_phase (a b : Bool) : firstFault ([.phase] ++ orFail a .state ++ orFail b .range) = .phase := by
  cases a <;> cases b <;> rfl

theorem tierOf_large {n : Nat} (h : 3 < n) : tierOf n = none := by
  obtain ⟨m, rfl⟩ := Nat.exists_eq_add_of_le' h
  rfl

/-! ### The bank given a tier -/

/-- A bank given a tier, its default rated pressure and the marks of a profile (02, R20, R21). -/
def Bank.retiered (tier : Tier) (profile : Fin 4) (k : Bank) : Bank :=
  Bank.loadMarks profile { k with tier := tier, rated := tier.defaultRated }

/-- The work in which a bank has its new tier, before it is judged (02, R20). -/
def Work.retiered (b : BankId) (tier : Tier) (w : Work) : Work :=
  w.modBank b (Bank.retiered tier w.station.markProfile)

theorem Work.retiered_bank (w : Work) (b : BankId) (tier : Tier) :
    (w.retiered b tier).bank b = (w.bank b).retiered tier w.station.markProfile := Work.modBank_bank_self _ _ _

theorem Work.onlyBank_retiered (w : Work) (b : BankId) (tier : Tier) : Work.OnlyBank b w (w.retiered b tier) :=
  w.onlyBank_modBank b rfl rfl rfl

theorem Work.tierWrite_new {w : Work} {b : BankId} {tier : Tier} (used : tier ≠ .unused)
    (state : (w.bank b).state = .unused) : w.tierWrite b tier = (w.retiered b tier).newTier b := by
  unfold Work.tierWrite
  dsimp only
  rw [if_neg used, if_pos state]
  rfl

theorem Work.tierWrite_reload {w : Work} {b : BankId} {tier : Tier} (used : tier ≠ .unused)
    (state : (w.bank b).state ≠ .unused) :
    w.tierWrite b tier = ((w.retiered b tier).reflag b).checkRated b := by
  unfold Work.tierWrite
  dsimp only
  rw [if_neg used, if_neg state]
  rfl

/-- A configured bank made UNUSED leaves the refill queue (02, R20). -/
theorem Work.tierWrite_unconfigures {w : Work} {b : BankId} (used : (w.bank b).state ≠ .unused) :
    let t := w.tierWrite b .unused
    Work.OnlyBank b w t ∧ t.bank b = (w.bank b).toUnused ∧ t.queued b = false := by
  have written : w.tierWrite b .unused = (w.modBank b Bank.toUnused).leaveQueue b := by
    unfold Work.tierWrite
    dsimp only
    rw [if_pos rfl, if_neg used]
  dsimp only
  rw [written]
  refine ⟨(Work.onlyBank_modBank _ b rfl rfl rfl).trans (Work.onlyBank_leaveQueue _ b),
    Work.modBank_bank_self _ _ _, ?_⟩
  simp [Work.leaveQueue_queued]

/-- What every taken tier write leaves: the tier with its rated pressure and marks, and the flags of the level. -/
structure Bank.Tiered (given : Tier) (profile : Fin 4) (k t : Bank) : Prop where
  tier : t.tier = given
  rated : t.rated = given.defaultRated
  marks : MarksOf profile given.defaultRated t.low t.high
  flags : ∀ v, k.pressure = some v → t.belowLow = decide (v < t.low) ∧ t.atHigh = decide (t.high ≤ v)

/-- A retiered bank with new flags, isolated or not. -/
theorem Bank.Shaped.tiered {k t u : Bank} {tier : Tier} {profile : Fin 4} (shaped : t.Shaped u)
    (settings : u.tier = tier ∧ u.rated = tier.defaultRated ∧ u.low = tier.defaultRated * lowPercent profile / 100 ∧
      u.high = tier.defaultRated * highPercent profile / 100)
    (pressure : u.pressure = k.pressure) (levelled : u.Levelled) : k.Tiered tier profile t := by
  obtain ⟨tierU, ratedU, lowU, highU⟩ := settings
  obtain ⟨tierT, ratedT, lowT, highT, belowT, atT⟩ := shaped.keeps
  refine ⟨tierT.trans tierU, ratedT.trans ratedU, ?_, fun v known => ?_⟩
  · rw [lowT, highT, lowU, highU]
    exact marksOf_profile profile tier.defaultRated
  · rw [belowT, atT, lowT, highT]
    exact levelled v (pressure.trans known)

/-- An UNUSED bank given a tier (02, R20). -/
theorem Work.tierWrite_unused {w : Work} {b : BankId} {tier : Tier} (used : tier ≠ .unused)
    (state : (w.bank b).state = .unused) :
    let t := w.tierWrite b tier
    Work.OnlyBank b w t ∧ (w.bank b).Tiered tier w.station.markProfile (t.bank b) ∧
      ((w.bank b).pressure = none ∨ (w.bank b).temperature = none →
        (t.bank b).state = .isolated ∧ (t.bank b).isolation = some .sensor ∧ t.requested 11) ∧
      ∀ (v : Nat) (x : Int), (w.bank b).pressure = some v → (w.bank b).temperature = some x →
        (tier.defaultRated < v →
          (t.bank b).state = .isolated ∧ (t.bank b).isolation = some .overpressure ∧ t.requested 11) ∧
        (v ≤ tier.defaultRated → 850 ≤ x →
          (t.bank b).state = .isolated ∧ (t.bank b).isolation = some .overtemp ∧ t.requested 11) ∧
        (v ≤ tier.defaultRated → x < 850 →
          (t.bank b).state = .ready ∧ (t.bank b).leakRef = some v ∧
          (t.bank b).leakTimer = some (w.station.leakWindow * 1000) ∧
          (v < (t.bank b).low → t.queued b = true)) := by
  have given := w.onlyBank_retiered b tier
  obtain ⟨only, shaped, absent, present⟩ := (w.retiered b tier).newTier_cases b
  rw [Work.tierWrite_new used state]
  rw [Work.retiered_bank] at shaped absent present
  have station : (w.retiered b tier).station = w.station := rfl
  rw [station] at shaped absent present
  generalize (w.retiered b tier).newTier b = t at only shaped absent present
  obtain ⟨tierK, ratedK, lowK, highK, _, pressureK, _⟩ :=
    ((w.bank b).retiered tier w.station.markProfile).withFlags_settings
  refine ⟨given.trans only, shaped.tiered ⟨tierK, ratedK, lowK, highK⟩ pressureK (Bank.levelled_enterReady _ _ _),
    fun none => ?_, fun v x known warm => ?_⟩
  · obtain ⟨record, notice⟩ := absent none
    rw [record]
    exact ⟨rfl, rfl, notice⟩
  · obtain ⟨out, hot, sound⟩ := present v x known warm
    refine ⟨fun above => ?_, fun within burning => ?_, fun within cool => ?_⟩
    · obtain ⟨record, notice⟩ := out above
      rw [record]
      exact ⟨rfl, rfl, notice⟩
    · obtain ⟨record, notice⟩ := hot within burning
      rw [record]
      exact ⟨rfl, rfl, notice⟩
    · obtain ⟨record, joins⟩ := sound within cool
      rw [record]
      refine ⟨rfl, known, rfl, fun below => joins ?_⟩
      rw [(Bank.levelled_enterReady _ w.station.clock w.station.leakWindow v (pressureK.trans known)).1]
      exact decide_eq_true below

/-- A READY or ISOLATED bank given a tier is reloaded (02, R20, R21). -/
theorem Work.tierWrite_configured {w : Work} {b : BankId} {tier : Tier} (used : tier ≠ .unused)
    (state : (w.bank b).state = .ready ∨ (w.bank b).state = .isolated) (unclaimed : (w.bank b).claimant = none) :
    let t := w.tierWrite b tier
    Work.OnlyBank b w t ∧ (w.bank b).Tiered tier w.station.markProfile (t.bank b) ∧
      ((w.bank b).state = .isolated →
        (t.bank b).state = .isolated ∧ (t.bank b).isolation = (w.bank b).isolation) ∧
      ∀ v : Nat, (w.bank b).state = .ready → (w.bank b).pressure = some v →
        (tier.defaultRated < v →
          (t.bank b).state = .isolated ∧ (t.bank b).isolation = some .overpressure ∧ t.requested 11) ∧
        (v ≤ tier.defaultRated → (t.bank b).state = .ready ∧ (t.bank b).leakRef = (w.bank b).leakRef) := by
  have configured : (w.bank b).state ≠ .unused := by
    obtain h | h := state <;> rw [h] <;> decide
  have given := w.onlyBank_retiered b tier
  obtain ⟨only, shaped, out, stays⟩ := Work.reload_cases (w := w.retiered b tier) (b := b)
    (by rw [Work.retiered_bank]; exact unclaimed)
  rw [Work.tierWrite_reload used configured]
  rw [Work.retiered_bank] at shaped out stays
  generalize ((w.retiered b tier).reflag b).checkRated b = t at only shaped out stays
  obtain ⟨tierK, ratedK, lowK, highK, _, pressureK, _⟩ :=
    ((w.bank b).retiered tier w.station.markProfile).withFlags_settings
  obtain ⟨stateK, _, isolationK, refK⟩ := ((w.bank b).retiered tier w.station.markProfile).withFlags_stands
  refine ⟨given.trans only, shaped.tiered ⟨tierK, ratedK, lowK, highK⟩ pressureK (Bank.levelled_withFlags _),
    fun isolated => ?_, fun v ready known => ⟨fun above => ?_, fun within => ?_⟩⟩
  · rw [stays fun both => absurd (isolated.symm.trans both.1) (by decide)]
    exact ⟨stateK.trans isolated, isolationK⟩
  · obtain ⟨record, notice⟩ := out ready (by
      show (w.bank b).pressure.any _ = true
      rw [known]
      exact decide_eq_true above)
    rw [record]
    exact ⟨rfl, rfl, notice⟩
  · rw [stays fun both => ?_]
    · exact ⟨stateK.trans ready, refK⟩
    · have above : (w.bank b).pressure.any (fun v => decide (tier.defaultRated < v)) = true := both.2
      rw [known] at above
      exact absurd (of_decide_eq_true above) (Nat.not_lt.mpr within)

/-! ### The transfer -/

section
variable {b : BankId} {a : Addr} {tail : Tail} {code : Byte} {s : State} (names : a.Names (.bank b) s.port.window)
  (whole : tail.Whole 1) (data : tail.data = [code]) (setUp : s.station.phase = .setup)
include names whole data setUp

/-- A taken tier write in SETUP (09, R162). -/
theorem exec_tierWrite_taken {tier : Tier} (known : tierOf code.toNat = some tier)
    (only : Work.OnlyBank b (s.heard (addrRequest a 2 1 0 tail)).begin
      (Work.tierWrite b tier (s.heard (addrRequest a 2 1 0 tail)).begin)) :
    exec (.tierWrite a tail) s = .next
      { (Work.tierWrite b tier (s.heard (addrRequest a 2 1 0 tail)).begin).toState with port.lastResult := .ok } := by
  have value : leValue tail.data = code.toNat := by rw [data, leValue_byte]
  refine congrArg Host.Outcome.next (portRequest_bankField (r := addrRequest a 2 1 0 tail) rfl whole (by decide)
    (addrRequest_resolve names (cls := 1) rfl 2 0 tail) rfl ?_ setUp ?_ only)
  · show setupOnly s ++ orFail (tierOf (leValue tail.data)).isSome .range = []
    rw [setupOnly_setup setUp, value, known]
    rfl
  · show Work.tierWrite b ((tierOf (leValue tail.data)).getD .unused) _ = _
    rw [value, known]
    rfl

/-- A tier write that gives a configured bank or an UNUSED one a tier (02, R20, R21). -/
theorem exec_tierWrite_used {tier : Tier} (rows : s.BankRows) (known : tierOf code.toNat = some tier)
    (used : tier ≠ .unused)
    (state : (s.bank b).state = .unused ∨ (s.bank b).state = .ready ∨ (s.bank b).state = .isolated) :
    ∃ t, exec (.tierWrite a tail) s = .next t ∧ s.Taken t (addrRequest a 2 1 0 tail) ∧ OnlyBankChanged s t b ∧
      (s.bank b).Tiered tier s.station.markProfile (t.bank b) ∧
      ((s.bank b).state = .unused →
        ((s.bank b).pressure = none ∨ (s.bank b).temperature = none →
          (t.bank b).state = .isolated ∧ (t.bank b).isolation = some .sensor ∧ t.requested 11) ∧
        ∀ (v : Nat) (x : Int), (s.bank b).pressure = some v → (s.bank b).temperature = some x →
          (tier.defaultRated < v →
            (t.bank b).state = .isolated ∧ (t.bank b).isolation = some .overpressure ∧ t.requested 11) ∧
          (v ≤ tier.defaultRated → 850 ≤ x →
            (t.bank b).state = .isolated ∧ (t.bank b).isolation = some .overtemp ∧ t.requested 11) ∧
          (v ≤ tier.defaultRated → x < 850 →
            (t.bank b).state = .ready ∧ (t.bank b).leakRef = some v ∧
            (t.bank b).leakTimer = some (s.station.leakWindow * 1000) ∧
            (v < (t.bank b).low → t.queued b = true))) ∧
      ((s.bank b).state = .isolated →
        (t.bank b).state = .isolated ∧ (t.bank b).isolation = (s.bank b).isolation) ∧
      (∀ v : Nat, (s.bank b).state = .ready → (s.bank b).pressure = some v →
        (tier.defaultRated < v →
          (t.bank b).state = .isolated ∧ (t.bank b).isolation = some .overpressure ∧ t.requested 11) ∧
        (v ≤ tier.defaultRated → (t.bank b).state = .ready ∧ (t.bank b).leakRef = (s.bank b).leakRef)) := by
  obtain unused | configured := state
  · obtain ⟨only, tiered, absent, present⟩ := Work.tierWrite_unused
      (w := (s.heard (addrRequest a 2 1 0 tail)).begin) (b := b) used unused
    have runs := exec_tierWrite_taken names whole data setUp known only
    obtain ⟨answer, changed⟩ := only.recorded
    generalize Work.tierWrite b tier (s.heard (addrRequest a 2 1 0 tail)).begin = w
      at only tiered absent present runs answer changed
    exact ⟨_, runs, answer, changed, tiered, fun _ => ⟨absent, present⟩,
      fun isolated => absurd (unused.symm.trans isolated) (by decide),
      fun _ ready => absurd (unused.symm.trans ready) (by decide)⟩
  · have unclaimed : (s.bank b).claimant = none := by
      refine (rows b).unclaimed ?_ ?_ <;> obtain h | h := configured <;> rw [h] <;> decide
    obtain ⟨only, tiered, isolated, ready⟩ := Work.tierWrite_configured
      (w := (s.heard (addrRequest a 2 1 0 tail)).begin) (b := b) used configured unclaimed
    have runs := exec_tierWrite_taken names whole data setUp known only
    obtain ⟨answer, changed⟩ := only.recorded
    generalize Work.tierWrite b tier (s.heard (addrRequest a 2 1 0 tail)).begin = w
      at only tiered isolated ready runs answer changed
    refine ⟨_, runs, answer, changed, tiered, fun unused => ?_, isolated, ready⟩
    obtain h | h := configured <;> exact absurd (unused.symm.trans h) (by decide)

end

end Sys2Proof.Machine

/-- Settles O13: the write is a SET of one field that changes only the bank; `Work.tierWrite_unconfigures` and
`exec_tierWrite_used` say how. -/
theorem tierWriteConfiguresTheBank : Obligations.TierWriteConfiguresTheBank := by
  unfold Obligations.TierWriteConfiguresTheBank
  intro b a tail code s names whole data
  have ref := addrRequest_resolve names (cls := 1) rfl 2 0 tail
  have value : leValue tail.data = code.toNat := by rw [data, leValue_byte]
  refine ⟨fun service => congrArg Host.Outcome.next ?_, fun setUp large => congrArg Host.Outcome.next ?_,
    fun setUp zero unused => ?_, fun setUp rows zero state => ?_, fun tier setUp rows listed state => ?_⟩
  · refine portRequest_setField_refused rfl whole (by decide) ref rfl ?_ (by decide)
    show firstFault (setupOnly s ++ orFail _ .range) = _
    rw [setupOnly_service service]
    exact firstFault_phase true _
  · refine portRequest_setField_refused rfl whole (by decide) ref rfl ?_ (by decide)
    show firstFault (setupOnly s ++ orFail (tierOf (leValue tail.data)).isSome .range) = _
    rw [setupOnly_setup setUp, value, tierOf_large large]
    rfl
  · have known : tierOf code.toNat = some .unused := by rw [zero]; rfl
    have same : Work.tierWrite b .unused (s.heard (addrRequest a 2 1 0 tail)).begin =
        (s.heard (addrRequest a 2 1 0 tail)).begin := by
      unfold Work.tierWrite
      dsimp only
      rw [if_pos rfl]
      exact if_pos unused
    have runs := exec_tierWrite_taken names whole data setUp known (by rw [same]; exact .refl b _)
    rw [same] at runs
    exact runs
  · have known : tierOf code.toNat = some .unused := by rw [zero]; rfl
    have used : (s.bank b).state ≠ .unused := by
      obtain h | h := state <;> rw [h] <;> decide
    obtain ⟨only, bank, off⟩ := Work.tierWrite_unconfigures
      (w := (s.heard (addrRequest a 2 1 0 tail)).begin) (b := b) used
    have runs := exec_tierWrite_taken names whole data setUp known only
    obtain ⟨answer, changed⟩ := only.recorded
    generalize Work.tierWrite b .unused (s.heard (addrRequest a 2 1 0 tail)).begin = w at bank off runs answer changed
    have record : State.bank { w.toState with port.lastResult := .ok } b = (s.bank b).toUnused := bank
    refine ⟨_, runs, answer, changed, ?_⟩
    rw [record]
    exact ⟨rfl, rfl, rfl, rfl, rfl, rfl, rfl, rfl, rfl, rfl, rfl, off⟩
  · have given : tierOf code.toNat = some tier ∧ tier ≠ .unused ∧ tier.defaultRated = defaultRatedOf tier := by
      simp only [List.mem_cons, Prod.mk.injEq, List.not_mem_nil, or_false] at listed
      obtain ⟨rfl, rfl⟩ | ⟨rfl, rfl⟩ | ⟨rfl, rfl⟩ := listed <;> exact ⟨rfl, by decide, rfl⟩
    obtain ⟨known, used, rated⟩ := given
    rw [← rated]
    obtain ⟨t, runs, answer, changed, tiered, fresh, isolated, ready⟩ :=
      exec_tierWrite_used names whole data setUp rows known used state
    exact ⟨t, runs, answer, changed, tiered.tier, tiered.rated, tiered.marks, tiered.flags, fresh, isolated, ready⟩
end

section
/-! SUPPORT. Rated pressure and mark writes, and O14 (02, R21, R22, R23). -/
open Sys2Proof Sys2Proof.Machine
namespace Sys2Proof.Machine

/-! ### SET of several fields -/

/-- A SET whose data covers `fields`: they are judged and written in turn (09, R162, R164). -/
theorem judge_setFields {r : Request} {s : State} {ref : RecordRef} {n : Nat} {fields : List (Nat × Nat)}
    (hop : r.op = 2) (hw : r.tail.Whole n) (hn : 0 < n) (href : r.resolve s.port.window = .ok ref)
    (inside : r.field.toNat < ref.fieldCount)
    (cover : coverFields (ref.widths.drop r.field.toNat) r.field.toNat r.tail.data = some fields) :
    judge r s =
      let out := Work.setAll ref fields fields s.begin
      if out.1.isEmpty then (.ok, out.2.close s) else (firstFault out.1, s) := by
  obtain ⟨_, extra, count, length⟩ := hw
  have fits : r.lengthOk s.port.window = true := by
    have some : r.tail.count ≠ 0 := by
      intro e
      simp [e] at count
      omega
    unfold Request.lengthOk
    simp [hop, href, cover, length, count]
    omega
  unfold judge
  rw [if_neg (by simp [extra]), if_neg (by simp [fits]), href]
  simp only [hop]
  show judgeSet r ref s = _
  unfold judgeSet
  rw [if_neg (Nat.not_le.mpr inside), cover]
  rfl

section
variable {r : Request} {s : State} {ref : RecordRef} {n : Nat} {fields : List (Nat × Nat)} (hop : r.op = 2)
  (hw : r.tail.Whole n) (hn : 0 < n) (href : r.resolve s.port.window = .ok ref)
  (inside : r.field.toNat < ref.fieldCount)
  (cover : coverFields (ref.widths.drop r.field.toNat) r.field.toNat r.tail.data = some fields)
include hop hw hn href inside cover

theorem portRequest_setFields_taken {t : Work} (passed : Work.setAll ref fields fields (s.heard r).begin = ([], t)) :
    portRequest r s = (t.close (s.heard r)).recordResult .ok := by
  rw [portRequest_judged hw.1 (by simp [hop]), judge_setFields hop hw hn (s := s.heard r) href inside cover]
  dsimp only
  rw [passed]
  rfl

theorem portRequest_setFields_refused {x : Result}
    (failed : firstFault (Work.setAll ref fields fields (s.heard r).begin).1 = x) (hx : x ≠ .ok) :
    portRequest r s = s.refusedWith r x := by
  have fails : ¬ (Work.setAll ref fields fields (s.heard r).begin).1.isEmpty = true := fun none => by
    rw [List.isEmpty_iff] at none
    rw [none] at failed
    exact hx failed.symm
  rw [portRequest_judged hw.1 (by simp [hop]), judge_setFields hop hw hn (s := s.heard r) href inside cover]
  dsimp only
  rw [if_neg fails, failed]
  exact State.heard_refused hx

end

/-! ### The checks of a pair of marks -/

/-- The checks of a mark with the other mark of its pair (02, R22). -/
def Bank.markFails (k : Bank) (low high : Nat) : List Result :=
  orFail (k.tier != .unused) .state ++ orFail (decide (low < high) && decide (high ≤ k.rated)) .range

theorem bankFails_low (b : BankId) (vals : List (Nat × Nat)) (v : Nat) (s : State) :
    bankFails b vals 2 v s = (s.bank b).markFails v ((carried vals 3).getD (s.bank b).high) := rfl

theorem bankFails_high (b : BankId) (vals : List (Nat × Nat)) (v : Nat) (s : State) :
    bankFails b vals 3 v s = (s.bank b).markFails ((carried vals 2).getD (s.bank b).low) v := rfl

/-- On an UNUSED bank STATE comes first, for one mark or for both (09, R164). -/
theorem Bank.markFails_unused {k : Bank} (unused : k.tier = .unused) (low high : Nat) :
    firstFault (k.markFails low high) = .state ∧
      firstFault (k.markFails low high ++ k.markFails low high) = .state := by
  unfold Bank.markFails
  rw [unused]
  cases decide (low < high) && decide (high ≤ k.rated) <;> exact ⟨rfl, rfl⟩

theorem Bank.markFails_wrong {k : Bank} {low high : Nat} (used : k.tier ≠ .unused)
    (wrong : ¬(low < high ∧ high ≤ k.rated)) : k.markFails low high = [.range] := by
  unfold Bank.markFails
  rw [orFail_pass (bne_iff_ne.mpr used), orFail_fail (by simpa using wrong)]
  rfl

theorem Bank.markFails_right {k : Bank} {low high : Nat} (used : k.tier ≠ .unused) (below : low < high)
    (within : high ≤ k.rated) : k.markFails low high = [] := by
  unfold Bank.markFails
  rw [orFail_pass (bne_iff_ne.mpr used), orFail_pass (by simp [below, within])]
  rfl

/-! ### Marks written -/

/-- From `w` to `t` bank `b` is given a pair of marks and new flags; a crossing of the new low mark joins the queue
(02, R22, R23). -/
structure Work.Marked (b : BankId) (lo hi : Nat) (w t : Work) : Prop where
  only : Work.OnlyBank b w t
  low : (t.bank b).low = lo
  high : (t.bank b).high = hi
  tier : (t.bank b).tier = (w.bank b).tier
  rated : (t.bank b).rated = (w.bank b).rated
  levelled : (t.bank b).Levelled
  stays : w.queued b = true → t.queued b = true
  joins : ∀ v, (w.bank b).pressure = some v → (w.bank b).belowLow = false → v < lo →
    (w.bank b).state = .ready ∨ (w.bank b).state = .serving → t.queued b = true

theorem Work.reflag_queued {w : Work} {b : BankId} (here : w.queued b = true) : (w.reflag b).queued b = true := by
  unfold Work.reflag
  dsimp only
  split
  · exact (Work.level_joinQueue b _ b).queued here
  · exact here

/-- One mark is written, then the flags are recomputed. -/
theorem Work.marked_reflag {w : Work} {b : BankId} {f : Bank → Bank} {low high : Nat}
    (written : f (w.bank b) = { w.bank b with low := low, high := high }) :
    Work.Marked b low high w ((w.modBank b f).reflag b) := by
  have given : (w.modBank b f).bank b = { w.bank b with low := low, high := high } := by
    rw [Work.modBank_bank_self, written]
  have bank : ((w.modBank b f).reflag b).bank b = Bank.withFlags { w.bank b with low := low, high := high } := by
    rw [Work.reflag_bank, given]
  have set : Work.OnlyBank b w (w.modBank b f) := by
    refine w.onlyBank_modBank b ?_ ?_ ?_ <;> rw [written]
  obtain ⟨tier, rated, lowK, highK, _, pressure, _⟩ :=
    Bank.withFlags_settings { w.bank b with low := low, high := high }
  have levelled := Bank.levelled_withFlags { w.bank b with low := low, high := high }
  refine ⟨set.trans (Work.onlyBank_reflag _ b), ?_, ?_, ?_, ?_, ?_, fun here => Work.reflag_queued here,
    fun v known above below state => Work.reflag_joins ?_ ?_ ?_⟩
  · rw [bank, lowK]
  · rw [bank, highK]
  · rw [bank, tier]
  · rw [bank, rated]
  · rw [bank]
    exact levelled
  · rw [given]
    exact above
  · rw [given, (levelled v (pressure.trans known)).1, lowK]
    exact decide_eq_true below
  · rw [given]
    exact state

/-- A second mark written after a first: the pair that results counts. -/
theorem Work.Marked.trans {b : BankId} {low high other : Nat} {w u t : Work} (h : Work.Marked b low other w u)
    (g : Work.Marked b low high u t) : Work.Marked b low high w t where
  only := h.only.trans g.only
  low := g.low
  high := g.high
  tier := g.tier.trans h.tier
  rated := g.rated.trans h.rated
  levelled := g.levelled
  stays := fun here => g.stays (h.stays here)
  joins := fun v known above below state => g.stays (h.joins v known above below state)

/-! ### The fields of a mark write -/

/-- A transfer of these fields leaves bank `b` the marks `low` and `high`: it is judged as a write of that pair (02,
R19, R22). -/
structure MarkPair (b : BankId) (low high : Nat) (fields : List (Nat × Nat)) (s : State) : Prop where
  unused : (s.bank b).tier = .unused → firstFault (Work.setAll (.bank b) fields fields s.begin).1 = .state
  wrong : (s.bank b).tier ≠ .unused → ¬(low < high ∧ high ≤ (s.bank b).rated) →
    firstFault (Work.setAll (.bank b) fields fields s.begin).1 = .range
  right : (s.bank b).tier ≠ .unused → low < high → high ≤ (s.bank b).rated →
    ∃ t, Work.setAll (.bank b) fields fields s.begin = ([], t) ∧ Work.Marked b low high s.begin t

theorem Work.setAll_passed {ref : RecordRef} {vals xs : List (Nat × Nat)} {x : Nat × Nat} {w : Work}
    (h : fieldFails ref vals x.1 x.2 w.toState = []) :
    Work.setAll ref vals (x :: xs) w = Work.setAll ref vals xs (w.writeField ref x.1 x.2) := by
  rw [Work.setAll, h]
  rfl

/-- After a field that fails, the next is judged on the work as it was. -/
theorem Work.setAll_failed {ref : RecordRef} {vals xs : List (Nat × Nat)} {x : Nat × Nat} {w : Work}
    {fails : List Result} (checks : fieldFails ref vals x.1 x.2 w.toState = fails) (h : fails ≠ []) :
    (Work.setAll ref vals (x :: xs) w).1 = fails ++ (Work.setAll ref vals xs w).1 := by
  rw [Work.setAll]
  dsimp only
  rw [checks, if_neg fun none => h (List.isEmpty_iff.mp none)]

/-- One mark, judged with the present other one (02, R22). -/
theorem markPair_single {b : BankId} {low high field v : Nat} {s : State}
    (checks : bankFails b [(field, v)] field v s = (s.bank b).markFails low high)
    (marked : Work.Marked b low high s.begin (s.begin.bankWrite b field v)) :
    MarkPair b low high [(field, v)] s := by
  have judged : Work.setAll (.bank b) [(field, v)] [(field, v)] s.begin =
      ((s.bank b).markFails low high,
        if ((s.bank b).markFails low high).isEmpty then s.begin.bankWrite b field v else s.begin) := by
    rw [State.setAll_single, ← checks]
    rfl
  refine ⟨fun unused => ?_, fun used wrong => ?_, fun used below within => ⟨_, ?_, marked⟩⟩
  · rw [judged]
    exact (Bank.markFails_unused unused low high).1
  · rw [judged, Bank.markFails_wrong used wrong]
    rfl
  · rw [judged, Bank.markFails_right used below within]
    rfl

theorem markPair_low (b : BankId) (v : Nat) (s : State) : MarkPair b v (s.bank b).high [(2, v)] s :=
  markPair_single (bankFails_low b _ v s) (Work.marked_reflag rfl)

theorem markPair_high (b : BankId) (v : Nat) (s : State) : MarkPair b (s.bank b).low v [(3, v)] s :=
  markPair_single (bankFails_high b _ v s) (Work.marked_reflag rfl)

/-- Both marks: each is judged with the other one of the transfer (02, R19, R22). -/
theorem markPair_both (b : BankId) (low high : Nat) (s : State) : MarkPair b low high [(2, low), (3, high)] s := by
  have first : Work.Marked b low (s.bank b).high s.begin (s.begin.bankWrite b 2 low) := Work.marked_reflag rfl
  have checks : ∀ x ∈ [(2, low), (3, high)], fieldFails (.bank b) [(2, low), (3, high)] x.1 x.2 s.begin.toState =
      (s.bank b).markFails low high := fun x hx => by
    simp only [List.mem_cons, List.not_mem_nil, or_false] at hx
    obtain rfl | rfl := hx
    · exact bankFails_low b _ low s
    · exact bankFails_high b _ high s
  have failed : (s.bank b).markFails low high ≠ [] →
      (Work.setAll (.bank b) [(2, low), (3, high)] [(2, low), (3, high)] s.begin).1 =
        (s.bank b).markFails low high ++ (s.bank b).markFails low high := fun fails =>
    (Work.setAll_failed (checks (2, low) (by simp)) fails).trans (congrArg ((s.bank b).markFails low high ++ ·)
      ((Work.setAll_failed (checks (3, high) (by simp)) fails).trans (List.append_nil _)))
  refine ⟨fun unused => ?_, fun used wrong => ?_, fun used below within => ?_⟩
  · obtain ⟨one, two⟩ := Bank.markFails_unused unused low high
    rw [failed fun none => by rw [none] at one; cases one]
    exact two
  · have range := Bank.markFails_wrong used wrong
    rw [failed (by rw [range]; exact List.cons_ne_nil _ _), range]
    rfl
  · have written := Work.setAll_passed (ref := .bank b) (vals := [(2, low), (3, high)]) (x := (2, low))
      (xs := [(3, high)]) (w := s.begin) (Bank.markFails_right used below within)
    have same : s.begin.writeField (.bank b) 2 low = s.begin.bankWrite b 2 low := rfl
    rw [written, same]
    generalize s.begin.bankWrite b 2 low = w at first ⊢
    have passed : (w.bank b).markFails low high = [] :=
      Bank.markFails_right (by rw [first.tier]; exact used) below (by rw [first.rated]; exact within)
    exact ⟨w.bankWrite b 3 high, Work.setAll_passed passed, first.trans (Work.marked_reflag (by rw [← first.low]))⟩

/-! ### The end of a rule that changed one bank -/

theorem Work.visit_loops (e : QueueEntry) (w : Work) : (w.visit e).loops = w.loops := by
  unfold Work.visit
  dsimp only
  split
  · split
    · rfl
    · split <;> rfl
  · rfl

theorem Work.evaluate_loops (w : Work) : w.evaluate.loops = w.loops := by
  unfold Work.evaluate
  split
  · exact Work.each_keeps (fun a c => c.loops = a.loops) (fun _ => rfl) (fun h g => g.trans h) Work.visit
      Work.visit_loops _ w
  · rfl

/-- An end of a rule that does not serve the waiting order leaves the loops. -/
theorem Work.close_loops_unserved {w : Work} (unserved : w.serveDue = false) (s0 : State) :
    (w.close s0).loops = w.loops := by
  rw [Work.close_loops]
  unfold Work.wound
  rw [unserved]
  dsimp only
  split
  · exact w.evaluate_loops
  · rfl

/-- What a write of one bank leaves of the station in either phase (09, R162). -/
structure State.BankWritten (s t : State) : Prop where
  station : t.station = s.station
  holds : t.holds = s.holds
  positions : t.positions = s.positions
  loops : t.loops = s.loops
  reading : ∀ c, t.reading c = s.reading c

theorem Work.OnlyBank.reading {b : BankId} {w t : Work} (h : Work.OnlyBank b w t) (c : Channel) :
    t.reading c = w.reading c := by
  have same : ∀ d, (t.bank d).pressure = (w.bank d).pressure ∧ (t.bank d).temperature = (w.bank d).temperature :=
    fun d => by
      by_cases own : d = b
      · rw [own]
        exact ⟨h.pressure, h.temperature⟩
      · rw [h.others d own]
        exact ⟨rfl, rfl⟩
  cases c with
  | bankP d => exact congrArg (Option.map Int.ofNat) (same d).1
  | bankT d => exact (same d).2
  | hoseP p =>
    have pos : t.positions = w.positions := (congrArg State.positions h.rest).trans rfl
    exact congrArg (fun x => (x.get p).ses.hose.map Int.ofNat) pos
  | suctionP => exact (congrArg (fun x : State => x.station.suction.map Int.ofNat) h.rest).trans rfl
  | ambientT => exact (congrArg (fun x : State => x.station.ambient) h.rest).trans rfl
  | loopT l =>
    have loops : t.loops = w.loops := (congrArg State.loops h.rest).trans rfl
    exact congrArg (fun x => (x.get l).outlet) loops

theorem Work.OnlyBank.closes {r : Request} {s : State} {b : BankId} {w : Work}
    (h : Work.OnlyBank b (s.heard r).begin w) :
    s.Taken ((w.close (s.heard r)).recordResult .ok) r ∧
      s.BankWritten ((w.close (s.heard r)).recordResult .ok) := by
  have settles := w.settles_close (s.heard r)
  have port : w.port = s.port := (congrArg State.port h.rest).trans rfl
  have hostOut : w.hostOut = s.reads r := (congrArg State.hostOut h.rest).trans rfl
  have serve : w.serveDue = false := h.serveDue
  rw [State.recordResult_ok]
  refine ⟨⟨?_, settles.hostOut.trans hostOut⟩, settles.station.trans ((congrArg State.station h.rest).trans rfl),
    settles.holds.trans ((congrArg State.holds h.rest).trans rfl),
    (w.close_positions _).trans ((congrArg State.positions h.rest).trans rfl),
    (Work.close_loops_unserved serve _).trans ((congrArg State.loops h.rest).trans rfl),
    fun c => (settles.stands.reading c).trans (h.reading c)⟩
  exact congrArg (fun x : Port => { x with lastResult := .ok }) (settles.port.trans port)

/-! ### Mark writes -/

/-- What a taken mark write leaves of the bank (02, R22, R23). -/
structure State.MarksTaken (b : BankId) (lo hi : Nat) (s t : State) : Prop where
  low : (t.bank b).low = lo
  high : (t.bank b).high = hi
  rated : (t.bank b).rated = (s.bank b).rated
  flags : ∀ v, (s.bank b).pressure = some v →
    (t.bank b).belowLow = decide (v < lo) ∧ (t.bank b).atHigh = decide (hi ≤ v) ∧
    ((s.bank b).belowLow = false → v < lo → (s.bank b).state = .ready ∨ (s.bank b).state = .serving →
      t.queued b = true ∨ (t.bank b).state = .refilling)

/-- The evaluation at the rule's end keeps the marks and the flags; a bank that joined is below its high mark, so it
stays queued or goes to a compressor (03, R50, R51). -/
theorem Work.Marked.closes {b : BankId} {low high : Nat} {s s0 : State} {w : Work}
    (h : Work.Marked b low high s.begin w) (below : low < high) : s.MarksTaken b low high (w.close s0) := by
  have kept := (w.settles_close s0).bank b
  have pressure : (w.bank b).pressure = (s.bank b).pressure := h.only.pressure
  refine ⟨kept.low.trans h.low, kept.high.trans h.high, kept.rated.trans h.rated, fun v known => ?_⟩
  obtain ⟨belowLow, atHigh⟩ := h.levelled.close s0 v (kept.pressure.trans (pressure.trans known))
  rw [kept.low, h.low] at belowLow
  rw [kept.high, h.high] at atHigh
  refine ⟨belowLow, atHigh, fun above crossing state => ?_⟩
  refine Work.close_queued (h.joins v known above crossing state) ?_ s0
  unfold Bank.pressureAtHigh
  rw [pressure, known, h.high]
  exact decide_eq_false (by omega)

/-- The field a mark write names (02, R19). -/
def markField : MarkField → Byte
  | .low => 2
  | .high => 3

theorem markField_inside (b : BankId) (m : MarkField) : (markField m).toNat < (RecordRef.bank b).fieldCount := by
  cases m
  · exact (by decide : 2 < 14)
  · exact (by decide : 3 < 14)

/-- A mark write of one mark or of both covers a pair of marks (02, R22; 09, R162). -/
theorem markWrite_covers {b : BankId} {m : MarkField} {tail : Tail} {low high : Nat} {s : State}
    (form : (m = .low ∧ tail.Whole 2 ∧ low = leValue tail.data ∧ high = (s.bank b).high) ∨
      (m = .high ∧ tail.Whole 2 ∧ high = leValue tail.data ∧ low = (s.bank b).low) ∨
      (m = .low ∧ tail.Whole 4 ∧ low = leValue (tail.data.take 2) ∧ high = leValue (tail.data.drop 2))) :
    ∃ n fields, tail.Whole n ∧ 0 < n ∧ coverFields ((RecordRef.bank b).widths.drop (markField m).toNat)
      (markField m).toNat tail.data = some fields ∧ MarkPair b low high fields s := by
  have whole_length : ∀ {k}, tail.Whole k → tail.data.length = k := fun ⟨_, _, _, length⟩ => length
  have one : ∀ ws field, tail.data.length = 2 →
      coverFields (2 :: ws) field tail.data = some [(field, leValue tail.data)] := fun ws field length => by
    have covers := coverFields_single (data := tail.data) (fun e => by rw [e] at length; cases length) ws field
    rw [length] at covers
    exact covers
  obtain ⟨rfl, whole, rfl, rfl⟩ | ⟨rfl, whole, rfl, rfl⟩ | ⟨rfl, whole, rfl, rfl⟩ := form
  · have length := whole_length whole
    exact ⟨2, _, whole, by decide, one _ 2 length, markPair_low b _ s⟩
  · have length := whole_length whole
    exact ⟨2, _, whole, by decide, one _ 3 length, markPair_high b _ s⟩
  · have length := whole_length whole
    obtain ⟨x, y, z, u, data⟩ := List.length_eq_four.mp length
    refine ⟨4, _, whole, by decide, ?_, markPair_both b _ _ s⟩
    rw [data]
    rfl

section
variable {b : BankId} {a : Addr} {m : MarkField} {tail : Tail} {n low high : Nat} {fields : List (Nat × Nat)}
  {s : State} (names : a.Names (.bank b) s.port.window) (whole : tail.Whole n) (nonempty : 0 < n)
  (cover : coverFields ((RecordRef.bank b).widths.drop (markField m).toNat) (markField m).toNat tail.data =
    some fields) (pair : MarkPair b low high fields (s.heard (addrRequest a 2 1 (markField m) tail)))
include names whole nonempty cover pair

theorem exec_markWrite_unused (unused : (s.bank b).tier = .unused) :
    exec (.markWrite a m tail) s = .next (s.refusedWith (addrRequest a 2 1 (markField m) tail) .state) :=
  congrArg Host.Outcome.next (portRequest_setFields_refused rfl whole nonempty
    (addrRequest_resolve names (cls := 1) rfl 2 (markField m) tail) (markField_inside b m) cover
    (pair.unused unused) (by decide))

theorem exec_markWrite_wrong (used : (s.bank b).tier ≠ .unused)
    (wrong : ¬(low < high ∧ high ≤ (s.bank b).rated)) :
    exec (.markWrite a m tail) s = .next (s.refusedWith (addrRequest a 2 1 (markField m) tail) .range) :=
  congrArg Host.Outcome.next (portRequest_setFields_refused rfl whole nonempty
    (addrRequest_resolve names (cls := 1) rfl 2 (markField m) tail) (markField_inside b m) cover
    (pair.wrong used wrong) (by decide))

theorem exec_markWrite_taken (used : (s.bank b).tier ≠ .unused) (below : low < high)
    (within : high ≤ (s.bank b).rated) : ∃ t, exec (.markWrite a m tail) s = .next t ∧
      s.Taken t (addrRequest a 2 1 (markField m) tail) ∧ s.MarksTaken b low high t ∧ s.BankWritten t := by
  obtain ⟨w, passed, marked⟩ := pair.right used below within
  obtain ⟨answer, written⟩ := marked.only.closes
  obtain ⟨lowT, highT, rated, flags⟩ := marked.closes (s0 := s.heard (addrRequest a 2 1 (markField m) tail)) below
  exact ⟨_, congrArg Host.Outcome.next (portRequest_setFields_taken rfl whole nonempty
    (addrRequest_resolve names (cls := 1) rfl 2 (markField m) tail) (markField_inside b m) cover passed), answer,
    ⟨lowT, highT, rated, flags⟩, written⟩

end

/-! ### Rated pressure writes -/

/-- A bank given a rated pressure and the marks of a profile (02, R21). -/
def Bank.rerated (v : Nat) (profile : Fin 4) (k : Bank) : Bank := Bank.loadMarks profile { k with rated := v }

/-- What a rated pressure write leaves of a READY or ISOLATED bank (02, R21, R23). -/
structure Bank.Rerated (v : Nat) (profile : Fin 4) (k t : Bank) : Prop where
  tier : t.tier = k.tier
  rated : t.rated = v
  marks : MarksOf profile v t.low t.high
  flags : ∀ p, k.pressure = some p → t.belowLow = decide (p < t.low) ∧ t.atHigh = decide (t.high ≤ p)

theorem Work.ratedWrite_configured {w : Work} {b : BankId} (v : Nat) (unclaimed : (w.bank b).claimant = none) :
    let t := w.ratedWrite b v
    Work.OnlyBank b w t ∧ (w.bank b).Rerated v w.station.markProfile (t.bank b) ∧
      ∀ p, (w.bank b).pressure = some p →
        ((w.bank b).state = .ready → v < p →
          (t.bank b).state = .isolated ∧ (t.bank b).isolation = some .overpressure ∧ t.requested 11) ∧
        ((w.bank b).state = .isolated ∨ p ≤ v → (t.bank b).state = (w.bank b).state) := by
  have given : Work.OnlyBank b w (w.modBank b (Bank.rerated v w.station.markProfile)) :=
    w.onlyBank_modBank b rfl rfl rfl
  have bank : (w.modBank b (Bank.rerated v w.station.markProfile)).bank b =
      (w.bank b).rerated v w.station.markProfile := Work.modBank_bank_self _ _ _
  obtain ⟨only, shaped, out, stays⟩ := Work.reload_cases
    (w := w.modBank b (Bank.rerated v w.station.markProfile)) (b := b) (by rw [bank]; exact unclaimed)
  have written : w.ratedWrite b v =
      ((w.modBank b (Bank.rerated v w.station.markProfile)).reflag b).checkRated b := rfl
  rw [bank] at shaped out stays
  rw [written]
  generalize ((w.modBank b (Bank.rerated v w.station.markProfile)).reflag b).checkRated b = t
    at only shaped out stays
  obtain ⟨tierK, ratedK, lowK, highK, _, pressureK, _⟩ :=
    ((w.bank b).rerated v w.station.markProfile).withFlags_settings
  obtain ⟨stateK, _⟩ := ((w.bank b).rerated v w.station.markProfile).withFlags_stands
  obtain ⟨tierT, ratedT, lowT, highT, belowT, atT⟩ := shaped.keeps
  have overRated : ∀ p, (w.bank b).pressure = some p →
      ((w.bank b).rerated v w.station.markProfile).overRated = decide (v < p) := fun p known => by
    show (w.bank b).pressure.any _ = _
    rw [known]
    rfl
  refine ⟨given.trans only, ⟨tierT.trans tierK, ratedT.trans ratedK, ?_, fun p known => ?_⟩,
    fun p known => ⟨fun ready above => ?_, fun sound => ?_⟩⟩
  · rw [lowT, highT, lowK, highK]
    exact marksOf_profile w.station.markProfile v
  · rw [belowT, atT, lowT, highT]
    exact Bank.levelled_withFlags _ p (pressureK.trans known)
  · obtain ⟨record, notice⟩ := out ready (by rw [overRated p known]; exact decide_eq_true above)
    rw [record]
    exact ⟨rfl, rfl, notice⟩
  · rw [stays fun both => ?_]
    · exact stateK
    · obtain ⟨ready, above⟩ := both
      rw [overRated p known] at above
      obtain isolated | within := sound
      · exact absurd (ready.symm.trans isolated) (by decide)
      · exact absurd (of_decide_eq_true above) (Nat.not_lt.mpr within)

end Sys2Proof.Machine

/-- Settles O14: a rated pressure write reloads only the bank (`Work.ratedWrite_configured`); a mark write of either
form is judged and written as the pair that results (`MarkPair`). -/
theorem ratedAndMarkWritesSetTheMarks : Obligations.RatedAndMarkWritesSetTheMarks := by
  unfold Obligations.RatedAndMarkWritesSetTheMarks
  refine ⟨fun b a tail lo hi n s names whole data value => ?_,
    fun b a m tail low high s names form => ?_⟩
  · have ref := addrRequest_resolve names (cls := 1) rfl 2 1 tail
    have read : leValue tail.data = n := by rw [data, value]; simp [leValue]
    have checks : bankFails b [(1, leValue tail.data)] 1 (leValue tail.data) (s.heard (addrRequest a 2 1 1 tail)) =
        setupOnly s ++ orFail ((s.bank b).tier != .unused) .state ++ inRange 1000 11000 n := by
      rw [read]
      rfl
    refine ⟨fun service => congrArg Host.Outcome.next ?_, fun setUp unused => congrArg Host.Outcome.next ?_,
      fun setUp used outside => congrArg Host.Outcome.next ?_, fun setUp rows used least most state => ?_⟩
    · refine portRequest_setField_refused rfl whole (by decide) ref rfl ((congrArg firstFault checks).trans ?_)
        (by decide)
      rw [setupOnly_service service]
      exact firstFault_phase _ _
    · refine portRequest_setField_refused rfl whole (by decide) ref rfl ((congrArg firstFault checks).trans ?_)
        (by decide)
      rw [setupOnly_setup setUp, unused]
      unfold inRange
      cases decide (1000 ≤ n) && decide (n ≤ 11000) <;> rfl
    · refine portRequest_setField_refused rfl whole (by decide) ref rfl ((congrArg firstFault checks).trans ?_)
        (by decide)
      rw [setupOnly_setup setUp, orFail_pass (bne_iff_ne.mpr used), inRange_outside outside]
      rfl
    · have unclaimed : (s.bank b).claimant = none := by
        refine (rows b).unclaimed ?_ ?_ <;> obtain h | h := state <;> rw [h] <;> decide
      obtain ⟨only, rerated, judged⟩ := Work.ratedWrite_configured
        (w := (s.heard (addrRequest a 2 1 1 tail)).begin) (b := b) n unclaimed
      have runs := portRequest_bankField (r := addrRequest a 2 1 1 tail) rfl whole (by decide) ref rfl
        (checks.trans (by
          rw [setupOnly_setup setUp, orFail_pass (bne_iff_ne.mpr used), inRange_within least most]
          rfl)) setUp (congrArg (Work.ratedWrite b · _) read) only
      obtain ⟨answer, changed⟩ := only.recorded
      generalize Work.ratedWrite b n (s.heard (addrRequest a 2 1 1 tail)).begin = w
        at rerated judged runs answer changed
      refine ⟨_, congrArg Host.Outcome.next runs, answer, changed, rerated.tier, rerated.rated, rerated.marks,
        fun v known => ?_⟩
      obtain ⟨belowLow, atHigh⟩ := rerated.flags v known
      obtain ⟨out, stays⟩ := judged v known
      exact ⟨belowLow, atHigh, out, stays⟩
  · obtain ⟨n, fields, whole, nonempty, cover, pair⟩ := markWrite_covers
      (s := s.heard (addrRequest a 2 1 (markField m) tail)) form
    refine ⟨exec_markWrite_unused names whole nonempty cover pair,
      exec_markWrite_wrong names whole nonempty cover pair, fun used below within => ?_⟩
    obtain ⟨t, runs, answer, ⟨lowT, highT, rated, flags⟩, station, holds, positions, loops, reading⟩ :=
      exec_markWrite_taken names whole nonempty cover pair used below within
    exact ⟨t, runs, answer, lowT, highT, rated, flags, station, holds, positions, loops, reading⟩
end

section
/-! SUPPORT. The laws of power, of the refill queue and of the loops, op by op: `State.Abides s t` says that each law
`s` obeys `t` obeys (03, R43, R62; 04, R67, R69, R78; 10, R175). -/
namespace Sys2Proof.Machine

/-! ### Entries that are placed -/

/-- A placed entry joins the others, wherever it stands. -/
theorem placeBack_perm (prio : BankId → Nat) (e : QueueEntry) (q : List QueueEntry) :
    (placeBack prio e q).Perm (e :: q) := by
  unfold placeBack
  refine List.perm_middle.trans ?_
  rw [List.takeWhile_append_dropWhile]

theorem placeFront_perm (prio : BankId → Nat) (e : QueueEntry) (q : List QueueEntry) :
    (placeFront prio e q).Perm (e :: q) := by
  unfold placeFront
  refine List.perm_middle.trans ?_
  rw [List.takeWhile_append_dropWhile]

theorem placeBack_inOrder {prio : BankId → Nat} {e : QueueEntry} {q : List QueueEntry} (h : InOrder prio q) :
    InOrder prio (placeBack prio e q) := by
  rw [placeBack_filter h]
  unfold InOrder
  rw [List.append_assoc, List.pairwise_append]
  refine ⟨h.sublist List.filter_sublist, ?_, fun x hx y hy => ?_⟩
  · rw [List.singleton_append, List.pairwise_cons]
    exact ⟨fun y hy => by simp at hy; omega, h.sublist List.filter_sublist⟩
  · simp at hx hy
    obtain rfl | below := hy <;> omega

theorem withoutBank_ne {b : BankId} {q : List QueueEntry} {e : QueueEntry} (h : e ∈ withoutBank b q) : e.bank ≠ b := by
  unfold withoutBank at h
  simpa using (List.mem_filter.mp h).2

theorem withoutBank_fresh (b : BankId) (q : List QueueEntry) : b ∉ (withoutBank b q).map QueueEntry.bank := by
  intro h
  obtain ⟨e, he, bank⟩ := List.mem_map.mp h
  exact withoutBank_ne he bank

/-! ### The law of the refill queue with banks excused -/

/-- The law of the refill queue, but that the `excused` banks may be in any state: one that is being isolated stands in
the queue until its claimant has been told (02, R28; 03, R43). -/
structure State.QueueOk (excused : BankId → Prop) (s : State) : Prop where
  once : (s.refillQueue.map QueueEntry.bank).Nodup
  waits : ∀ e ∈ s.refillQueue, excused e.bank ∨ (s.bank e.bank).state = .ready ∨ (s.bank e.bank).state = .serving
  order : InOrder s.priorities s.refillQueue

theorem State.queueLaw_iff (s : State) : s.QueueLaw ↔ s.QueueOk (fun _ => False) :=
  ⟨fun ⟨once, waits, order⟩ => ⟨once, fun e he => .inr (waits e he), order⟩,
    fun ⟨once, waits, order⟩ => ⟨once, fun e he => (waits e he).resolve_left id, order⟩⟩

namespace State.QueueOk
variable {P Q : BankId → Prop} {s t : State} {w : Work}

theorem mono (h : s.QueueOk P) (le : ∀ b, P b → Q b) : s.QueueOk Q :=
  ⟨h.once, fun e he => (h.waits e he).imp_left (le _), h.order⟩

theorem of_eq (h : s.QueueOk P) (banks : t.banks = s.banks) (queue : t.refillQueue = s.refillQueue) : t.QueueOk P := by
  have bank : ∀ b, t.bank b = s.bank b := fun b => by unfold State.bank; rw [banks]
  refine ⟨queue ▸ h.once, fun e he => ?_, ?_⟩
  · rw [bank]
    exact h.waits e (queue ▸ he)
  · unfold State.priorities
    simp only [bank]
    exact queue ▸ h.order

/-- A part of a queue in order. -/
theorem sublist (h : s.QueueOk P) {q : List QueueEntry} (part : q.Sublist s.refillQueue) :
    ({ s with refillQueue := q } : State).QueueOk P :=
  ⟨(part.map _).nodup h.once, fun e he => h.waits e (part.subset he), h.order.sublist part⟩

/-- An entry that is placed. -/
theorem placed (h : s.QueueOk P) {e : QueueEntry} {q : List QueueEntry} (perm : q.Perm (e :: s.refillQueue))
    (order : InOrder s.priorities q) (fresh : e.bank ∉ s.refillQueue.map QueueEntry.bank)
    (waits : P e.bank ∨ (s.bank e.bank).state = .ready ∨ (s.bank e.bank).state = .serving) :
    ({ s with refillQueue := q } : State).QueueOk P where
  once := ((perm.map _).nodup_iff).mpr (List.nodup_cons.mpr ⟨fresh, h.once⟩)
  waits := fun x hx => (List.mem_cons.mp (perm.mem_iff.mp hx)).elim (fun e => e ▸ waits) (h.waits x)
  order := order

/-- A bank changes its record, not its priority, and one that may wait for a refill still may, or is excused. -/
theorem modBank (h : w.QueueOk P) {b : BankId} {f : Bank → Bank}
    (priority : (f (w.bank b)).priority = (w.bank b).priority)
    (waits : P b ∨ ((w.bank b).state = .ready ∨ (w.bank b).state = .serving →
      (f (w.bank b)).state = .ready ∨ (f (w.bank b)).state = .serving)) : (w.modBank b f).QueueOk P where
  once := h.once
  waits := fun e he => by
    rw [Work.modBank_bank]
    split
    · next here =>
      rw [here]
      exact waits.elim .inl fun g => (here ▸ h.waits e he).imp_right g
    · exact h.waits e he
  order := by
    have same : (w.modBank b f).priorities = w.priorities := funext fun c => by
      show ((w.modBank b f).bank c).priority = (w.bank c).priority
      rw [Work.modBank_bank]
      split
      · next here => rw [here]; exact priority
      · rfl
    rw [same]
    exact h.order

theorem leaveQueue (h : w.QueueOk P) (b : BankId) : (w.leaveQueue b).QueueOk P := h.sublist List.filter_sublist

/-- A bank off the queue needs no excuse. -/
theorem leftQueue (h : w.QueueOk (fun c => P c ∨ c = b)) : (w.leaveQueue b).QueueOk P where
  once := (h.leaveQueue b).once
  waits := fun e he => ((h.leaveQueue b).waits e he).imp_left fun g => g.resolve_right (withoutBank_ne he)
  order := (h.leaveQueue b).order

theorem joinQueue (h : w.QueueOk P) {b : BankId}
    (waits : (w.bank b).state = .ready ∨ (w.bank b).state = .serving) : (w.joinQueue b).QueueOk P := by
  unfold Work.joinQueue
  split
  · exact h
  · next out =>
    refine h.placed (placeBack_perm _ _ _) (placeBack_inOrder h.order) (fun here => out ?_) (.inr waits)
    obtain ⟨e, he, bank⟩ := List.mem_map.mp here
    exact List.any_eq_true.mpr ⟨e, he, beq_iff_eq.mpr bank⟩

theorem frontQueue (h : w.QueueOk P) {b : BankId}
    (waits : (w.bank b).state = .ready ∨ (w.bank b).state = .serving) : (w.frontQueue b).QueueOk P := by
  have rest := h.leaveQueue b
  refine rest.placed (placeFront_perm _ _ _) ?_ (withoutBank_fresh b _) (.inr waits)
  rw [placeFront_eq (e := { bank := b, stamp := w.station.clock }) h.order]
  exact atFront_inOrder h.order

/-- The entry of a bank whose priority changed is placed anew (03, R47). -/
theorem replaceEntry {u : Work} {b : BankId} (h : w.QueueOk P) (queue : u.refillQueue = w.refillQueue)
    (state : ∀ c, (u.bank c).state = (w.bank c).state)
    (others : ∀ c, c ≠ b → (u.bank c).priority = (w.bank c).priority) : (u.replaceEntry b).QueueOk P := by
  have left := h.leaveQueue b
  have rest : (u.leaveQueue b).QueueOk P := by
    refine ⟨?_, fun e he => ?_, ?_⟩
    · unfold Work.leaveQueue
      rw [queue]
      exact left.once
    · have waits : e ∈ withoutBank b w.refillQueue := queue ▸ he
      show P e.bank ∨ (u.bank e.bank).state = .ready ∨ (u.bank e.bank).state = .serving
      rw [state]
      exact left.waits e waits
    · show InOrder u.priorities (withoutBank b u.refillQueue)
      rw [queue]
      refine left.order.imp_of_mem fun {x y} hx hy le => ?_
      show (u.bank y.bank).priority ≤ (u.bank x.bank).priority
      rw [others _ (withoutBank_ne hx), others _ (withoutBank_ne hy)]
      exact le
  unfold Work.replaceEntry
  split
  · next none =>
    have out : withoutBank b u.refillQueue = u.refillQueue :=
      List.filter_eq_self.mpr fun e he => by simpa using List.find?_eq_none.mp none e he
    exact rest.of_eq rfl out.symm
  · next e found =>
    have here : e.bank = b := by simpa using List.find?_some found
    have waits := h.waits e (queue ▸ List.mem_of_find?_eq_some found)
    rw [← state] at waits
    exact rest.placed (placeBack_perm _ e _) (placeBack_inOrder rest.order) (here ▸ withoutBank_fresh b _) waits

theorem priorityWrite (h : w.QueueOk P) {b : BankId} {n : Nat} : (w.priorityWrite b n).QueueOk P := by
  refine h.replaceEntry rfl (fun c => ?_) fun c other => ?_
  · rw [Work.modBank_bank]
    split
    · next here => rw [here]
    · rfl
  · rw [Work.modBank_bank_ne w _ other]

end State.QueueOk


/-! ### The laws of power -/

/-- A compressor that takes no power: it holds no more than before and is active only if it was. -/
structure Compressor.Eases (x y : Compressor) : Prop where
  draw : y.heldDraw ≤ x.heldDraw
  active : y.active = true → x.active = true

theorem Compressor.eases_of_inactive {x y : Compressor} (h : y.active = false) : x.Eases y where
  draw := by unfold Compressor.heldDraw; rw [h]; exact Nat.zero_le _
  active := fun e => by rw [h] at e; cases e

/-- A loop that takes no power: its chiller holds no more than before and leaves OFF no more than its tick timer
starts. -/
structure Loop.Eases (x y : Loop) : Prop where
  draw : y.heldDraw ≤ x.heldDraw
  off : x.chiller = .off → y.chiller = .off
  tick : x.tick = none → y.tick = none

theorem State.granted_le {s t : State} (comp : ∀ k, (t.comp k).heldDraw ≤ (s.comp k).heldDraw)
    (loop : ∀ l, (t.loop l).heldDraw ≤ (s.loop l).heldDraw) : t.granted ≤ s.granted :=
  Nat.add_le_add (Nat.add_le_add (Nat.add_le_add (comp 0) (comp 1)) (loop 0)) (loop 1)

/-- The phase and the allowance stand while no compressor and no loop takes power. -/
theorem State.SetupQuiet.eased {s t : State} (h : s.SetupQuiet) (comp : ∀ k, (s.comp k).Eases (t.comp k))
    (loop : ∀ l, (s.loop l).Eases (t.loop l)) (order : s.powerQueue = [] → t.powerQueue = [])
    (phase : t.station.phase = s.station.phase) : t.SetupQuiet := fun setup => by
  obtain ⟨inactive, off, nobody⟩ := h (phase ▸ setup)
  refine ⟨fun k => ?_, fun l => ⟨(loop l).off (off l).1, (loop l).tick (off l).2⟩, order nobody⟩
  cases active : (t.comp k).active with
  | false => rfl
  | true => exact ((comp k).active active).symm.trans (inactive k)

/-- Out of SETUP nothing is asked for. -/
theorem State.SetupQuiet.of_service {s : State} (h : s.station.phase ≠ .setup) : s.SetupQuiet :=
  fun setup => absurd setup h

/-! ### The laws of the loops -/

/-- The bounds of one loop (04, R67, R78). -/
def Loop.InRange (x : Loop) : Prop :=
  x.reserve ≤ x.capacity ∧ x.loss ≤ 10 ∧ x.grants.length ≤ 2 ∧ (x.grants ++ x.queue).Nodup

/-- Where a position with this record may stand in the loops of `s` (04, R69, R78; 10, R175). -/
structure State.Seats (s : State) (p : PosId) (y : Position) : Prop where
  holder : ∀ l, p ∈ (s.loop l).grants → y.cfg.loop = some l ∧ y.ses.state.live = true
  waiter : ∀ l, p ∈ (s.loop l).queue → y.cfg.loop = some l ∧ y.ses.state = .cooling
  idle : s.station.phase = .setup → y.ses.state = .idle

theorem State.HoldersAttached.seats {s : State} (h : s.HoldersAttached) (p : PosId) : s.Seats p (s.pos p) :=
  ⟨fun l hp => h.1 l p hp, fun l hp => h.2.1 l p hp, fun setup => h.2.2 setup p⟩

theorem State.HoldersAttached.of_seats {s : State} (h : ∀ p, s.Seats p (s.pos p)) : s.HoldersAttached :=
  ⟨fun l p => (h p).holder l, fun l p => (h p).waiter l, fun setup p => (h p).idle setup⟩

/-- A position that changes its record and may stand where it stood: attached as before, live, COOLING and IDLE if it
was. -/
structure Position.Stays (x y : Position) : Prop where
  loop : y.cfg.loop = x.cfg.loop
  live : x.ses.state.live = true → y.ses.state.live = true
  cooling : x.ses.state = .cooling → y.ses.state = .cooling
  idle : x.ses.state = .idle → y.ses.state = .idle

theorem Position.Stays.refl (x : Position) : x.Stays x := ⟨rfl, id, id, id⟩

theorem State.Seats.stays {s : State} {p : PosId} {x y : Position} (h : s.Seats p x) (g : x.Stays y) : s.Seats p y where
  holder := fun l hp => (h.holder l hp).imp g.loop.trans g.live
  waiter := fun l hp => (h.waiter l hp).imp g.loop.trans g.cooling
  idle := fun setup => g.idle (h.idle setup)

/-! ### Abiding by the laws -/

/-- Each law that `s` obeys `t` obeys: the refill queue (whichever banks are excused), the loops and their holders, a
quiet SETUP and the allowance. -/
structure State.Abides (s t : State) : Prop where
  queue : ∀ P, s.QueueOk P → t.QueueOk P
  loops : s.LoopsInRange → t.LoopsInRange
  holders : s.LoopsInRange → s.HoldersAttached → t.HoldersAttached
  quiet : s.SetupQuiet → t.SetupQuiet
  fits : s.SetupQuiet → s.PowerFits → t.PowerFits

namespace State.Abides

theorem refl (s : State) : s.Abides s := ⟨fun _ => id, id, fun _ => id, id, fun _ => id⟩

theorem trans {a b c : State} (h : a.Abides b) (g : b.Abides c) : a.Abides c where
  queue := fun P q => g.queue P (h.queue P q)
  loops := fun r => g.loops (h.loops r)
  holders := fun r x => g.holders (h.loops r) (h.holders r x)
  quiet := fun q => g.quiet (h.quiet q)
  fits := fun q f => g.fits (h.quiet q) (h.fits q f)

variable {s t : State} {v : Work}

theorem of_eq (banks : t.banks = s.banks) (queue : t.refillQueue = s.refillQueue) (comps : t.comps = s.comps)
    (loops : t.loops = s.loops) (order : t.powerQueue = s.powerQueue) (positions : t.positions = s.positions)
    (phase : t.station.phase = s.station.phase) (allowance : t.station.allowance = s.station.allowance) :
    s.Abides t where
  queue := fun _ h => h.of_eq banks queue
  loops := fun h => by
    unfold State.LoopsInRange State.loop at h ⊢
    rw [loops]
    exact h
  holders := fun _ h => by
    unfold State.HoldersAttached State.loop State.pos at h ⊢
    rw [loops, positions, phase]
    exact h
  quiet := fun h => by
    unfold State.SetupQuiet State.comp State.loop at h ⊢
    rw [comps, loops, order, phase]
    exact h
  fits := fun _ h => by
    unfold State.PowerFits State.granted State.comp State.loop at h ⊢
    rw [comps, loops, allowance]
    exact h

theorem modBank (h : s.Abides v.toState) {b : BankId} {f : Bank → Bank}
    (priority : (f (v.bank b)).priority = (v.bank b).priority)
    (waits : (v.bank b).state = .ready ∨ (v.bank b).state = .serving →
      (f (v.bank b)).state = .ready ∨ (f (v.bank b)).state = .serving) :
    s.Abides (v.modBank b f).toState :=
  h.trans ⟨fun _ q => q.modBank priority (.inr waits), id, fun _ => id, id, fun _ => id⟩

/-- A position takes a record that may stand where it stands. -/
theorem seat (h : s.Abides v.toState) {p : PosId} {f : Position → Position}
    (seats : s.LoopsInRange → s.HoldersAttached → v.Seats p (f (v.pos p))) : s.Abides (v.modPos p f).toState := by
  refine ⟨fun P q => (h.queue P q).of_eq rfl rfl, h.loops, fun r x => .of_seats fun q => ?_, h.quiet, h.fits⟩
  rw [Work.modPos_pos]
  split
  · next here =>
    subst here
    obtain ⟨holder, waiter, idle⟩ := seats r x
    exact ⟨holder, waiter, idle⟩
  · obtain ⟨holder, waiter, idle⟩ := (h.holders r x).seats q
    exact ⟨holder, waiter, idle⟩

theorem modPos (h : s.Abides v.toState) {p : PosId} {f : Position → Position}
    (stays : (v.pos p).Stays (f (v.pos p))) : s.Abides (v.modPos p f).toState :=
  h.seat fun r x => ((h.holders r x).seats p).stays stays

theorem modComp (h : s.Abides v.toState) {k : CompId} {f : Compressor → Compressor}
    (eases : v.SetupQuiet → (v.comp k).Eases (f (v.comp k))) :
    s.Abides (v.modComp k f).toState := by
  have each : v.SetupQuiet → ∀ j, (v.comp j).Eases ((v.modComp k f).comp j) := fun q j => by
    rw [Work.modComp_comp]
    split
    · next here => exact here ▸ eases q
    · exact ⟨Nat.le_refl _, id⟩
  refine h.trans ⟨fun _ q => q.of_eq rfl rfl, id, fun _ => id, fun q => ?_, fun q f => ?_⟩
  · exact q.eased (each q) (fun _ => ⟨Nat.le_refl _, id, id⟩) id rfl
  · exact Nat.le_trans (State.granted_le (fun j => (each q j).draw) fun _ => Nat.le_refl _) f

/-- A loop changes: what is asked of its power, its bounds and its holders. -/
theorem loop (h : s.Abides v.toState) {l : LoopId} {f : Loop → Loop}
    (quiet : s.SetupQuiet → v.station.phase = .setup →
      (f (v.loop l)).chiller = .off ∧ (f (v.loop l)).tick = none)
    (fits : s.SetupQuiet → v.PowerFits → (v.modLoop l f).PowerFits)
    (range : (v.loop l).InRange → (f (v.loop l)).InRange)
    (holders : v.LoopsInRange → v.HoldersAttached →
      (∀ p ∈ (f (v.loop l)).grants, (v.pos p).cfg.loop = some l ∧ (v.pos p).ses.state.live = true) ∧
      ∀ p ∈ (f (v.loop l)).queue, (v.pos p).cfg.loop = some l ∧ (v.pos p).ses.state = .cooling) :
    s.Abides (v.modLoop l f).toState where
  queue := fun P q => (h.queue P q).of_eq rfl rfl
  loops := fun r m => by
    rw [Work.modLoop_loop]
    split
    · next here => exact here ▸ range (h.loops r l)
    · exact h.loops r m
  holders := fun r x => by
    have attached := h.holders r x
    refine ⟨fun m => ?_, fun m => ?_, attached.2.2⟩
    all_goals
      rw [Work.modLoop_loop]
      split
    · next here => exact here ▸ (holders (h.loops r) attached).1
    · exact attached.1 m
    · next here => exact here ▸ (holders (h.loops r) attached).2
    · exact attached.2.1 m
  quiet := fun q setup => by
    obtain ⟨inactive, off, nobody⟩ := h.quiet q setup
    refine ⟨inactive, fun m => ?_, nobody⟩
    rw [Work.modLoop_loop]
    split
    · exact quiet q setup
    · exact off m
  fits := fun q f => fits q (h.fits q f)

/-- A loop that takes no power changes its bounds and its holders. -/
theorem relist (h : s.Abides v.toState) {l : LoopId} {f : Loop → Loop}
    (eases : v.SetupQuiet → (v.loop l).Eases (f (v.loop l)))
    (range : (v.loop l).InRange → (f (v.loop l)).InRange)
    (holders : v.LoopsInRange → v.HoldersAttached →
      (∀ p ∈ (f (v.loop l)).grants, (v.pos p).cfg.loop = some l ∧ (v.pos p).ses.state.live = true) ∧
      ∀ p ∈ (f (v.loop l)).queue, (v.pos p).cfg.loop = some l ∧ (v.pos p).ses.state = .cooling) :
    s.Abides (v.modLoop l f).toState := by
  refine h.loop (fun q setup => ?_) (fun q fits => ?_) range holders
  · obtain ⟨_, off, tick⟩ := eases (h.quiet q)
    exact ⟨off ((h.quiet q setup).2.1 l).1, tick ((h.quiet q setup).2.1 l).2⟩
  · have less : (v.modLoop l f).granted ≤ v.granted := State.granted_le (fun _ => Nat.le_refl _) fun m => by
      rw [Work.modLoop_loop]
      split
      · next here => exact here ▸ (eases (h.quiet q)).draw
      · exact Nat.le_refl _
    exact Nat.le_trans less fits

/-- A loop that takes no power, keeps its bounds, and names no position it did not name. -/
theorem modLoop (h : s.Abides v.toState) {l : LoopId} {f : Loop → Loop}
    (eases : v.SetupQuiet → (v.loop l).Eases (f (v.loop l)))
    (range : (v.loop l).InRange → (f (v.loop l)).InRange)
    (holders : ∀ p ∈ (f (v.loop l)).grants, p ∈ (v.loop l).grants)
    (waiters : ∀ p ∈ (f (v.loop l)).queue, p ∈ (v.loop l).queue) :
    s.Abides (v.modLoop l f).toState :=
  h.relist eases range fun _ x => ⟨fun p hp => x.1 l p (holders p hp), fun p hp => x.2.1 l p (waiters p hp)⟩

theorem modHold (h : s.Abides v.toState) {x f} : s.Abides (v.modHold x f).toState :=
  h.trans (.of_eq rfl rfl rfl rfl rfl rfl rfl rfl)

theorem modStation (h : s.Abides v.toState) {f : Station → Station}
    (phase : (f v.station).phase = v.station.phase) (allowance : (f v.station).allowance = v.station.allowance) :
    s.Abides (v.modStation f).toState := h.trans (.of_eq rfl rfl rfl rfl rfl rfl phase allowance)

theorem raise (h : s.Abides v.toState) {i} : s.Abides (v.raise i).toState :=
  h.trans (.of_eq rfl rfl rfl rfl rfl rfl rfl rfl)
theorem oweEval (h : s.Abides v.toState) : s.Abides v.oweEval.toState := h
theorem releasedDraw (h : s.Abides v.toState) : s.Abides v.releasedDraw.toState := h
theorem setWaitList (h : s.Abides v.toState) {x} : s.Abides ({ v with waitList := x } : Work).toState :=
  h.trans (.of_eq rfl rfl rfl rfl rfl rfl rfl rfl)
theorem setLink (h : s.Abides v.toState) {x} : s.Abides ({ v with link := x } : Work).toState :=
  h.trans (.of_eq rfl rfl rfl rfl rfl rfl rfl rfl)
theorem setSuction (h : s.Abides v.toState) {x} : s.Abides ({ v with suction := x } : Work).toState :=
  h.trans (.of_eq rfl rfl rfl rfl rfl rfl rfl rfl)

theorem each {α : Type} {f : α → Work → Work} (h : s.Abides v.toState)
    (step : ∀ x v, s.Abides v.toState → s.Abides (f x v).toState) {xs : List α} :
    s.Abides (Work.each f xs v).toState := by
  induction xs generalizing v with
  | nil => exact h
  | cons x xs ih => exact ih (step x v h)

/-! ### The queue, claims, releases and offers -/

/-- The refill queue alone changes. -/
theorem setQueue (h : s.Abides v.toState) {q : List QueueEntry} (g : ∀ P, v.QueueOk P →
    ({ v.toState with refillQueue := q } : State).QueueOk P) : s.Abides ({ v with refillQueue := q } : Work).toState :=
  h.trans ⟨g, id, fun _ => id, id, fun _ => id⟩

theorem leaveQueue (h : s.Abides v.toState) {b} : s.Abides (v.leaveQueue b).toState :=
  h.setQueue fun _ q => q.leaveQueue b

theorem joinQueue (h : s.Abides v.toState) {b} (waits : (v.bank b).state = .ready ∨ (v.bank b).state = .serving) :
    s.Abides (v.joinQueue b).toState := by
  have frame : (v.joinQueue b).toState = { v.toState with refillQueue := (v.joinQueue b).refillQueue } := by
    unfold Work.joinQueue
    split <;> rfl
  refine h.trans ⟨fun _ q => q.joinQueue waits, ?_, ?_, ?_, ?_⟩
  all_goals rw [frame]
  · exact id
  · exact fun _ => id
  · exact id
  · exact fun _ => id

theorem joinedIf (h : s.Abides v.toState) {c : Prop} {_ : Decidable c} {b}
    (waits : (v.bank b).state = .ready ∨ (v.bank b).state = .serving) :
    s.Abides (if c then v.joinQueue b else v).toState := by
  split
  · exact h.joinQueue waits
  · exact h

theorem oweEvalIf (h : s.Abides v.toState) {c : Prop} {_ : Decidable c} :
    s.Abides (if c then v.oweEval else v).toState := by
  split
  · exact h.oweEval
  · exact h

theorem makeReady (h : s.Abides v.toState) {b} : s.Abides (v.makeReady b).toState :=
  h.modBank (Bank.enterReady_priority _ _ _) fun _ => .inl rfl

theorem freeBank (h : s.Abides v.toState) {b} : s.Abides (v.freeBank b).toState := by
  have ready : ((v.makeReady b).bank b).state = .ready := by
    unfold Work.makeReady
    rw [Work.modBank_bank_self]
    rfl
  unfold Work.freeBank
  exact (h.makeReady.joinedIf (.inl ready)).oweEvalIf

theorem frontQueue (h : s.Abides v.toState) {b}
    (waits : (v.bank b).state = .ready ∨ (v.bank b).state = .serving) : s.Abides (v.frontQueue b).toState :=
  h.setQueue fun _ q => q.frontQueue waits

/-- A claim by a position (02, R31). -/
theorem claimPos (h : s.Abides v.toState) {p : PosId} {b : BankId} : s.Abides (v.claimBank (.pos p) b).toState := by
  refine h.modBank ?_ fun waits => ?_
  · unfold Bank.claim
    split <;> rfl
  · unfold Bank.claim
    split
    · exact .inr rfl
    · exact waits

theorem joinWaitList (h : s.Abides v.toState) {p tiers} : s.Abides (v.joinWaitList p tiers).toState := by
  unfold Work.joinWaitList
  split
  · exact h.setWaitList
  · exact h.setWaitList.raise

theorem leaveWaitList (h : s.Abides v.toState) {p} : s.Abides (v.leaveWaitList p).toState := h.setWaitList

theorem takeOffer (h : s.Abides v.toState) {p b} : s.Abides (v.takeOffer p b).2.toState := by
  unfold Work.takeOffer
  dsimp only
  split
  · exact h.modPos ⟨rfl, id, id, id⟩
  · split
    · next held =>
      refine h.modPos ⟨rfl, fun _ => rfl, fun e => ?_, fun e => ?_⟩
      · rw [held.1] at e; cases e
      · rw [held.1] at e; cases e
    · split
      · exact h.modPos ⟨rfl, id, id, id⟩
      · exact h

theorem offer (h : s.Abides v.toState) {n b} : s.Abides (Work.offer n b v).toState := by
  induction n generalizing v with
  | zero => exact h
  | succ n ih =>
    unfold Work.offer
    split
    · exact h
    · dsimp only
      split
      · exact h.leaveWaitList.claimPos.takeOffer
      · exact ih h.leaveWaitList.claimPos.takeOffer.freeBank

theorem offerBank (h : s.Abides v.toState) {b} : s.Abides (v.offerBank b).toState := by
  unfold Work.offerBank
  split
  · exact h.offer
  · exact h

theorem releaseBank (h : s.Abides v.toState) {c b} : s.Abides (v.releaseBank c b).toState := by
  unfold Work.releaseBank
  split
  · exact h.freeBank.offerBank
  · exact h

theorem giveBack (h : s.Abides v.toState) {k b} : s.Abides (v.giveBack k b).toState := by
  unfold Work.giveBack
  split
  · refine (h.makeReady.frontQueue (.inl ?_)).offerBank
    unfold Work.makeReady
    rw [Work.modBank_bank_self]
    rfl
  · exact h

theorem pulsingSelect (h : s.Abides v.toState) {p} : s.Abides (v.pulsingSelect p).toState := by
  unfold Work.pulsingSelect
  dsimp only
  split
  · exact h.claimPos.modPos ⟨rfl, id, id, id⟩
  · exact h.joinWaitList.modPos ⟨rfl, id, id, id⟩

/-- The bank of a session is released, if it has one. -/
theorem releaseSome (h : s.Abides v.toState) {c : Claimant} {x : Option BankId} :
    s.Abides (match x with | some b => v.releaseBank c b | none => v : Work).toState := by
  cases x with
  | some b => exact h.releaseBank
  | none => exact h

theorem releaseNamed (h : s.Abides v.toState) {p} : s.Abides (v.releaseNamed p).toState := by
  unfold Work.releaseNamed
  dsimp only
  have bare := h.modPos (p := p) (f := fun y => { y with ses := { y.ses with current := none, staged := none } })
    ⟨rfl, id, id, id⟩
  cases (v.pos p).ses.staged with
  | some b => exact bare.releaseSome.releaseBank
  | none => exact bare.releaseSome

end State.Abides
end Sys2Proof.Machine
end

section
/-! SUPPORT. `State.Abides` through the loops, the fill sequencer, the compressors and isolation (03, R51 to R61; 04,
R78 to R82; 05; 06). -/
namespace Sys2Proof.Machine

/-! ### Loops and the sessions in them -/

/-- A position is in the grant set and the wait queue of one loop at most, and in one of them (04, R69). -/
theorem State.HoldersAttached.granted_unqueued {s : State} (r : s.LoopsInRange) (x : s.HoldersAttached) {p : PosId}
    {l m : LoopId} (holder : p ∈ (s.loop l).grants) : p ∉ (s.loop m).queue := fun waiter => by
  have same : l = m := Option.some.inj ((x.1 l p holder).1.symm.trans (x.2.1 m p waiter).1)
  subst same
  obtain ⟨_, _, _, once⟩ := r l
  exact List.disjoint_of_nodup_append once holder waiter

/-- Where a live session that is not COOLING may stand: in any grant set. -/
theorem State.Seats.unqueued {s : State} {p : PosId} {x y : Position} (h : s.Seats p x)
    (out : ∀ l, p ∉ (s.loop l).queue) (busy : x.ses.state ≠ .idle) (loop : y.cfg.loop = x.cfg.loop)
    (live : y.ses.state.live = true) : s.Seats p y where
  holder := fun l hp => ⟨loop.trans (h.holder l hp).1, live⟩
  waiter := fun l hp => absurd hp (out l)
  idle := fun setup => absurd (h.idle setup) busy

namespace State.Abides
variable {s : State} {v : Work}

theorem grantGiven (h : s.Abides v.toState) {p : PosId} {l : LoopId} (holder : p ∈ (v.loop l).grants) :
    s.Abides (v.grantGiven p).toState := by
  have told := h.modPos (p := p) (f := fun x => { x with ses.band := .cold }) ⟨rfl, id, id, id⟩
  unfold Work.grantGiven
  dsimp only
  split
  · next cooling =>
    refine (told.seat (p := p) fun r x => ?_).pulsingSelect
    refine ((told.holders r x).seats p).unqueued (fun m => ?_) ?_ rfl rfl
    · exact State.HoldersAttached.granted_unqueued (told.loops r) (told.holders r x) holder
    · rw [Work.modPos_pos_self]
      show (v.pos p).ses.state ≠ .idle
      rw [cooling]
      decide
  · exact told

/-- The head of a wait queue moves to the grant set (04, R78). -/
theorem grantHead (h : s.Abides v.toState) {l : LoopId} {p : PosId} {rest : List PosId}
    (queue : (v.loop l).queue = p :: rest) (can : (v.loop l).canGrant = true) :
    s.Abides (v.modLoop l (fun x => { x with grants := x.grants ++ [p], queue := rest })).toState := by
  unfold Loop.canGrant at can
  simp only [Bool.and_eq_true, decide_eq_true_eq] at can
  obtain ⟨⟨room, _⟩, _⟩ := can
  refine h.relist (fun _ => ⟨Nat.le_refl _, id, id⟩) (fun ⟨reserve, loss, _, once⟩ => ⟨reserve, loss, ?_, ?_⟩)
    fun _ x => ⟨fun q hq => ?_, fun q hq => ?_⟩
  · rw [List.length_append, List.length_singleton]
    omega
  · rw [queue] at once
    rw [List.append_assoc]
    exact once
  · obtain old | new := List.mem_append.mp hq
    · exact x.1 l q old
    · obtain ⟨attached, cooling⟩ := x.2.1 l p (queue ▸ List.mem_cons_self)
      rw [List.mem_singleton.mp new, cooling]
      exact ⟨attached, rfl⟩
  · exact x.2.1 l q (queue ▸ List.mem_cons_of_mem p hq)

theorem serveQueueN (h : s.Abides v.toState) {n l} : s.Abides (Work.serveQueueN n l v).toState := by
  induction n generalizing v with
  | zero => exact h
  | succ n ih =>
    unfold Work.serveQueueN
    split
    · exact h
    · next p rest queue =>
      split
      · next can =>
        refine ih ((h.grantHead queue can).grantGiven (l := l) ?_)
        rw [Work.modLoop_loop_self]
        exact List.mem_append_right _ List.mem_cons_self
      · exact h

theorem serveQueue (h : s.Abides v.toState) {l} : s.Abides (v.serveQueue l).toState := h.serveQueueN

theorem requestGrant (h : s.Abides v.toState) {p : PosId} {l : LoopId} (attached : (v.pos p).cfg.loop = some l)
    (cooling : (v.pos p).ses.state = .cooling) : s.Abides (v.requestGrant p l).toState := by
  unfold Work.requestGrant
  split
  · exact h
  · next out =>
    simp only [Bool.or_eq_true, List.contains_iff_mem, not_or] at out
    refine State.Abides.serveQueue (h.relist (fun _ => ⟨Nat.le_refl _, id, id⟩)
      (fun ⟨reserve, loss, size, once⟩ => ⟨reserve, loss, size, ?_⟩) fun _ x => ⟨x.1 l, fun q hq => ?_⟩)
    · obtain old | new := List.mem_append.mp hq
      · exact x.2.1 l q old
      · rw [List.mem_singleton.mp new]
        exact ⟨attached, cooling⟩
    · rw [← List.append_assoc]
      exact once.append (List.nodup_singleton p) fun q hq new => by
        rw [List.mem_singleton.mp new] at hq
        exact (List.mem_append.mp hq).elim out.1 out.2

/-- A position leaves the wait queue of a loop (04, R82). -/
theorem unqueue (h : s.Abides v.toState) {p : PosId} {l : LoopId} :
    s.Abides (v.modLoop l (fun x => { x with queue := x.queue.filter (fun y => y != p) })).toState := by
  refine h.modLoop (fun _ => ⟨Nat.le_refl _, id, id⟩) (fun ⟨reserve, loss, size, once⟩ => ⟨reserve, loss, size, ?_⟩)
    (fun _ => id) fun q hq => List.mem_of_mem_filter hq
  exact (List.Sublist.append_left List.filter_sublist _).nodup once

theorem dropGrant (h : s.Abides v.toState) {p : PosId} {l : LoopId} :
    s.Abides (v.modLoop l (Loop.dropGrant p)).toState := by
  refine h.modLoop (fun _ => ⟨Nat.le_refl _, id, id⟩) (fun ⟨reserve, loss, size, once⟩ => ⟨reserve, ?_, ?_, ?_⟩)
    (fun q hq => List.mem_of_mem_filter hq) fun _ => id
  · show (if _ then 0 else (v.loop l).loss) ≤ 10
    split
    · exact Nat.zero_le _
    · exact loss
  · exact Nat.le_trans (List.length_filter_le _ _) size
  · exact (List.Sublist.append_right List.filter_sublist _).nodup once

theorem leaveLoop (h : s.Abides v.toState) {p} : s.Abides (v.leaveLoop p).toState := by
  unfold Work.leaveLoop
  split
  · exact h
  · split
    · exact h.dropGrant.serveQueue
    · split
      · exact h.unqueue.serveQueue
      · exact h

end State.Abides

/-- A position neither granted nor waiting in a loop. -/
def Loop.Lacks (p : PosId) (x : Loop) : Prop := p ∉ x.grants ∧ p ∉ x.queue

theorem Work.serveQueueN_lacks {p : PosId} {l : LoopId} (n : Nat) (m : LoopId) {w : Work} (h : (w.loop l).Lacks p) :
    ((Work.serveQueueN n m w).loop l).Lacks p := by
  induction n generalizing w with
  | zero => exact h
  | succ n ih =>
    unfold Work.serveQueueN
    split
    · exact h
    · next q rest queue =>
      split
      · refine ih ?_
        unfold State.loop
        rw [Work.grantGiven_loops]
        show ((w.modLoop m _).loop l).Lacks p
        rw [Work.modLoop_loop]
        split
        · next here =>
          subst here
          obtain ⟨granted, waits⟩ := h
          rw [queue, List.mem_cons, not_or] at waits
          exact ⟨fun e => (List.mem_append.mp e).elim granted fun new => waits.1 (List.mem_singleton.mp new), waits.2⟩
        · exact h
      · exact h

/-- A position whose session ended stands in no loop (04, R81, R82). -/
theorem Work.leaveLoop_lacks {w : Work} (r : w.LoopsInRange) (x : w.HoldersAttached) (p : PosId) (l : LoopId) :
    ((w.leaveLoop p).loop l).Lacks p := by
  have elsewhere : (w.pos p).cfg.loop ≠ some l → (w.loop l).Lacks p := fun other =>
    ⟨fun e => other (x.1 l p e).1, fun e => other (x.2.1 l p e).1⟩
  unfold Work.leaveLoop
  split
  · next none => exact elsewhere (by rw [none]; simp)
  · next m attached =>
    by_cases same : l = m
    · subst same
      split
      · next granted =>
        refine Work.serveQueueN_lacks 2 l ?_
        rw [Work.modLoop_loop_self]
        refine ⟨fun e => ?_, State.HoldersAttached.granted_unqueued r x (List.contains_iff_mem.mp granted)⟩
        simpa using (List.mem_filter.mp e).2
      · next ungranted =>
        have ungranted : p ∉ (w.loop l).grants := fun e => ungranted (List.contains_iff_mem.mpr e)
        split
        · refine Work.serveQueueN_lacks 2 l ?_
          rw [Work.modLoop_loop_self]
          refine ⟨ungranted, fun e => ?_⟩
          simpa using (List.mem_filter.mp e).2
        · next unqueued => exact ⟨ungranted, fun e => unqueued (List.contains_iff_mem.mpr e)⟩
    · have out := elsewhere fun e => same (Option.some.inj (attached.symm.trans e)).symm
      have apart : ∀ f, ((w.modLoop m f).loop l).Lacks p := fun f => by
        rw [Work.modLoop_loop_ne w f same]
        exact out
      split
      · exact Work.serveQueueN_lacks 2 m (apart _)
      · split
        · exact Work.serveQueueN_lacks 2 m (apart _)
        · exact out

theorem Work.abides_endCore {w : Work} {p : PosId} (busy : (w.pos p).ses.state ≠ .idle) (r : EndReason) :
    w.Abides (w.endCore p r).toState := by
  have marked := (State.Abides.refl w.toState).modPos (p := p) (f := Position.markEnd r w.station.clock)
    ⟨rfl, id, id, id⟩
  have named := (marked.releaseNamed (p := p)).leaveWaitList (p := p)
  unfold Work.endCore
  refine named.leaveLoop.seat fun range x => ?_
  have off := Work.leaveLoop_lacks (named.loops range) (named.holders range x) p
  refine ⟨fun l e => absurd e (off l).1, fun l e => absurd e (off l).2, fun setup => ?_⟩
  refine absurd (x.2.2 ?_ p) busy
  rw [(Work.evolves_leaveLoop _ p).station] at setup
  exact ((Work.evolves_releaseNamed _ p).station ▸ setup :)

/-! ### Sessions that fill -/

/-- Live and past COOLING: the session may stand in a grant set, not in a wait queue. -/
def SessionState.Filling (x : SessionState) : Prop := x.live = true ∧ x ≠ .cooling

theorem SessionState.Filling.busy {x : SessionState} (h : x.Filling) : x ≠ .idle := fun e => by
  rw [e] at h
  cases h.1

theorem Position.Stays.of_filling {x y : Position} (h : x.ses.state.Filling) (loop : y.cfg.loop = x.cfg.loop)
    (live : y.ses.state.live = true) : x.Stays y :=
  ⟨loop, fun _ => live, fun e => absurd e h.2, fun e => absurd e h.busy⟩

/-- A session that neither waits to be cooled nor is IDLE goes on to a live state, or was not live. -/
theorem Position.Stays.moved {x y : Position} {a : SessionState} (state : x.ses.state = a)
    (live : a.live = false ∨ y.ses.state.live = true) (loop : y.cfg.loop = x.cfg.loop)
    (past : a ≠ .cooling ∧ a ≠ .idle) : x.Stays y where
  loop := loop
  live := fun e => live.resolve_left (by rw [← state, e]; decide)
  cooling := fun e => absurd (state.symm.trans e) past.1
  idle := fun e => absurd (state.symm.trans e) past.2

namespace Work
variable {w : Work} {p : PosId}

theorem takeOffer_filling (h : (w.pos p).ses.state.Filling) (q : PosId) (b : BankId) :
    ((w.takeOffer q b).2.pos p).ses.state.Filling := by
  unfold takeOffer
  dsimp only
  split
  · rw [modPos_pos]
    split
    · next here => exact here ▸ h
    · exact h
  · split
    · rw [modPos_pos]
      split
      · exact ⟨rfl, fun e => by cases e⟩
      · exact h
    · split
      · rw [modPos_pos]
        split
        · next here => exact here ▸ h
        · exact h
      · exact h

theorem freeBank_filling (h : (w.pos p).ses.state.Filling) (b : BankId) :
    ((w.freeBank b).pos p).ses.state.Filling := by
  unfold State.pos
  rw [(w.freeBank_lists b).1]
  exact h

theorem offer_filling (h : (w.pos p).ses.state.Filling) (n : Nat) (b : BankId) :
    ((Work.offer n b w).pos p).ses.state.Filling := by
  induction n generalizing w with
  | zero => exact h
  | succ n ih =>
    unfold Work.offer
    split
    · exact h
    · next e _ =>
      have taken := takeOffer_filling (w := (w.leaveWaitList e.pos).claimBank (.pos e.pos) b) h e.pos b
      dsimp only
      split
      · exact taken
      · exact ih (freeBank_filling taken b)

theorem releaseBank_filling (h : (w.pos p).ses.state.Filling) (c : Claimant) (b : BankId) :
    ((w.releaseBank c b).pos p).ses.state.Filling := by
  unfold releaseBank offerBank
  split
  · split
    · exact offer_filling (freeBank_filling h b) _ b
    · exact freeBank_filling h b
  · exact h

theorem releaseSome_filling (h : (w.pos p).ses.state.Filling) (c : Claimant) (x : Option BankId) :
    ((match x with | some b => w.releaseBank c b | none => w : Work).pos p).ses.state.Filling := by
  cases x with
  | some b => exact releaseBank_filling h c b
  | none => exact h

theorem releaseNamed_filling (h : (w.pos p).ses.state.Filling) (q : PosId) :
    ((w.releaseNamed q).pos p).ses.state.Filling := by
  have bare : SessionState.Filling ((w.modPos q (fun y =>
      { y with ses := { y.ses with current := none, staged := none } })).pos p).ses.state := by
    rw [modPos_pos]
    split
    · next here => exact here ▸ h
    · exact h
  unfold releaseNamed
  dsimp only
  cases (w.pos q).ses.staged with
  | some b => exact releaseBank_filling (releaseSome_filling bare _ _) _ b
  | none => exact releaseSome_filling bare _ _

theorem fuellingSelect_state (w : Work) (p : PosId) :
    ((w.fuellingSelect p).2.pos p).ses.state = (w.pos p).ses.state := by
  unfold fuellingSelect
  dsimp only
  split
  · rw [modPos_pos_self]
    rfl
  · rfl

end Work

/-! ### The sequencer -/

theorem Position.openControl_stays (n : Nat) (x : Position) : x.Stays (x.openControl n) := by
  unfold Position.openControl
  split
  · exact ⟨rfl, id, id, id⟩
  · exact ⟨rfl, id, id, id⟩

namespace State.Abides
variable {s : State} {v : Work}

theorem endFill (h : s.Abides v.toState) {p r} : s.Abides (v.endFill p r).toState := by
  unfold Work.endFill
  split
  · next live =>
    exact h.trans (Work.abides_endCore (fun e => by rw [e] at live; cases live) r)
  · exact h

theorem fuellingSelect (h : s.Abides v.toState) {p} : s.Abides (v.fuellingSelect p).2.toState := by
  unfold Work.fuellingSelect
  dsimp only
  split
  · exact h.claimPos.modPos ⟨rfl, id, id, id⟩
  · exact h

theorem judgeValve (h : s.Abides v.toState) {p} : s.Abides (v.judgeValve p).toState := by
  unfold Work.judgeValve
  dsimp only
  split
  · split
    · exact h.modPos (Position.openControl_stays _ _)
    · exact h.modPos ⟨rfl, id, id, id⟩
  · exact h

theorem enterHeld (h : s.Abides v.toState) {p c} (filling : (v.pos p).ses.state.Filling) :
    s.Abides (v.enterHeld p c).toState := by
  have closed : ((v.modPos p Position.closeRoute).pos p).ses.state.Filling := by
    rw [Work.modPos_pos_self]
    exact filling
  unfold Work.enterHeld
  exact (h.modPos ⟨rfl, id, id, id⟩).releaseNamed.modPos (.of_filling (Work.releaseNamed_filling closed p) rfl rfl)

theorem addCause (h : s.Abides v.toState) {p c} : s.Abides (v.addCause p c).toState := by
  unfold Work.addCause
  split
  · next fuelling => exact h.enterHeld (by rw [fuelling]; exact ⟨rfl, by decide⟩)
  · exact h.modPos ⟨rfl, id, id, id⟩
  · exact h

theorem selectOrHold (h : s.Abides v.toState) {p} (filling : (v.pos p).ses.state.Filling) :
    s.Abides (v.selectOrHold p).toState := by
  have selected := h.fuellingSelect (p := p)
  unfold Work.selectOrHold
  dsimp only
  split
  · exact selected
  · unfold Work.noBankHold
    refine selected.joinWaitList.enterHeld ?_
    unfold State.pos
    rw [Work.joinWaitList_positions]
    exact (v.fuellingSelect_state p).symm ▸ filling

theorem leaveHeld (h : s.Abides v.toState) {p} (held : (v.pos p).ses.state = .held) :
    s.Abides (v.leaveHeld p).toState := by
  have limited := h.modPos (p := p)
    (f := fun x => { x with ses.ceiling := min (v.hoseOf p) x.ses.target, tmr.held := none }) ⟨rfl, id, id, id⟩
  have selected := limited.fuellingSelect (p := p)
  unfold Work.leaveHeld
  dsimp only
  split
  · refine selected.modPos (.moved (a := .held) ?_ (.inr rfl) rfl (by decide))
    rw [Work.fuellingSelect_state, Work.modPos_pos_self]
    exact held
  · exact selected.joinWaitList.modPos ⟨rfl, id, id, id⟩

theorem removeCause (h : s.Abides v.toState) {p c} : s.Abides (v.removeCause p c).toState := by
  unfold Work.removeCause
  dsimp only
  split
  · next held =>
    split
    · refine (h.modPos ⟨rfl, id, id, id⟩).leaveHeld ?_
      rw [Work.modPos_pos_self]
      exact held.1
    · exact h.modPos ⟨rfl, id, id, id⟩
  · exact h

theorem applyFallback (h : s.Abides v.toState) {p} : s.Abides (v.applyFallback p).toState := by
  unfold Work.applyFallback
  dsimp only
  split
  · exact (h.modPos ⟨rfl, id, id, id⟩).endFill
  · exact (h.modPos ⟨rfl, id, id, id⟩).judgeValve

theorem fallbackIf (h : s.Abides v.toState) {c : Prop} {_ : Decidable c} {p} :
    s.Abides (if c then v.applyFallback p else v).toState := by
  split
  · exact h.applyFallback
  · exact h

theorem selectIf (h : s.Abides v.toState) {p} :
    s.Abides (if (v.pos p).ses.state = .fuelling then v.selectOrHold p else v).toState := by
  split
  · next fuelling => exact h.selectOrHold (by rw [fuelling]; exact ⟨rfl, by decide⟩)
  · exact h

theorem stepOn (h : s.Abides v.toState) {p} : s.Abides (v.stepOn p).toState := by
  have counted := h.modPos (p := p) (f := fun x => { x with ses.steps := min 255 (x.ses.steps + 1) }) ⟨rfl, id, id, id⟩
  unfold Work.stepOn
  exact counted.fallbackIf.selectIf

theorem stepFill (h : s.Abides v.toState) {p} : s.Abides (v.stepFill p).toState := by
  unfold Work.stepFill
  exact ((h.modPos ⟨rfl, id, id, id⟩).releaseSome (x := (v.pos p).ses.current)).stepOn

theorem enterChecking (h : s.Abides v.toState) {p} (filling : (v.pos p).ses.state.Filling) :
    s.Abides (v.enterChecking p).toState := h.modPos (.of_filling filling rfl rfl)

theorem bankLost (h : s.Abides v.toState) {p b} : s.Abides (v.bankLost p b).toState := by
  unfold Work.bankLost
  dsimp only
  split
  · next pulsing =>
    refine (h.modPos ⟨rfl, id, id, id⟩).enterChecking ?_
    rw [Work.modPos_pos_self]
    show (v.pos p).ses.state.Filling
    rw [pulsing.1]
    exact ⟨rfl, by decide⟩
  · split
    · exact (h.modPos ⟨rfl, id, id, id⟩).stepOn
    · exact h

/-! ### Compressors and isolation -/

theorem unloadComp (h : s.Abides v.toState) {k} : s.Abides (v.unloadComp k).toState :=
  (h.modComp fun _ => Compressor.eases_of_inactive rfl).releasedDraw

theorem loseRefill (h : s.Abides v.toState) {k} : s.Abides (v.loseRefill k).toState := by
  unfold Work.loseRefill
  dsimp only
  split
  · exact h.unloadComp.giveBack
  · exact h.unloadComp

theorem completeRefill (h : s.Abides v.toState) {k} : s.Abides (v.completeRefill k).toState := by
  have done := (h.unloadComp (k := k)).modComp (k := k) (f := fun c => { c with refills := c.refills + 1 })
    fun _ => ⟨Nat.le_refl _, id⟩
  unfold Work.completeRefill
  dsimp only
  split
  · exact (done.modBank rfl id).releaseBank
  · exact done

theorem yieldBank (h : s.Abides v.toState) {k b} : s.Abides (v.yieldBank k b).toState :=
  (h.modBank rfl id).loseRefill

theorem yieldAtPressure (h : s.Abides v.toState) {k b} : s.Abides (v.yieldAtPressure k b).toState := by
  unfold Work.yieldAtPressure
  split
  · exact h
  · split
    · exact h.yieldBank
    · exact h

theorem yieldAtExpiry (h : s.Abides v.toState) {e} : s.Abides (v.yieldAtExpiry e).toState := by
  unfold Work.yieldAtExpiry
  split
  · exact h
  · split
    · exact h.yieldBank
    · exact h

theorem pressureToComp (h : s.Abides v.toState) {k b} : s.Abides (v.pressureToComp k b).toState := by
  unfold Work.pressureToComp
  dsimp only
  split
  · exact h.completeRefill
  · split
    · exact h.yieldAtPressure
    · exact h

/-- The claimant of an isolated bank is told (02, R28, step 4). -/
theorem tellClaimant (h : s.Abides v.toState) {b : BankId} {c : Option Claimant} :
    s.Abides (match c with
      | some (.pos p) => v.bankLost p b
      | some (.comp c) => if (v.comp c).active then v.unloadComp c else v
      | none => v : Work).toState := by
  split
  · exact h.bankLost
  · split
    · exact h.unloadComp
    · exact h
  · exact h

/-- A bank that leaves service is excused from the law of the queue until it leaves it (02, R28; 03, R43). -/
theorem excused {u : Work} {b : BankId} {f : Bank → Bank} (h : (v.modBank b f).Abides u.toState)
    (priority : (f (v.bank b)).priority = (v.bank b).priority) :
    v.Abides (u.leaveQueue b).toState where
  queue := fun P q =>
    have marked := (q.mono (Q := fun c => P c ∨ c = b) fun _ => .inl).modBank (b := b) (f := f) priority
      (.inl (.inr rfl))
    (h.queue _ marked).leftQueue
  loops := h.loops
  holders := h.holders
  quiet := h.quiet
  fits := h.fits

theorem isolateBank (h : s.Abides v.toState) {b r} : s.Abides (v.isolateBank b r).toState := by
  refine h.trans ?_
  unfold Work.isolateBank
  dsimp only
  split
  · exact (excused (refl (v.modBank b (Bank.isolateWith r)).toState).tellClaimant rfl).raise
  · exact refl v.toState

end State.Abides
end Sys2Proof.Machine
end

section
/-! SUPPORT. `State.Abides` where power is granted and shed, and at the end of a rule (03, R49 to R51, R62 to R64). -/
namespace Sys2Proof.Machine

/-! ### Power granted and shed -/

/-- There are two compressors, and two loops. -/
theorem two_records (k : Fin 2) : k = 0 ∨ k = 1 := by omega

/-- A compressor's draw is one part of granted power (03, R62). -/
theorem Work.granted_modComp (w : Work) (k : CompId) (f : Compressor → Compressor) :
    (w.modComp k f).granted + (w.comp k).heldDraw = w.granted + (f (w.comp k)).heldDraw := by
  obtain rfl | rfl := two_records k
  all_goals
    show ((w.modComp _ f).comp 0).heldDraw + ((w.modComp _ f).comp 1).heldDraw + (w.loop 0).heldDraw +
      (w.loop 1).heldDraw + _ = (w.comp 0).heldDraw + (w.comp 1).heldDraw + (w.loop 0).heldDraw +
      (w.loop 1).heldDraw + _
    simp only [Work.modComp_comp]
    simp
    omega

/-- A chiller's draw is one part of granted power (03, R62). -/
theorem Work.granted_modLoop (w : Work) (l : LoopId) (f : Loop → Loop) :
    (w.modLoop l f).granted + (w.loop l).heldDraw = w.granted + (f (w.loop l)).heldDraw := by
  obtain rfl | rfl := two_records l
  all_goals
    show (w.comp 0).heldDraw + (w.comp 1).heldDraw + ((w.modLoop _ f).loop 0).heldDraw +
      ((w.modLoop _ f).loop 1).heldDraw + _ = (w.comp 0).heldDraw + (w.comp 1).heldDraw + (w.loop 0).heldDraw +
      (w.loop 1).heldDraw + _
    simp only [Work.modLoop_loop]
    simp
    omega

theorem Loop.heldDraw_le (x : Loop) : x.heldDraw ≤ x.draw := by
  unfold Loop.heldDraw
  split
  · exact Nat.le_refl _
  · exact Nat.zero_le _

theorem Compressor.heldDraw_le (x : Compressor) : x.heldDraw ≤ x.draw := by
  unfold Compressor.heldDraw
  split
  · exact Nat.le_refl _
  · exact Nat.zero_le _

/-- A compressor STARTING on a bank (03, R51). -/
def Compressor.startOn (b : BankId) (clock : Clock) (c : Compressor) : Compressor :=
  { c with state := .starting, bank := some b, startStamp := some clock, startTimer := seconds c.startTime }

/-- The compressor chosen for a tier can take a bank of it (03, R50). -/
theorem State.compEligible_iff {s : State} {tier : Tier} {k : CompId} :
    s.compEligible tier k = true ↔ CanTake s k tier := by
  unfold State.compEligible CanTake State.freePower
  simp [and_assoc]

theorem State.chooseComp_takes {s : State} {tier : Tier} {k : CompId} (h : s.chooseComp tier = some k) :
    CanTake s k tier := by
  unfold State.chooseComp at h
  split at h
  · next first second =>
    split at h
    · cases h
      exact State.compEligible_iff.mp second
    · cases h
      exact State.compEligible_iff.mp first
  · next first _ =>
    cases h
    exact State.compEligible_iff.mp first
  · next _ second =>
    cases h
    exact State.compEligible_iff.mp second
  · cases h

namespace State.Abides
variable {s : State} {v : Work}

/-- The waiting order alone changes. -/
theorem setOrder (h : s.Abides v.toState) {x : List LoopId}
    (waits : s.SetupQuiet → v.station.phase = .setup → x = []) :
    s.Abides ({ v with powerQueue := x } : Work).toState :=
  ⟨fun P q => (h.queue P q).of_eq rfl rfl, h.loops, h.holders,
    fun q setup => ⟨(h.quiet q setup).1, (h.quiet q setup).2.1, waits q setup⟩, h.fits⟩

/-- Power may be taken by a compressor in SERVICE. -/
theorem compTakes (h : s.Abides v.toState) {k : CompId} {f : Compressor → Compressor}
    (service : s.SetupQuiet → v.station.phase ≠ .setup) (fits : v.PowerFits → (v.modComp k f).PowerFits) :
    s.Abides (v.modComp k f).toState :=
  ⟨fun P q => (h.queue P q).of_eq rfl rfl, h.loops, h.holders, fun q => .of_service (service q),
    fun q f => fits (h.fits q f)⟩

/-- A chiller that fits the allowance is granted its draw (03, R62). -/
theorem runChiller (h : s.Abides v.toState) {l : LoopId} (service : s.SetupQuiet → v.station.phase ≠ .setup)
    (fits : v.granted + (v.loop l).draw ≤ v.station.allowance) :
    s.Abides (v.modLoop l (Loop.switch .running)).toState := by
  refine h.loop (fun q setup => absurd setup (service q)) (fun _ _ => ?_) id fun _ x => ⟨x.1 l, x.2.1 l⟩
  have total := v.granted_modLoop l (Loop.switch .running)
  have draw : (Loop.switch .running (v.loop l)).heldDraw ≤ (v.loop l).draw := Loop.heldDraw_le _
  show (v.modLoop l (Loop.switch .running)).granted ≤ v.station.allowance
  omega

/-- A chiller that runs is shed, so the station is in SERVICE (03, R64). -/
theorem shedLoop (h : s.Abides v.toState) {l : LoopId} (running : (v.loop l).chiller = .running) :
    s.Abides (v.shedLoop l).toState := by
  have shed := h.modLoop (l := l) (f := fun x => { x with chiller := .waitingPower })
    (fun _ => ⟨Nat.zero_le _, fun off => (by rw [running] at off; cases off), id⟩) id (fun _ => id) fun _ => id
  refine (shed.setOrder (x := v.powerQueue ++ [l]) fun q setup => ?_).trans (.of_eq rfl rfl rfl rfl rfl rfl rfl rfl)
  have off := ((h.quiet q setup).2.1 l).1
  rw [running] at off
  cases off

theorem shedNext (h : s.Abides v.toState) : s.Abides v.shedNext.toState := by
  unfold Work.shedNext
  split
  · exact h.loseRefill
  · split
    · exact h.loseRefill
    · split
      · next next => exact h.shedLoop (State.shedChiller_running next)
      · split
        · next next => exact h.shedLoop (State.shedChiller_running next)
        · exact h

theorem shed (h : s.Abides v.toState) {n} : s.Abides (Work.shed n v).toState := by
  induction n generalizing v with
  | zero => exact h
  | succ n ih =>
    unfold Work.shed
    split
    · exact h
    · exact ih h.shedNext

/-! ### The end of a rule -/

/-- In SERVICE each step of a walk may take power. -/
theorem walk {α : Type} {f : α → Work → Work} (step : ∀ x (w : Work), s.Abides w.toState →
    (s.SetupQuiet → w.station.phase ≠ .setup) → s.Abides (f x w).toState ∧ (f x w).station = w.station) (xs : List α)
    (h : s.Abides v.toState) (service : s.SetupQuiet → v.station.phase ≠ .setup) :
    s.Abides (Work.each f xs v).toState := by
  induction xs generalizing v with
  | nil => exact h
  | cons x xs ih =>
    obtain ⟨walked, station⟩ := step x v h service
    exact ih walked (by rw [station]; exact service)

theorem serveOne (h : s.Abides v.toState) {l} (service : s.SetupQuiet → v.station.phase ≠ .setup) :
    s.Abides (v.serveOne l).toState := by
  unfold Work.serveOne
  split
  · exact h
  · split
    · next fits =>
      exact (h.setOrder fun q setup => absurd setup (service q)).runChiller service (of_decide_eq_true fits)
    · exact h

/-- In SETUP no chiller waits for power, so the order is served in SERVICE alone (03, R63). -/
theorem serveWaiting (h : s.Abides v.toState) : s.Abides v.serveWaiting.toState := by
  unfold Work.serveWaiting
  cases order : v.powerQueue with
  | nil => exact h
  | cons l rest =>
    refine h.walk (fun m w g on => ⟨g.serveOne on, (w.winds_serveOne m).station⟩) _ fun q setup => ?_
    have nobody := (h.quiet q setup).2.2
    rw [order] at nobody
    cases nobody

/-- An assignment (03, R51). -/
theorem assign (h : s.Abides v.toState) {k : CompId} {b : BankId} (service : s.SetupQuiet → v.station.phase ≠ .setup)
    (takes : CanTake v.toState k (v.bank b).tier) : s.Abides (v.assign k b).toState := by
  have claimed := excused (v := v) (b := b) (refl (v.modBank b (Bank.claim (.comp k))).toState) (by
    unfold Bank.claim
    split <;> rfl)
  refine (h.trans claimed).compTakes (k := k) service fun fits => ?_
  obtain ⟨_, _, _, room⟩ := takes
  have total := v.granted_modComp k (Compressor.startOn b v.station.clock)
  have draw : ((v.comp k).startOn b v.station.clock).heldDraw ≤ (v.comp k).draw := Compressor.heldDraw_le _
  have within : v.granted ≤ v.station.allowance := fits
  show (v.modComp k (Compressor.startOn b v.station.clock)).granted ≤ v.station.allowance
  omega

theorem visit (h : s.Abides v.toState) {e} (service : s.SetupQuiet → v.station.phase ≠ .setup) :
    s.Abides (v.visit e).toState := by
  unfold Work.visit
  dsimp only
  split
  · split
    · exact h.leaveQueue
    · split
      · next chosen => exact h.assign service (State.chooseComp_takes chosen)
      · exact h
  · exact h

theorem evaluate (h : s.Abides v.toState) : s.Abides v.evaluate.toState := by
  unfold Work.evaluate
  split
  · next on =>
    exact h.walk (fun e w g on => ⟨g.visit on, (w.winds_visit e).station⟩) _ fun _ => by rw [on.1]; decide
  · exact h

theorem servedIf (h : s.Abides v.toState) {c : Prop} {_ : Decidable c} :
    s.Abides (if c then v.serveWaiting else v).toState := by
  split
  · exact h.serveWaiting
  · exact h

theorem close (h : s.Abides v.toState) (s0 : State) : s.Abides (v.close s0) := by
  have wound : s.Abides v.wound.toState := by
    unfold Work.wound
    dsimp only
    split
    · exact h.servedIf.evaluate
    · exact h.servedIf
  rw [Work.close_eq]
  split
  · exact wound
  · exact wound.setLink

end State.Abides
end Sys2Proof.Machine
end

section
/-! SUPPORT. `State.Abides` through samples, metering, vehicle data, sessions and precooling. -/
namespace Sys2Proof.Machine

namespace State.Abides
variable {s : State} {v : Work}

/-! ### Samples and BAD reports -/

theorem withFlags (h : s.Abides v.toState) {b} : s.Abides (v.modBank b Bank.withFlags).toState :=
  h.modBank (by unfold Bank.withFlags; split <;> rfl) fun waits => by
    unfold Bank.withFlags
    split
    · exact waits
    · exact waits

theorem reflag (h : s.Abides v.toState) {b} : s.Abides (v.reflag b).toState := by
  unfold Work.reflag
  dsimp only
  split
  · next fell =>
    refine h.withFlags.joinQueue ?_
    rw [Work.modBank_bank_self]
    unfold Bank.withFlags
    split
    · exact fell.2.2
    · exact fell.2.2
  · exact h.withFlags

theorem pressureToPos (h : s.Abides v.toState) {p b} : s.Abides (v.pressureToPos p b).toState := by
  unfold Work.pressureToPos
  dsimp only
  split
  · exact h.stepFill
  · exact h

theorem judgePressure (h : s.Abides v.toState) {b n} : s.Abides (v.judgePressure b n).toState := by
  unfold Work.judgePressure
  dsimp only
  split
  · exact h.isolateBank
  · split
    · split
      · exact h.isolateBank
      · exact h.offerBank
    · exact h.pressureToPos
    · exact h.pressureToComp
    · exact h

theorem bankPressure (h : s.Abides v.toState) {b n} : s.Abides (v.bankPressure b n).toState := by
  unfold Work.bankPressure
  dsimp only
  split
  · exact h.modBank rfl id
  · exact (h.modBank rfl id).reflag.judgePressure

theorem bankTemperature (h : s.Abides v.toState) {b t} : s.Abides (v.bankTemperature b t).toState := by
  unfold Work.bankTemperature
  dsimp only
  split
  · exact (h.modBank rfl id).isolateBank
  · exact h.modBank rfl id

theorem renewNeed (h : s.Abides v.toState) {p} : s.Abides (v.renewNeed p).toState := h.setWaitList

theorem hoseSample (h : s.Abides v.toState) {p n} : s.Abides (v.hoseSample p n).toState := by
  have measured := h.modPos (p := p) (f := fun x => { x with ses.hose := some n }) ⟨rfl, id, id, id⟩
  unfold Work.hoseSample
  dsimp only
  split
  · exact measured.renewNeed
  · exact measured.renewNeed
  · split
    · exact measured.endFill
    · split
      · exact measured.stepFill
      · exact measured.judgeValve
  · exact measured

theorem suctionLoss (h : s.Abides v.toState) : s.Abides v.suctionLoss.toState := by
  unfold Work.suctionLoss
  refine h.each fun k w g => ?_
  split
  · exact g.loseRefill
  · exact g

theorem judgeSuction (h : s.Abides v.toState) {ok} : s.Abides (v.judgeSuction ok).toState := by
  unfold Work.judgeSuction
  split
  · exact h.setSuction.oweEval
  · exact h.setSuction.suctionLoss
  · exact h

theorem deliver (h : s.Abides v.toState) {c x} : s.Abides (v.deliver c x).toState := by
  cases c with
  | bankP b => exact h.bankPressure
  | bankT b => exact h.bankTemperature
  | hoseP p => exact h.hoseSample
  | suctionP => exact (h.modStation rfl rfl).judgeSuction
  | ambientT => exact h.modStation rfl rfl
  | loopT l => exact h.modLoop (fun _ => ⟨Nat.le_refl _, id, id⟩) id (fun _ => id) fun _ => id

theorem badReport (h : s.Abides v.toState) {c} : s.Abides (v.badReport c).toState := by
  cases c with
  | bankP b => exact (h.modBank rfl id).isolateBank
  | bankT b => exact (h.modBank rfl id).isolateBank
  | hoseP p => exact (h.modPos ⟨rfl, id, id, id⟩).endFill
  | suctionP => exact (h.modStation rfl rfl).judgeSuction
  | ambientT => exact h.modStation rfl rfl
  | loopT l => exact h.modLoop (fun _ => ⟨Nat.le_refl _, id, id⟩) id (fun _ => id) fun _ => id

theorem channelLost (h : s.Abides v.toState) {c} : s.Abides (v.channelLost c).toState := h.setLink.badReport

theorem takeSample (h : s.Abides v.toState) {f} : s.Abides (v.takeSample f).toState := by
  unfold Work.takeSample
  split
  · exact h.setLink.deliver
  · split
    · exact h.channelLost
    · exact h

/-! ### Metering and holds -/

theorem addMass (h : s.Abides v.toState) {a b} : s.Abides (v.addMass a b).2.toState := by
  unfold Work.addMass
  split
  · exact h
  · exact h.trans (.of_eq rfl rfl rfl rfl rfl rfl rfl rfl)

theorem strayPulse (h : s.Abides v.toState) {p g} : s.Abides (v.strayPulse p g).toState :=
  (h.modPos ⟨rfl, id, id, id⟩).raise
theorem addMetered (h : s.Abides v.toState) {p g} : s.Abides (v.addMetered p g).toState :=
  h.addMass.modPos ⟨rfl, id, id, id⟩
theorem addConditioning (h : s.Abides v.toState) {x g} : s.Abides (v.addConditioning x g).toState := h.addMass.modHold
theorem addOverrun (h : s.Abides v.toState) {x g} : s.Abides (v.addOverrun x g).toState := h.addMass.modHold

theorem tellTaper (h : s.Abides v.toState) {p} : s.Abides (v.tellTaper p).toState := by
  unfold Work.tellTaper
  dsimp only
  split
  · exact h.modPos ⟨rfl, id, id, id⟩
  · exact h

/-- A sale pulse restarts a stall timer that runs (08, R142). -/
theorem stallRestart (h : s.Abides v.toState) {p : PosId} {n : Nat} : s.Abides (v.modPos p (fun x =>
    if x.tmr.stall.isSome then { x with tmr.stall := seconds n } else x)).toState := by
  refine h.modPos ?_
  split
  · exact ⟨rfl, id, id, id⟩
  · exact .refl _

theorem salePulse (h : s.Abides v.toState) {p x g} : s.Abides (v.salePulse p x g).toState := by
  have sold := (h.stallRestart (p := p) (n := v.station.stallWindow)).modHold (x := x) (f := Hold.sell g)
  unfold Work.salePulse
  dsimp only
  split
  · exact sold.addOverrun.endFill
  · split
    · exact sold.addOverrun.tellTaper
    · exact sold.addOverrun

theorem timePulse (h : s.Abides v.toState) {p m} : s.Abides (v.modPos p (Position.timePulse m)).toState := by
  refine h.modPos ?_
  unfold Position.timePulse
  split
  · exact ⟨rfl, id, id, id⟩
  · exact ⟨rfl, id, id, id⟩

theorem meterPulse (h : s.Abides v.toState) {p m} : s.Abides (v.meterPulse p m).toState := by
  unfold Work.meterPulse
  dsimp only
  split
  · exact h.timePulse.addMetered.addConditioning.strayPulse
  · exact h.timePulse.addMetered.addConditioning.strayPulse
  · exact h.timePulse.addMetered.addConditioning
  · exact h.timePulse.addMetered.addConditioning
  · exact h.timePulse.addMetered.salePulse
  · exact h.timePulse.addMetered.salePulse
  · exact h.timePulse.addMetered.addOverrun
  · exact h.timePulse.strayPulse

theorem setMark (h : s.Abides v.toState) {p} : s.Abides (v.setMark p).toState := by
  unfold Work.setMark
  split
  · exact h.modHold
  · exact h

theorem settle (h : s.Abides v.toState) {x r} : s.Abides (v.settle x r).toState := by
  unfold Work.settle
  dsimp only
  split
  · exact h.addConditioning.modHold.modHold
  · exact h.modHold

/-- A session in a state that is neither live nor COOLING becomes IDLE. -/
theorem idles (h : s.Abides v.toState) {p : PosId} {a : SessionState} (state : (v.pos p).ses.state = a)
    (dead : a.live = false) (past : a ≠ .cooling ∧ a ≠ .idle) :
    s.Abides (v.modPos p Position.enterIdle).toState := h.modPos (.moved state (.inl dead) rfl past)

/-- An AUTHORISED session is undone (05, R92, R103, R105). -/
theorem undoAuthorise (h : s.Abides v.toState) {p} (authorised : (v.pos p).ses.state = .authorised) :
    s.Abides (v.undoAuthorise p).toState := by
  unfold Work.undoAuthorise
  dsimp only
  split
  · exact h.modHold.idles authorised rfl (by decide)
  · exact h.idles authorised rfl (by decide)

/-! ### Vehicle data -/

theorem commFrame (h : s.Abides v.toState) {p d} : s.Abides (v.commFrame p d).toState := by
  unfold Work.commFrame
  split
  · exact h.endFill
  · split
    · exact h.addCause
    · exact h.removeCause
    · exact h

theorem freshen (h : s.Abides v.toState) {p} : s.Abides (v.modPos p Position.freshen).toState := by
  refine h.modPos ?_
  unfold Position.freshen
  split
  · exact ⟨rfl, id, id, id⟩
  · exact ⟨rfl, id, id, id⟩

/-- Step 2 of a valid frame is done or left out (07, R128). -/
theorem freshened (h : s.Abides v.toState) {c : Prop} {_ : Decidable c} {p} :
    s.Abides (if c then v.modPos p Position.freshen else v).toState := by
  split
  · exact h.freshen
  · exact h

/-- Steps 3 to 6 of a valid frame (07, R128). -/
theorem frameJudged (h : s.Abides v.toState) {x : Session} {p d} :
    s.Abides (if d.command = .abort then v.endFill p .vehicleAbort
      else if Config.hotTemperature ≤ d.temperature then v.endFill p .tankHot
      else if (x.state = .fuelling ∨ x.state = .held) ∧ x.isComm = true then v.commFrame p d else v).toState := by
  split
  · exact h.endFill
  · split
    · exact h.endFill
    · split
      · exact h.commFrame
      · exact h

theorem validFrame (h : s.Abides v.toState) {p d} : s.Abides (v.validFrame p d).toState := by
  unfold Work.validFrame
  dsimp only
  split
  · exact h.modPos ⟨rfl, id, id, id⟩
  · exact (h.modPos ⟨rfl, id, id, id⟩).freshened.frameJudged

theorem takeVehicle (h : s.Abides v.toState) {p body} : s.Abides (v.takeVehicle p body).toState := by
  unfold Work.takeVehicle
  split
  · exact h.validFrame
  · exact h.modPos ⟨rfl, id, id, id⟩

theorem startFallback (h : s.Abides v.toState) {p} : s.Abides (v.startFallback p).toState := by
  unfold Work.startFallback
  split
  · exact h.applyFallback
  · exact h.modPos ⟨rfl, id, id, id⟩

theorem freshnessExpiry (h : s.Abides v.toState) {p} : s.Abides (v.freshnessExpiry p).toState := by
  unfold Work.freshnessExpiry
  dsimp only
  split
  · exact (h.modPos ⟨rfl, id, id, id⟩).startFallback
  · exact h.modPos ⟨rfl, id, id, id⟩

/-! ### Sessions -/

theorem couple (h : s.Abides v.toState) {p} (authorised : (v.pos p).ses.state = .authorised) :
    s.Abides (v.couple p).toState := by
  have stamped := h.modPos (p := p) (f := Position.stampCoupling v.station.clock) ⟨rfl, id, id, id⟩
  have pos := v.modPos_pos_self p (Position.stampCoupling v.station.clock)
  have state : ((v.modPos p (Position.stampCoupling v.station.clock)).pos p).ses.state = .authorised := by
    rw [pos]
    exact authorised
  unfold Work.couple
  dsimp only
  split
  · exact stamped.trans (Work.abides_endCore (fun e => by rw [state] at e; cases e) _)
  · split
    · have cooling := stamped.modPos (p := p)
        (f := fun y => { y with ses.state := .cooling, tmr.cooling := some Config.coolingMs })
        (.moved state (.inl rfl) rfl (by decide))
      split
      · next attached =>
        refine cooling.requestGrant ?_ ?_
        · rw [Work.modPos_pos_self, pos]
          exact attached
        · rw [Work.modPos_pos_self]
      · exact cooling
    · exact (stamped.modPos (.moved state (.inl rfl) rfl (by decide))).pulsingSelect

/-- From CHECKING to FUELLING, with selection (05, R96). -/
theorem enterFuelling (h : s.Abides v.toState) {p} (checking : (v.pos p).ses.state = .checking) :
    s.Abides (v.enterFuelling p).toState := by
  have marked : ((v.setMark p).pos p).ses.state = .checking := by
    unfold Work.setMark
    split
    · exact checking
    · exact checking
  have entered := h.setMark.modPos (p := p) (f := fun x =>
    { x with
      ses := { x.ses with
        state := .fuelling, ceiling := min x.ses.initial x.ses.target, fuelStamp := some v.station.clock },
      tmr := { x.tmr with ramp := some Config.tickMs } }) (.moved marked (.inr rfl) rfl (by decide))
  have selected := entered.selectOrHold (p := p) (by
    rw [Work.modPos_pos_self]
    exact ⟨rfl, fun e => by cases e⟩)
  unfold Work.enterFuelling
  dsimp only
  split
  · exact selected.addCause
  · exact selected

theorem checkExpiry (h : s.Abides v.toState) {p} (checking : (v.pos p).ses.state = .checking) :
    s.Abides (v.checkExpiry p).toState := by
  unfold Work.checkExpiry
  dsimp only
  split
  · exact (h.modPos ⟨rfl, id, id, id⟩).endFill
  · split
    · exact (h.modPos ⟨rfl, id, id, id⟩).endFill
    · split
      · exact ((h.modPos ⟨rfl, id, id, id⟩).modPos ⟨rfl, id, id, id⟩).endFill
      · refine ((h.modPos ⟨rfl, id, id, id⟩).modPos ⟨rfl, id, id, id⟩).enterFuelling ?_
        rw [Work.modPos_pos_self, Work.modPos_pos_self]
        exact checking

/-- The pulse ends (05, R95). -/
theorem endPulse (h : s.Abides v.toState) {p} (pulsing : (v.pos p).ses.state = .pulsing) :
    s.Abides (v.endPulse p).toState := by
  unfold Work.endPulse
  refine ((h.modPos ⟨rfl, id, id, id⟩).releaseSome (x := (v.pos p).ses.current)).enterChecking ?_
  refine Work.releaseSome_filling ?_ _ _
  rw [Work.modPos_pos_self]
  show (v.pos p).ses.state.Filling
  rw [pulsing]
  exact ⟨rfl, by decide⟩

theorem rampTick (h : s.Abides v.toState) {p} : s.Abides (v.rampTick p).toState := by
  refine State.Abides.judgeValve (h.modPos ?_)
  have state : ((v.pos p).ses.ramp (v.bandRate p)).state = (v.pos p).ses.state := by
    unfold Session.ramp
    dsimp only
    split <;> rfl
  refine ⟨rfl, fun e => ?_, fun e => ?_, fun e => ?_⟩
  · exact (congrArg SessionState.live state).trans e
  · exact state.trans e
  · exact state.trans e

/-- From VENTING to DONE, and to IDLE with the nozzle seated (05, R102). -/
theorem finish (h : s.Abides v.toState) {p} (venting : (v.pos p).ses.state = .venting) :
    s.Abides (v.finish p).toState := by
  have done : s.Abides ((v.modPos p Position.toDone).raisePos p).toState :=
    (h.modPos (.moved venting (.inl rfl) rfl (by decide))).raise
  unfold Work.finish
  dsimp only
  split
  · refine done.idles (a := .done) ?_ rfl (by decide)
    show ((v.modPos p Position.toDone).pos p).ses.state = .done
    rw [Work.modPos_pos_self]
    rfl
  · exact done

theorem ventExpiry (h : s.Abides v.toState) {p} (venting : (v.pos p).ses.state = .venting) :
    s.Abides (v.ventExpiry p).toState := by
  have closed := h.modPos (p := p) (f := fun x => { x with ses.vent := .closed, tmr.vent := none }) ⟨rfl, id, id, id⟩
  have state : ((v.modPos p (fun x => { x with ses.vent := .closed, tmr.vent := none })).pos p).ses.state =
      .venting := by
    rw [Work.modPos_pos_self]
    exact venting
  rw [Work.ventExpiry_eq]
  generalize v.modPos p (fun x => { x with ses.vent := .closed, tmr.vent := none }) = u at closed state ⊢
  cases (v.pos p).ses.boundHold with
  | none => exact closed.finish state
  | some x =>
    refine closed.settle.raise.finish ?_
    rw [← state]
    unfold State.pos
    rw [← (u.settle_frame x (v.pos p).ses.endReason).2]
    rfl

/-! ### Precooling -/

theorem tickReserve (h : s.Abides v.toState) {l} : s.Abides (v.tickReserve l).toState := by
  have reserve := fun n => h.modLoop (l := l) (f := fun y => { y with reserve := (v.loop l).reserveAfter n })
    (fun _ => ⟨Nat.le_refl _, id, id⟩) (fun ⟨_, rest⟩ => ⟨Nat.min_le_right _ _, rest⟩) (fun _ => id) fun _ => id
  unfold Work.tickReserve
  dsimp only
  split
  · exact (reserve _).raise
  · exact reserve _

/-- An OFF chiller claims its draw; a tick comes in SERVICE alone (03, R62; 04, R72, R73). -/
theorem claimChiller (h : s.Abides v.toState) {l}
    (service : s.SetupQuiet → v.station.phase ≠ .setup) : s.Abides (v.claimChiller l).toState := by
  unfold Work.claimChiller
  split
  · next fits => exact h.runChiller service (of_decide_eq_true fits)
  · refine (h.setOrder fun q setup => absurd setup (service q)).loop (fun q setup => absurd setup (service q))
      (fun _ fits => ?_) id fun _ x => ⟨x.1 l, x.2.1 l⟩
    have total := v.granted_modLoop l (Loop.switch .waitingPower)
    have waits : (Loop.switch .waitingPower (v.loop l)).heldDraw = 0 := rfl
    have within : v.granted ≤ v.station.allowance := fits
    show (v.modLoop l (Loop.switch .waitingPower)).granted ≤ v.station.allowance
    omega

theorem stopChiller (h : s.Abides v.toState) {l} : s.Abides (v.stopChiller l).toState := by
  have stopped := h.modLoop (l := l) (f := fun x => { x with chiller := .off })
    (fun _ => ⟨Nat.zero_le _, fun _ => rfl, id⟩) id (fun _ => id) fun _ => id
  unfold Work.stopChiller
  dsimp only
  split
  · exact stopped.releasedDraw
  · refine stopped.setOrder fun q setup => ?_
    show v.powerQueue.filter (fun x => x != l) = []
    rw [(h.quiet q setup).2.2]
    rfl

theorem tickChiller (h : s.Abides v.toState) {l} (service : s.SetupQuiet → v.station.phase ≠ .setup) :
    s.Abides (v.tickChiller l).toState := by
  unfold Work.tickChiller
  dsimp only
  split
  · split
    · exact h.claimChiller service
    · exact h
  · split
    · exact h.stopChiller
    · exact h

theorem tickBand (h : s.Abides v.toState) {l} : s.Abides (v.tickBand l).toState := by
  have banded := h.modLoop (l := l) (f := fun y => { y with band := (v.loop l).bandNow })
    (fun _ => ⟨Nat.le_refl _, id, id⟩) id (fun _ => id) fun _ => id
  have told := banded.each (f := fun p w => w.modPos p (fun y => { y with ses.band := (v.loop l).bandNow }))
    (fun _ _ g => g.modPos ⟨rfl, id, id, id⟩) (xs := (v.loop l).grants)
  unfold Work.tickBand
  dsimp only
  split
  · exact h
  · split
    · exact told.each fun _ _ g => g.removeCause
    · exact told

theorem tickLoss (h : s.Abides v.toState) {l} : s.Abides (v.tickLoss l).toState := by
  have bound : (v.loop l).loss ≤ 10 → (if (v.loop l).band ≠ .lost then 0
      else if v.fuellingHolders l = [] then (v.loop l).loss else min 10 ((v.loop l).loss + 1)) ≤ 10 := fun within => by
    split
    · exact Nat.zero_le _
    · split
      · exact within
      · exact Nat.min_le_left _ _
  unfold Work.tickLoss
  dsimp only
  generalize (if (v.loop l).band ≠ .lost then 0 else _ : Nat) = loss at bound ⊢
  have counted := h.modLoop (l := l) (f := fun y => { y with loss := loss })
    (fun _ => ⟨Nat.le_refl _, id, id⟩) (fun ⟨reserve, within, rest⟩ => ⟨reserve, bound within, rest⟩) (fun _ => id)
    fun _ => id
  split
  · exact (counted.each fun _ _ g => g.addCause).raise
  · exact counted

theorem precoolTick (h : s.Abides v.toState) {l} (service : s.SetupQuiet → v.station.phase ≠ .setup) :
    s.Abides (v.precoolTick l).toState := by
  have station : (v.tickReserve l).station = v.station := by
    unfold Work.tickReserve
    dsimp only
    split <;> rfl
  exact (h.tickReserve.tickChiller (by rw [station]; exact service)).tickBand.tickLoss.serveQueue

/-- The tick timers start in SERVICE alone (04, R73). -/
theorem startTicks (h : s.Abides v.toState) (service : s.SetupQuiet → v.station.phase ≠ .setup) :
    s.Abides v.startTicks.toState := by
  have ticking : s.Abides (Work.each (fun l w => w.modLoop l (fun x => { x with tick := some Config.tickMs }))
      allLoops v).toState := by
    refine h.walk (fun l w g on => ?_) _ service
    refine ⟨g.loop (fun q setup => absurd setup (on q)) (fun _ fits => ?_) id fun _ x => ⟨x.1 l, x.2.1 l⟩, rfl⟩
    have total := w.granted_modLoop l (fun x => { x with tick := some Config.tickMs })
    exact (Nat.add_right_cancel total).trans_le fits
  unfold Work.startTicks Work.computeBands
  exact ticking.each fun _ _ g => g.modLoop (fun _ => ⟨Nat.le_refl _, id, id⟩) id (fun _ => id) fun _ => id

end State.Abides

end Sys2Proof.Machine
end

section
/-! SUPPORT. `State.Abides` through station control, CLEAR and the verbs. -/
namespace Sys2Proof.Machine

/-! ### Station control -/

namespace State.Abides
variable {s : State} {v : Work}

theorem haltBanks (h : s.Abides v.toState) : s.Abides v.haltBanks.toState := by
  unfold Work.haltBanks
  refine State.Abides.setWaitList (h.each fun b w g => ?_)
  split
  · refine g.makeReady.joinedIf (.inl ?_)
    unfold Work.makeReady
    rw [Work.modBank_bank_self]
    rfl
  · exact g

theorem haltComps (h : s.Abides v.toState) : s.Abides v.haltComps.toState := by
  unfold Work.haltComps
  refine h.each fun k w g => ?_
  split
  · exact g.unloadComp
  · exact g

theorem haltLoops (h : s.Abides v.toState) : s.Abides v.haltLoops.toState := by
  unfold Work.haltLoops
  refine State.Abides.setOrder (h.each fun l w g => ?_) fun _ _ => rfl
  exact g.modLoop (fun _ => ⟨Nat.zero_le _, fun _ => rfl, fun _ => rfl⟩)
    (fun ⟨reserve, _⟩ => ⟨reserve, Nat.zero_le _, Nat.zero_le _, List.nodup_nil⟩) (fun _ e => (by cases e))
    fun _ e => (by cases e)

theorem haltAll (h : s.Abides v.toState) : s.Abides v.haltAll.toState := by
  unfold Work.haltAll
  refine h.haltBanks.haltComps.haltLoops.each fun p w g => ?_
  unfold Work.haltSession
  split
  · next authorised => exact g.undoAuthorise authorised
  · exact g.endFill

theorem clearAll (h : s.Abides v.toState) : s.Abides v.clearAll.toState := by
  have clears := v.clearAll_clearsAll
  have station : v.clearAll.station = v.station := by rw [clears.frame]
  have order : v.clearAll.powerQueue = v.powerQueue := by rw [clears.frame]
  have nobody : v.clearAll.refillQueue = [] := by rw [clears.frame]
  have comp : ∀ k, (v.comp k).Eases (v.clearAll.comp k) := fun k => by
    rw [clears.comp]
    exact Compressor.eases_of_inactive (Compressor.cleared_active _)
  have loop : ∀ l, (v.loop l).Eases (v.clearAll.loop l) := fun l => by
    rw [clears.loop]
    exact ⟨Nat.le_refl _, id, id⟩
  refine h.trans ⟨fun P _ => ⟨?_, ?_, ?_⟩, fun r l => ?_, fun _ x => ⟨fun l => ?_, fun l => ?_, fun setup p => ?_⟩,
    fun q => q.eased comp loop order.trans (by rw [station]), fun _ fits => ?_⟩
  · rw [nobody]
    exact List.nodup_nil
  · rw [nobody]
    exact fun e he => (by cases he)
  · rw [nobody]
    exact List.Pairwise.nil
  · rw [clears.loop]
    exact ⟨(r l).1, Nat.zero_le _, Nat.zero_le _, List.nodup_nil⟩
  · rw [clears.loop]
    exact fun p hp => (by cases hp)
  · rw [clears.loop]
    exact fun p hp => (by cases hp)
  · rw [station] at setup
    rw [clears.pos]
    unfold Position.cleared
    rw [if_pos (x.2.2 setup p)]
    exact x.2.2 setup p
  · show v.clearAll.granted ≤ v.clearAll.station.allowance
    rw [station]
    exact Nat.le_trans (State.granted_le (fun k => (comp k).draw) fun l => (loop l).draw) fits

theorem faultComp (h : s.Abides v.toState) {k} : s.Abides (v.faultComp k).toState := by
  have faulted := (h.modComp (k := k) (f := Compressor.fault) fun _ => Compressor.eases_of_inactive rfl).raise (i := 12)
  unfold Work.faultComp
  dsimp only
  split
  · split
    · exact faulted.releasedDraw.giveBack
    · exact faulted.releasedDraw
  · exact faulted

theorem startExpiry (h : s.Abides v.toState) {k} (starting : (v.comp k).state = .starting) :
    s.Abides (v.startExpiry k).toState := by
  have active : (v.comp k).active = true := by
    unfold Compressor.active
    rw [starting]
    rfl
  have runs := h.modComp (k := k) (f := fun c => { c with state := .running, startTimer := none }) fun _ =>
    ⟨by unfold Compressor.heldDraw; rw [active]; exact Nat.le_refl _, fun _ => active⟩
  unfold Work.startExpiry
  dsimp only
  split
  · split
    · exact runs.completeRefill
    · exact runs
  · exact runs

theorem yieldWaitExpiry (h : s.Abides v.toState) {p} : s.Abides (v.yieldWaitExpiry p).toState := by
  have marked := h.setWaitList (x := v.waitList.map (fun e =>
    if e.pos == p then { e with yieldTimer := none, waited := true } else e))
  unfold Work.yieldWaitExpiry
  dsimp only
  split
  · exact marked
  · split
    · exact marked.yieldAtExpiry
    · exact marked

/-! ### Verbs -/

/-- The phase becomes SERVICE (10, R176). -/
theorem toService (h : s.Abides v.toState) : s.Abides (v.modStation (fun x => { x with phase := .service })).toState :=
  h.trans ⟨fun _ q => q.of_eq rfl rfl, id, fun _ x => ⟨x.1, x.2.1, fun e => (by cases e)⟩,
    fun _ => .of_service fun e => (by cases e), fun _ => id⟩

end State.Abides

/-- SETUP changes the phase, the loops and the waiting order (10, R177). -/
theorem Work.setupVerb_frame (w : Work) : w.setupVerb = { w with
    station := { w.station with phase := .setup }, loops := w.setupVerb.loops, powerQueue := [] } := by
  have frame := Work.each_keeps Work.LoopWork (fun _ => rfl) .trans (fun l v => v.modLoop l Loop.setUp) (fun _ _ => rfl)
    allLoops (w.modStation (fun x => { x with phase := .setup }))
  exact congrArg (fun u : Work => { u with powerQueue := [] }) frame

theorem Work.setupVerb_loop (w : Work) (l : LoopId) : w.setupVerb.loop l = (w.loop l).setUp := by
  refine Work.each_establishes (f := fun l v => v.modLoop l Loop.setUp) allLoops_nodup (mem_allLoops l)
    (fun v => v.loop l = w.loop l) (fun v => v.loop l = (w.loop l).setUp) (fun m other v h => ?_) (fun v h => ?_)
    (fun m other v h => ?_) (w.modStation (fun x => { x with phase := .setup })) rfl
  · rw [Work.modLoop_loop_ne v _ (Ne.symm other)]
    exact h
  · rw [Work.modLoop_loop_self, h]
  · rw [Work.modLoop_loop_ne v _ (Ne.symm other)]
    exact h

namespace State.Abides
variable {s : State} {v : Work}

/-- With every session IDLE and no compressor active the phase becomes SETUP, all power released (10, R177). -/
theorem setupVerb (h : s.Abides v.toState) (idle : ∀ p, (v.pos p).ses.state = .idle)
    (quiet : ∀ k, (v.comp k).active = false) : s.Abides v.setupVerb.toState := by
  have frame := v.setupVerb_frame
  have loop := v.setupVerb_loop
  generalize v.setupVerb = u at frame loop ⊢
  have comp : ∀ k, u.comp k = v.comp k := fun k => by rw [frame]; rfl
  have pos : ∀ p, u.pos p = v.pos p := fun p => by rw [frame]; rfl
  refine h.trans ⟨fun P q => q.of_eq (by rw [frame]) (by rw [frame]), fun r l => ?_,
    fun _ x => ⟨fun l => ?_, fun l => ?_, fun _ p => ?_⟩, fun _ _ => ⟨fun k => ?_, fun l => ?_, by rw [frame]⟩,
    fun _ fits => ?_⟩
  · rw [loop]
    exact ⟨(r l).1, Nat.zero_le _, (r l).2.2⟩
  · rw [loop]
    exact fun p hp => pos p ▸ x.1 l p hp
  · rw [loop]
    exact fun p hp => pos p ▸ x.2.1 l p hp
  · rw [pos]
    exact idle p
  · rw [comp]
    exact quiet k
  · rw [loop]
    exact ⟨rfl, rfl⟩
  · have allowance : u.station.allowance = v.station.allowance := by rw [frame]
    show u.granted ≤ u.station.allowance
    rw [allowance]
    refine Nat.le_trans (State.granted_le (fun k => ?_) fun l => ?_) fits
    · rw [comp]
    · rw [loop]
      exact Nat.zero_le _

theorem resumeVerb (h : s.Abides v.toState) : s.Abides v.resumeVerb.toState := by
  have resumed := h.modStation (f := fun x => { x with halt := .running }) rfl rfl
  unfold Work.resumeVerb
  dsimp only
  split
  · next service =>
    refine resumed.oweEval.startTicks fun _ setup => ?_
    have setup : v.station.phase = .setup := setup
    rw [service] at setup
    cases setup
  · exact resumed.oweEval

theorem restoreVerb (h : s.Abides v.toState) {b} : s.Abides (v.restoreVerb b).toState :=
  (h.modBank (f := fun k => { k with isolation := none }) rfl id).freeBank.offerBank

/-- AUTHORISE of an IDLE position in SERVICE, which stands in no loop (05, R91). -/
theorem authoriseVerb (h : s.Abides v.toState) {p : PosId} (idle : (v.pos p).ses.state = .idle)
    (service : v.station.phase ≠ .setup) (n : Nat) : s.Abides (v.authoriseVerb p n).toState := by
  unfold Work.authoriseVerb
  split
  · exact h
  · next x _ =>
    have bound : s.Abides (v.bindHold p x).toState := h.modHold.modPos ⟨rfl, id, id, id⟩
    have state : ((v.bindHold p x).pos p).ses.state = .idle := by
      unfold Work.bindHold
      rw [Work.modPos_pos_self]
      exact idle
    have fresh : s.Abides ((v.bindHold p x).modPos p
        (fun y => { y with ses := y.ses.afresh x y.cfg.cls.firstTier })).toState := by
      refine bound.seat fun r y => ?_
      obtain ⟨holder, waiter, _⟩ := (bound.holders r y).seats p
      rw [state] at holder waiter
      exact ⟨fun l hp => (by cases (holder l hp).2), fun l hp => (by cases (waiter l hp).2),
        fun setup => absurd setup service⟩
    dsimp only
    split
    · refine fresh.couple ?_
      rw [Work.modPos_pos_self]
      rfl
    · exact fresh.modPos ⟨rfl, id, id, id⟩

theorem verbApply (h : s.Abides v.toState) {x : Verb} {args : List Byte}
    (ok : (verbFails x args v.toState).isEmpty = true) : s.Abides (v.verbApply x args).toState := by
  cases x with
  | start => exact State.Abides.oweEval (h.toService.startTicks fun _ setup => (by cases setup))
  | setup =>
    obtain ⟨idle, quiet⟩ := setupFails_passed ok
    exact h.setupVerb idle quiet
  | resume => exact h.resumeVerb
  | clear => exact h.clearAll
  | isolate b => exact h.isolateBank
  | restore b => exact h.restoreVerb
  | refill b =>
    refine h.joinQueue ?_
    unfold verbFails refillFails at ok
    dsimp only at ok
    rw [orFail_isEmpty] at ok
    simp only [Bool.and_eq_true, Bool.or_eq_true, beq_iff_eq] at ok
    exact ok.1
  | cancelRefill b => exact h.leaveQueue
  | withhold k => exact h.modComp fun _ => ⟨Nat.le_refl _, id⟩
  | release k => exact (h.modComp fun _ => ⟨Nat.le_refl _, id⟩).oweEval
  | clearFault k => exact (h.modComp fun _ => Compressor.eases_of_inactive rfl).oweEval
  | authorise p =>
    unfold verbFails authoriseFails at ok
    dsimp only at ok
    simp only [noneFails_append, orFail_isEmpty, Bool.and_eq_true, beq_iff_eq, bne_iff_ne] at ok
    obtain ⟨⟨⟨service, _⟩, _, idle⟩, _⟩ := ok
    exact h.authoriseVerb idle (by rw [service]; decide) _
  | stop p =>
    show s.Abides (v.stopVerb p).toState
    unfold Work.stopVerb
    split
    · next authorised => exact h.undoAuthorise authorised
    · exact h.endFill
  | pause p => exact h.addCause
  | continue_ p => exact h.removeCause
  | ack => exact h.trans (.of_eq rfl rfl rfl rfl rfl rfl rfl rfl)

theorem retireHold (h : s.Abides v.toState) {x} : s.Abides (v.retireHold x).toState := by
  unfold Work.retireHold
  dsimp only
  split
  · exact h.trans (.of_eq rfl rfl rfl rfl rfl rfl rfl rfl)
  · exact h.modHold

end State.Abides
end Sys2Proof.Machine
end

section
/-! SUPPORT. `State.Abides` through writes, transfers and whole commands, and the obligations about the allowance, the
queues and the loops: every command abides by the laws, so every step does. -/
open Sys2Proof Sys2Proof.Machine
namespace Sys2Proof.Machine

/-! ### Shedding ends within the allowance -/

/-- How many of the four holders hold power (03, R62). -/
def State.holders (s : State) : Nat :=
  (s.comp 0).active.toNat + (s.comp 1).active.toNat + (decide ((s.loop 0).chiller = .running)).toNat +
    (decide ((s.loop 1).chiller = .running)).toNat

theorem State.holders_le (s : State) : s.holders ≤ 4 := by
  have bit : ∀ b : Bool, b.toNat ≤ 1 := Bool.toNat_le
  have k0 := bit (s.comp 0).active
  have k1 := bit (s.comp 1).active
  have l0 := bit (decide ((s.loop 0).chiller = .running))
  have l1 := bit (decide ((s.loop 1).chiller = .running))
  unfold State.holders
  omega

/-- Without a holder no power is granted. -/
theorem State.granted_of_holders {s : State} (h : s.holders = 0) : s.granted = 0 := by
  unfold State.holders at h
  have off : (s.comp 0).active = false ∧ (s.comp 1).active = false ∧ (s.loop 0).chiller ≠ .running ∧
      (s.loop 1).chiller ≠ .running := by
    simp only [Nat.add_eq_zero_iff, Bool.toNat_eq_zero, decide_eq_false_iff_not] at h
    obtain ⟨⟨⟨k0, k1⟩, l0⟩, l1⟩ := h
    exact ⟨k0, k1, l0, l1⟩
  obtain ⟨k0, k1, l0, l1⟩ := off
  unfold State.granted Compressor.heldDraw Loop.heldDraw
  simp [k0, k1, l0, l1]

/-- The refill that a compressor loses leaves its loops and the other compressor. -/
theorem Work.loseRefill_frame (w : Work) (k : CompId) :
    (w.loseRefill k).loops = w.loops ∧
      ∀ j, (w.loseRefill k).comp j = if j = k then Unloading (w.comp k) else w.comp j := by
  have unloaded : ∀ j, (w.unloadComp k).comp j = if j = k then Unloading (w.comp k) else w.comp j :=
    fun j => Work.modComp_comp w k j _
  unfold Work.loseRefill
  dsimp only
  split
  · next b _ =>
    have hands := Work.hands_giveBack (w.unloadComp k) k b
    refine ⟨hands.loops, fun j => ?_⟩
    rw [← unloaded]
    unfold State.comp
    rw [hands.comps]
  · exact ⟨rfl, unloaded⟩

theorem State.shedComp_state {s : State} {st : CompState} {k : CompId} (h : s.shedComp st = some k) :
    (s.comp k).state = st := by
  unfold State.shedComp at h
  split at h
  · next first =>
    split at h
    · next second =>
      split at h
      · cases h; exact first
      · cases h; exact second
    · cases h; exact first
  · split at h
    · next second => cases h; exact second
    · cases h

theorem State.shedComp_none {s : State} {st : CompState} (h : s.shedComp st = none) (k : CompId) :
    (s.comp k).state ≠ st := by
  unfold State.shedComp at h
  split at h
  · split at h
    · split at h <;> cases h
    · cases h
  · next first =>
    split at h
    · cases h
    · next second =>
      obtain rfl | rfl := two_records k
      · exact first
      · exact second

theorem State.shedChiller_none {s : State} {holder : Bool} (h : s.shedChiller holder = none) (l : LoopId)
    (running : (s.loop l).chiller = .running) : s.hasFuellingHolder l ≠ holder := by
  unfold State.shedChiller at h
  split at h
  · cases h
  · next one =>
    split at h
    · cases h
    · next zero =>
      obtain rfl | rfl := two_records l
      · exact fun e => zero ⟨running, e⟩
      · exact fun e => one ⟨running, e⟩

theorem Work.loseRefill_holders {w : Work} {k : CompId} (active : (w.comp k).active = true) :
    (w.loseRefill k).holders + 1 = w.holders := by
  obtain ⟨loops, comp⟩ := w.loseRefill_frame k
  have loop : ∀ l, (w.loseRefill k).loop l = w.loop l := fun l => by unfold State.loop; rw [loops]
  have idle : (Unloading (w.comp k)).active = false := rfl
  unfold State.holders
  rw [comp, comp, loop, loop]
  obtain rfl | rfl := two_records k
  · simp [active, idle]
    omega
  · simp [active, idle]
    omega

theorem Work.shedLoop_loop (w : Work) (l m : LoopId) :
    (w.shedLoop l).loop m = if m = l then Loop.switch .waitingPower (w.loop l) else w.loop m :=
  Work.modLoop_loop w l m (Loop.switch .waitingPower)

theorem Work.shedLoop_holders {w : Work} {l : LoopId} (running : (w.loop l).chiller = .running) :
    (w.shedLoop l).holders + 1 = w.holders := by
  have comp : ∀ k, (w.shedLoop l).comp k = w.comp k := fun _ => rfl
  unfold State.holders
  rw [comp, comp, Work.shedLoop_loop, Work.shedLoop_loop]
  obtain rfl | rfl := two_records l
  · simp [running, Loop.switch]
    omega
  · simp [running, Loop.switch]

/-- Shedding takes one holder away while there is one (03, R64). -/
theorem Work.shedNext_holders {w : Work} (h : w.holders ≠ 0) : w.shedNext.holders + 1 = w.holders := by
  unfold Work.shedNext
  split
  · next starting =>
    exact Work.loseRefill_holders (by unfold Compressor.active; rw [State.shedComp_state starting]; rfl)
  · next noStart =>
    split
    · next running =>
      exact Work.loseRefill_holders (by unfold Compressor.active; rw [State.shedComp_state running]; rfl)
    · next noRun =>
      split
      · next found => exact Work.shedLoop_holders (State.shedChiller_running found)
      · next noBare =>
        split
        · next found => exact Work.shedLoop_holders (State.shedChiller_running found)
        · next noFuelling =>
          have comp : ∀ k, (w.comp k).active = false := fun k => by
            have one := State.shedComp_none noStart k
            have two := State.shedComp_none noRun k
            unfold Compressor.active
            simp [one, two]
          have loop : ∀ l, (w.loop l).chiller ≠ .running := fun l running => by
            have bare := State.shedChiller_none noBare l running
            have fuelling := State.shedChiller_none noFuelling l running
            simp at bare fuelling
            rw [fuelling] at bare
            cases bare
          refine absurd ?_ h
          unfold State.holders
          simp [comp, loop]

/-- Shedding ends with granted power within the allowance: each holder shed is one of four (03, R64). -/
theorem Work.shed_fits (n : Nat) {w : Work} (h : w.holders ≤ n) :
    (Work.shed n w).granted ≤ w.station.allowance := by
  induction n generalizing w with
  | zero =>
    rw [Work.shed, State.granted_of_holders (Nat.le_zero.mp h)]
    exact Nat.zero_le _
  | succ n ih =>
    unfold Work.shed
    split
    · next fits => exact fits
    · next short =>
      have some : w.holders ≠ 0 := fun none => short (by rw [State.granted_of_holders none]; exact Nat.zero_le _)
      have fewer := Work.shedNext_holders some
      have rest := ih (w := w.shedNext) (by omega)
      rw [w.evolves_shedNext.station] at rest
      exact rest

/-! ### Writes -/

/-- The first of several checks that passed. -/
theorem firstCheck_passed {a b : List Result} (ok : (a ++ b).isEmpty = true) : a.isEmpty = true := by
  rw [noneFails_append, Bool.and_eq_true] at ok
  exact ok.1

/-- A SETUP-only field passed its check of the phase (10, R175). -/
theorem setupOnly_passed {s : State} (ok : (setupOnly s).isEmpty = true) : s.station.phase = .setup := by
  unfold setupOnly at ok
  rw [orFail_isEmpty] at ok
  exact beq_iff_eq.mp ok

namespace State.Abides
variable {s : State} {v : Work}

/-- The allowance alone is written, to a value that granted power fits (03, R62). -/
theorem setAllowance (h : s.Abides v.toState) {n : Nat} (fits : v.PowerFits → v.granted ≤ n) :
    s.Abides (v.modStation (fun x => { x with allowance := n })).toState :=
  h.trans ⟨fun _ q => q.of_eq rfl rfl, id, fun _ => id, id, fun _ => fits⟩

theorem allowanceWrite (h : s.Abides v.toState) {n} : s.Abides (v.allowanceWrite n).toState := by
  unfold Work.allowanceWrite
  dsimp only
  split
  · next raised => exact (h.setAllowance fun fits => Nat.le_trans fits (Nat.le_of_lt raised)).releasedDraw
  · split
    · have shed := (refl (v.modStation (fun x => { x with allowance := n })).toState).shed (n := 4)
      have within := Work.shed_fits 4 (v.modStation (fun x => { x with allowance := n })).holders_le
      have station := (Work.evolves_shed 4 (v.modStation (fun x => { x with allowance := n }))).station
      refine State.Abides.raise (h.trans
        ⟨fun P q => shed.queue P (q.of_eq rfl rfl), shed.loops, shed.holders, shed.quiet, fun _ _ => ?_⟩)
      show (Work.shed 4 _).granted ≤ (Work.shed 4 _).station.allowance
      rw [station]
      exact within
    · next fits => exact h.setAllowance fun _ => Nat.le_of_not_lt fits

theorem stationWrite (h : s.Abides v.toState) {field n} : s.Abides (v.stationWrite field n).toState := by
  unfold Work.stationWrite
  split
  case h_2 => exact h.allowanceWrite
  case h_3 => exact (h.modStation rfl rfl).setWaitList
  case h_11 => exact h.trans (.of_eq rfl rfl rfl rfl rfl rfl rfl rfl)
  case h_12 => exact h
  all_goals exact h.modStation rfl rfl

theorem checkRated (h : s.Abides v.toState) {b} : s.Abides (v.checkRated b).toState := by
  unfold Work.checkRated
  split
  · exact h.isolateBank
  · exact h

theorem newTier (h : s.Abides v.toState) {b} : s.Abides (v.newTier b).toState := by
  have joined : s.Abides (if ((v.makeReady b).bank b).belowLow then (v.makeReady b).joinQueue b
      else v.makeReady b : Work).toState := by
    refine h.makeReady.joinedIf (.inl ?_)
    unfold Work.makeReady
    rw [Work.modBank_bank_self]
    rfl
  unfold Work.newTier
  dsimp only
  split
  · exact joined.isolateBank
  · split
    · exact joined.isolateBank
    · split
      · exact joined.isolateBank
      · exact joined

theorem tierWrite (h : s.Abides v.toState) {b t} : s.Abides (v.tierWrite b t).toState := by
  unfold Work.tierWrite
  dsimp only
  split
  · split
    · exact h
    · exact h.trans (excused (refl (v.modBank b Bank.toUnused).toState) rfl)
  · split
    · exact (h.modBank rfl id).newTier
    · exact (h.modBank rfl id).reflag.checkRated

theorem priorityWrite (h : s.Abides v.toState) {b n} : s.Abides (v.priorityWrite b n).toState := by
  have frame : (v.priorityWrite b n).toState =
      { v.toState with banks := (v.priorityWrite b n).banks, refillQueue := (v.priorityWrite b n).refillQueue } := by
    unfold Work.priorityWrite Work.replaceEntry
    split <;> rfl
  refine h.trans ⟨fun _ q => q.priorityWrite, ?_, ?_, ?_, ?_⟩
  all_goals rw [frame]
  · exact id
  · exact fun _ => id
  · exact id
  · exact fun _ => id

theorem bankWrite (h : s.Abides v.toState) {b field n} : s.Abides (v.bankWrite b field n).toState := by
  unfold Work.bankWrite
  split
  · exact h.tierWrite
  · exact (h.modBank rfl id).reflag.checkRated
  · exact (h.modBank rfl id).reflag
  · exact (h.modBank rfl id).reflag
  · exact h.priorityWrite
  · exact h

/-- A draw is written in SETUP alone, where no compressor holds power (03, R42). -/
theorem compWrite (h : s.Abides v.toState) {k field n} (setup : field = 2 → v.station.phase = .setup) :
    s.Abides (v.modComp k (Compressor.write field n)).toState := by
  refine h.modComp fun quiet => ?_
  unfold Compressor.write
  split
  case h_2 =>
    have idle := (quiet (setup rfl)).1 k
    exact Compressor.eases_of_inactive idle
  all_goals exact ⟨Nat.le_refl _, id⟩

/-- A draw is written in SETUP alone, where no chiller runs (04, R68). -/
theorem loopWrite (h : s.Abides v.toState) {l field n} (setup : field = 1 → v.station.phase = .setup) :
    s.Abides (v.modLoop l (Loop.write field n)).toState := by
  have lists : ∀ x : Loop, (x.write field n).grants = x.grants ∧ (x.write field n).queue = x.queue := fun x => by
    unfold Loop.write
    split <;> exact ⟨rfl, rfl⟩
  refine h.modLoop (fun quiet => ?_) (fun range => ?_) (fun p hp => ?_) fun p hp => ?_
  · unfold Loop.write
    split
    case h_1 =>
      have off := ((quiet (setup rfl)).2.1 l).1
      refine ⟨?_, id, id⟩
      unfold Loop.heldDraw
      simp [off]
    all_goals exact ⟨Nat.le_refl _, id, id⟩
  · unfold Loop.write
    split
    case h_2 => exact ⟨Nat.min_le_right _ _, range.2⟩
    all_goals exact range
  · rw [← (lists _).1]
    exact hp
  · rw [← (lists _).2]
    exact hp

/-- The loop of a position is written in SETUP alone, where no session stands in a loop (05, R86). -/
theorem posWrite (h : s.Abides v.toState) {p field n} (setup : field ≤ 2 → v.station.phase = .setup) :
    s.Abides (v.modPos p (Position.write field n)).toState := by
  have state : ((v.pos p).write field n).ses.state = (v.pos p).ses.state := by
    unfold Position.write
    split <;> rfl
  by_cases configured : field ≤ 2
  · refine h.seat fun r x => ?_
    obtain ⟨holder, waiter, idle⟩ := (h.holders r x).seats p
    rw [idle (setup configured)] at holder waiter
    exact ⟨fun l hp => (by cases (holder l hp).2), fun l hp => (by cases (waiter l hp).2),
      fun e => state.trans (idle e)⟩
  · have loop : ((v.pos p).write field n).cfg.loop = (v.pos p).cfg.loop := by
      unfold Position.write
      split
      · rfl
      · rfl
      · show ((v.pos p).cfg.write field n).loop = (v.pos p).cfg.loop
        unfold PosConfig.write
        split
        case h_1 | h_2 | h_3 => exact absurd (by decide) configured
        all_goals rfl
    exact h.modPos ⟨loop, fun e => (congrArg SessionState.live state).trans e, state.trans, state.trans⟩

theorem writeField (h : s.Abides v.toState) {ref field n vals}
    (ok : (fieldFails ref vals field n v.toState).isEmpty = true) : s.Abides (v.writeField ref field n).toState := by
  have aside : ∀ t : Work, t.banks = v.banks → t.refillQueue = v.refillQueue → t.comps = v.comps →
      t.loops = v.loops → t.powerQueue = v.powerQueue → t.positions = v.positions → t.station = v.station →
      s.Abides t.toState := by
    intro t hb hq hk hl ho hp hs
    exact h.trans (.of_eq hb hq hk hl ho hp (by rw [hs]) (by rw [hs]))
  cases ref with
  | station => exact h.stationWrite
  | bank b => exact h.bankWrite
  | comp k =>
    refine h.compWrite fun draw => ?_
    subst draw
    exact setupOnly_passed (firstCheck_passed ok)
  | loop l =>
    refine h.loopWrite fun draw => ?_
    subst draw
    exact setupOnly_passed (firstCheck_passed ok)
  | position p =>
    refine h.posWrite fun early => ?_
    obtain rfl | rfl | rfl : field = 0 ∨ field = 1 ∨ field = 2 := by omega
    · exact setupOnly_passed (firstCheck_passed ok)
    · exact setupOnly_passed (firstCheck_passed (firstCheck_passed (firstCheck_passed ok)))
    · exact setupOnly_passed (firstCheck_passed (firstCheck_passed ok))
  | hold x => exact h.modHold
  | tariff i => exact aside _ rfl rfl rfl rfl rfl rfl rfl
  | table i =>
    unfold Work.writeField Work.tableWrite
    dsimp only
    split <;> exact aside _ rfl rfl rfl rfl rfl rfl rfl
  | notice =>
    unfold Work.writeField
    dsimp only
    split
    · exact aside _ rfl rfl rfl rfl rfl rfl rfl
    · exact h

theorem setAll {ref : RecordRef} {vals xs : List (Nat × Nat)} (h : s.Abides v.toState) :
    s.Abides (Work.setAll ref vals xs v).2.toState := by
  induction xs generalizing v with
  | nil => exact h
  | cons x xs ih =>
    unfold Work.setAll
    dsimp only
    split
    · next ok => exact ih (h.writeField ok)
    · exact ih h

end State.Abides

/-! ### Transfers and commands -/

theorem State.abides_begin (s : State) : s.Abides s.begin.toState := .refl s

theorem State.abides_rule {s : State} {f : Work → Work} (h : s.Abides (f s.begin).toState) : s.Abides (s.rule f) :=
  h.close s

/-- A rule that may come about. -/
theorem State.abides_ruleIf {s : State} {f : Work → Work} {c : Prop} {d : Decidable c}
    (h : c → s.Abides (f s.begin).toState) : s.Abides (if c then s.rule f else s) := by
  split
  · next due => exact State.abides_rule (h due)
  · exact .refl s

/-- What the laws do not speak of: the port, the notices, the answer, the link, the queue of commands. -/
theorem State.abides_aside (s : State) {t : State} (h : t = { s with
    port := t.port, notices := t.notices, hostOut := t.hostOut, freeIndex := t.freeIndex, link := t.link,
    pending := t.pending }) : s.Abides t := by
  rw [h]
  exact .of_eq rfl rfl rfl rfl rfl rfl rfl rfl

theorem settleTransfer_abides {fails : List Result} {f : Work → Work} {s : State}
    (h : fails.isEmpty = true → s.Abides (f s.begin).toState) : s.Abides (settleTransfer fails f s).2 := by
  unfold settleTransfer
  split
  · next ok => exact State.abides_rule (h ok)
  · exact .refl s

theorem judge_abides (r : Request) (s : State) : s.Abides (judge r s).2 := by
  have start := s.abides_begin
  have stays : s.Abides s := .refl s
  unfold judge
  split
  · exact stays
  · split
    · exact stays
    · split
      · exact stays
      · split
        · exact stays
        · unfold judgeSet
          split
          · exact stays
          · dsimp only
            split
            · exact start.setAll.close s
            · exact stays
        · unfold judgeAct
          split
          · exact stays
          · exact settleTransfer_abides fun ok => start.verbApply ok
        · unfold judgeOpen
          split
          · exact settleTransfer_abides fun _ => start.modHold
          · exact stays
        · unfold judgeRetire
          split
          · exact settleTransfer_abides fun _ => start.retireHold
          · exact stays
        · unfold judgeSelect
          split
          · exact stays
          · exact s.abides_aside rfl
        · exact stays

theorem portRequest_abides (r : Request) (s : State) : s.Abides (portRequest r s) := by
  unfold portRequest
  split
  · exact s.abides_aside rfl
  · dsimp only
    split
    · exact s.abides_aside rfl
    · exact ((s.abides_aside rfl).trans (judge_abides r _)).trans (State.abides_aside _ rfl)

theorem portShort_abides (n : Nat) (extra : Fin 8) (served : Bool) (s : State) :
    s.Abides (portShort n extra served s) := by
  unfold portShort
  split
  · exact s.abides_aside rfl
  · dsimp only
    split
    · exact s.abides_aside rfl
    · split
      · exact s.abides_aside rfl
      · exact s.abides_aside rfl

theorem portBits_abides (x : Transfer) (s : State) : s.Abides (portBits x s) := by
  unfold portBits
  split
  · exact portRequest_abides _ s
  · exact portShort_abides _ _ _ s

theorem State.sampleByte_abides (s : State) (b : Byte) : s.Abides (s.sampleByte b) := by
  have received : ∀ r, s.Abides { s with link.rx := r } := fun _ => s.abides_aside rfl
  unfold State.sampleByte
  split
  · split
    · exact received _
    · exact .refl s
  · dsimp only
    split
    · exact received _
    · split
      · exact received _
      · exact (received _).trans (State.abides_rule (State.abides_begin _).takeSample)

theorem State.vehicleByte_abides (p : PosId) (s : State) (b : Byte) : s.Abides (s.vehicleByte p b) := by
  have received : ∀ r, s.Abides (s.setRx p r) := fun r =>
    s.abides_begin.modPos (p := p) (f := fun x => { x with rx := r }) ⟨rfl, id, id, id⟩
  unfold State.vehicleByte
  split
  · split
    · exact received _
    · exact .refl s
  · dsimp only
    split
    · exact received _
    · split
      · exact (received _).trans (State.abides_rule (State.abides_begin _).takeVehicle)
      · exact received _

theorem State.abides_foldl {α : Type} {f : State → α → State} (step : ∀ (s : State) x, s.Abides (f s x)) (xs : List α)
    (s : State) : s.Abides (xs.foldl f s) := by
  induction xs generalizing s with
  | nil => exact .refl s
  | cons x xs ih => exact (step s x).trans (ih _)

/-! ### Master reset -/

/-- A machine with nothing to power, an empty refill queue, loops within bounds without holders, and IDLE sessions. -/
structure State.AtRest (s : State) : Prop where
  inactive : ∀ k, (s.comp k).active = false
  loop : ∀ l, s.loop l = Loop.reset
  nobody : s.powerQueue = []
  unqueued : s.refillQueue = []
  idle : ∀ p, (s.pos p).ses.state = .idle

theorem State.reset_atRest : State.reset.AtRest where
  inactive := fun k => (State.reset_comp k).2
  loop := State.reset_loop
  nobody := rfl
  unqueued := rfl
  idle := fun p => by rw [State.reset_pos]; rfl

/-- A machine at rest obeys each law, whatever went before. -/
theorem State.AtRest.abides {s t : State} (h : t.AtRest) : s.Abides t where
  queue := fun P _ => by
    refine ⟨?_, ?_, ?_⟩
    all_goals rw [h.unqueued]
    · exact List.nodup_nil
    · exact fun e he => (by cases he)
    · exact List.Pairwise.nil
  loops := fun _ l => by
    rw [h.loop]
    exact ⟨by decide, Nat.zero_le _, Nat.zero_le _, List.nodup_nil⟩
  holders := fun _ _ => by
    refine ⟨fun l => ?_, fun l => ?_, fun _ => h.idle⟩
    all_goals
      rw [h.loop]
      exact fun p hp => (by cases hp)
  quiet := fun _ _ => ⟨h.inactive, fun l => by rw [h.loop]; exact ⟨rfl, rfl⟩, h.nobody⟩
  fits := fun _ _ => by
    have none : t.holders = 0 := by
      unfold State.holders
      rw [h.inactive, h.inactive, h.loop, h.loop]
      rfl
    show t.granted ≤ t.station.allowance
    rw [State.granted_of_holders none]
    exact Nat.zero_le _

theorem State.AtRest.resetFault {s : State} (h : s.AtRest) (k : CompId) : (s.resetFault k).AtRest := by
  unfold State.resetFault
  split
  · refine ⟨fun j => ?_, h.loop, h.nobody, h.unqueued, h.idle⟩
    have faulted := s.begin.modComp_comp k j Compressor.fault
    show ((s.begin.modComp k Compressor.fault).comp j).active = false
    rw [faulted]
    split
    · rfl
    · exact h.inactive j
  · exact h

theorem State.atRest_releaseReset (st : Straps) : (State.releaseReset st).AtRest := by
  obtain ⟨inactive, loop, nobody, unqueued, idle⟩ := State.reset_atRest
  unfold State.releaseReset
  refine State.AtRest.resetFault (State.AtRest.resetFault ?_ 0) 1
  dsimp only
  split
  · exact ⟨inactive, loop, nobody, unqueued, idle⟩
  · exact ⟨inactive, loop, nobody, unqueued, idle⟩

/-! ### Every step -/

theorem exec_abides {c : Instr} {s t : State} (e : exec c s = .next t) : s.Abides t := by
  have start := s.abides_begin
  have port : ∀ r, s.Abides (portRequest r s) := fun r => portRequest_abides r s
  have level : ∀ {x : Station}, x.phase = s.station.phase → x.allowance = s.station.allowance →
      s.Abides { s with station := x } := fun phase allowance => .of_eq rfl rfl rfl rfl rfl rfl phase allowance
  cases c with
  | sampleFrame bytes => cases e; exact State.abides_foldl State.sampleByte_abides bytes s
  | silenceTimerExpiry c => cases e; exact State.abides_ruleIf fun _ => start.channelLost
  | routeFrameComplete => cases e; exact s.abides_aside rfl
  | masterReset st =>
    cases e
    obtain ⟨inactive, loop, nobody, unqueued, idle⟩ := State.atRest_releaseReset st
    exact State.AtRest.abides ⟨inactive, loop, nobody, unqueued, idle⟩
  | coupledArrival p =>
    cases e
    refine State.abides_rule ?_
    dsimp only
    split
    · next authorised => exact (start.modStation rfl rfl).couple authorised
    · exact start.modStation rfl rfl
  | uncoupledArrival p => cases e; exact State.abides_rule (start.modStation rfl rfl).endFill
  | seatedArrival p =>
    cases e
    refine State.abides_rule ?_
    dsimp only
    split
    · next done => exact (start.modStation rfl rfl).idles done rfl (by decide)
    · exact start.modStation rfl rfl
  | liftArrival p => cases e; exact level rfl rfl
  | meterPulse p m => cases e; exact State.abides_rule start.meterPulse
  | vehicleFrame p bytes => cases e; exact State.abides_foldl (State.vehicleByte_abides p) bytes s
  | faultActive k => cases e; exact State.abides_rule (start.modStation rfl rfl).faultComp
  | faultInactive k => cases e; exact level rfl rfl
  | esdAsserted =>
    cases e
    refine State.abides_rule ?_
    dsimp only
    split
    · exact (start.modStation rfl rfl).raise.haltAll
    · exact (start.modStation rfl rfl).raise
  | esdReleased => cases e; exact level rfl rfl
  | clockSecond => cases e; exact level rfl rfl
  | leakWindowExpiry b =>
    cases e
    split
    · exact start.modBank (b := b) (f := Bank.retakeLeak s.station.clock s.station.leakWindow) rfl id
    · exact .refl s
  | yieldWaitExpiry p => cases e; exact State.abides_ruleIf fun _ => start.yieldWaitExpiry
  | startTimerExpiry k => cases e; exact State.abides_ruleIf fun due => start.startExpiry due.2
  | unloadTimerExpiry k =>
    cases e
    exact State.abides_ruleIf fun _ =>
      (start.modComp (f := fun c => { c with state := .stopped, unloadTimer := none })
        fun _ => Compressor.eases_of_inactive rfl).oweEval
  | precoolTick l =>
    cases e
    refine State.abides_ruleIf fun ticking => start.precoolTick fun quiet setup => ?_
    rw [((quiet setup).2.1 l).2] at ticking
    cases ticking
  | rampTick p => cases e; exact State.abides_ruleIf fun _ => start.rampTick
  | connectTimeout p => cases e; exact State.abides_ruleIf fun due => (start.undoAuthorise due.2).raise
  | coolingTimeout p => cases e; exact State.abides_ruleIf fun _ => start.endFill
  | bankWaitTimeout p => cases e; exact State.abides_ruleIf fun _ => start.endFill
  | pulseTimerExpiry p => cases e; exact State.abides_ruleIf fun due => start.endPulse due.2
  | checkWindowExpiry p => cases e; exact State.abides_ruleIf fun due => start.checkExpiry due.2
  | heldTimerExpiry p => cases e; exact State.abides_ruleIf fun _ => start.endFill
  | ventTimerExpiry p => cases e; exact State.abides_ruleIf fun due => start.ventExpiry due.2
  | freshnessExpiry p => cases e; exact State.abides_ruleIf fun _ => start.freshnessExpiry
  | deferralExpiry p =>
    cases e
    refine State.abides_ruleIf fun _ => ?_
    dsimp only
    split
    · exact (start.modPos ⟨rfl, id, id, id⟩).applyFallback
    · exact start.modPos ⟨rfl, id, id, id⟩
  | stallTimerExpiry p => cases e; exact State.abides_ruleIf fun _ => (start.modPos ⟨rfl, id, id, id⟩).endFill
  | summaryTransfer n extra served =>
    cases e
    split
    · exact s.abides_aside rfl
    · exact s.abides_aside rfl
  | noop poll =>
    cases e
    cases poll with
    | silent served => exact portShort_abides _ _ _ s
    | oneByte b served => exact portShort_abides _ _ _ s
    | header cls num field tail => exact port _
  | failedTransfer x => cases e; exact portBits_abides x s
  | _ => cases e; exact port _

theorem step_abides {s t : State} (e : step s = .next t) : s.Abides t := by
  unfold step at e
  split at e
  · cases e
    exact .refl s
  · next c rest _ => exact State.Abides.trans (b := { s with pending := rest }) (s.abides_aside rfl) (exec_abides e)

end Sys2Proof.Machine

/-- Settles O53: every operation of every rule abides by the laws of power (`step_abides`). -/
theorem powerStaysWithinTheAllowance : Obligations.PowerStaysWithinTheAllowance := by
  unfold Obligations.PowerStaysWithinTheAllowance
  intro s t fits quiet e
  have abides := step_abides e
  exact ⟨abides.fits quiet fits, abides.quiet quiet⟩

/-- Settles O55: every operation of every rule abides by the laws of the queue and of the loops (`step_abides`). -/
theorem queuesStayInOrder : Obligations.QueuesStayInOrder := by
  unfold Obligations.QueuesStayInOrder
  intro s t e
  have abides := step_abides e
  rw [State.queueLaw_iff, State.queueLaw_iff]
  exact ⟨abides.queue _, abides.loops, abides.holders⟩
end

section
/-! The scheduling evaluation entry by entry (03, R49 to R51). -/
open Sys2Proof Sys2Proof.Machine
namespace Sys2Proof.Machine

/-! ### The walk -/

theorem Work.each_eq_foldl {α : Type} (f : α → Work → Work) (xs : List α) (w : Work) :
    Work.each f xs w = xs.foldl (fun v x => f x v) w := by
  induction xs generalizing w with
  | nil => rfl
  | cons x xs ih => exact ih (f x w)

theorem Work.evaluate_off {w : Work} (h : ¬ Evaluates w.toState) : w.evaluate = w := if_neg h

theorem Work.evaluate_on {w : Work} (h : Evaluates w.toState) :
    w.evaluate = w.refillQueue.foldl (fun x e => Work.visit e x) w :=
  (if_pos h).trans (Work.each_eq_foldl Work.visit w.refillQueue w)

/-! ### The compressor that takes an entry -/

theorem State.compEligible_false {s : State} {tier : Tier} {k : CompId} (h : ¬ CanTake s k tier) :
    s.compEligible tier k = false := Bool.eq_false_iff.mpr (mt State.compEligible_iff.mp h)

theorem State.chooseComp_none {s : State} {tier : Tier} (h : ∀ k, ¬ CanTake s k tier) : s.chooseComp tier = none := by
  unfold State.chooseComp
  rw [State.compEligible_false (h 0), State.compEligible_false (h 1)]

/-- Of the compressors that can take a bank, the one of lowest reach, K0 between equals (03, R50). -/
theorem State.chooseComp_least {s : State} {tier : Tier} {k : CompId} (takes : CanTake s k tier)
    (least : ∀ j : CompId, CanTake s j tier → (s.comp k).reach.rank < (s.comp j).reach.rank ∨
      ((s.comp k).reach.rank = (s.comp j).reach.rank ∧ k ≤ j)) : s.chooseComp tier = some k := by
  have eligible := State.compEligible_iff.mpr takes
  unfold State.chooseComp
  obtain rfl | rfl := two_records k
  · rw [eligible]
    cases other : s.compEligible tier 1 with
    | false => rfl
    | true =>
      have before := least 1 (State.compEligible_iff.mp other)
      exact if_neg (by omega)
  · rw [eligible]
    cases other : s.compEligible tier 0 with
    | false => rfl
    | true =>
      have before := (least 0 (State.compEligible_iff.mp other)).resolve_right fun e => absurd e.2 (by decide)
      exact if_pos before

/-! ### One entry -/

theorem Bank.pressureAtHigh_of {k : Bank} {v : Nat} (h : k.pressure = some v) :
    k.pressureAtHigh = decide (k.high ≤ v) := by
  unfold Bank.pressureAtHigh
  rw [h]
  rfl

theorem Bank.claim_ready {k : Bank} (c : Claimant) (h : k.state = .ready) :
    k.claim c = { k.dropLeak with state := c.bankState, claimant := some c } := if_pos h

theorem Work.visit_unready {e : QueueEntry} {w : Work} (h : (w.bank e.bank).state ≠ .ready) : w.visit e = w := if_neg h

/-- A READY bank at its high mark leaves the queue (03, R50). -/
theorem Work.visit_full {e : QueueEntry} {w : Work} {v : Nat} (ready : (w.bank e.bank).state = .ready)
    (pressure : (w.bank e.bank).pressure = some v) (full : (w.bank e.bank).high ≤ v) :
    w.visit e = w.leaveQueue e.bank := by
  unfold Work.visit
  dsimp only
  rw [if_pos ready, Bank.pressureAtHigh_of pressure, if_pos (decide_eq_true full)]

/-- A READY bank below its high mark goes to the compressor chosen for it, if one can take it (03, R50). -/
theorem Work.visit_low {e : QueueEntry} {w : Work} (ready : (w.bank e.bank).state = .ready)
    (low : (w.bank e.bank).pressureAtHigh = false) : w.visit e =
      match w.chooseComp (w.bank e.bank).tier with
      | some c => w.assign c e.bank
      | none => w := by
  unfold Work.visit
  refine (if_pos ready).trans ((if_neg ?_).trans rfl)
  rw [low]
  exact Bool.false_ne_true

theorem Bank.low_of {k : Bank} {v : Nat} (pressure : k.pressure = some v) (low : v < k.high) :
    k.pressureAtHigh = false := by
  rw [Bank.pressureAtHigh_of pressure]
  exact decide_eq_false (by omega)

/-- What an assignment of a READY bank leaves (03, R51). -/
theorem Work.assign_ready {w : Work} {b : BankId} (k : CompId) (ready : (w.bank b).state = .ready) : w.assign k b =
    { w with
      refillQueue := w.refillQueue.filter (fun x => x.bank != b),
      banks := w.banks.set b { w.bank b with
        state := .refilling, claimant := some (.comp k), leakRef := none, leakStamp := none, leakTimer := none },
      comps := w.comps.set k ((w.comp k).startOn b w.station.clock) } := by
  have claimed : (w.leaveQueue b).claimBank (.comp k) b =
      (w.leaveQueue b).modBank b fun _ => { w.bank b with
        state := .refilling, claimant := some (.comp k), leakRef := none, leakStamp := none, leakTimer := none } :=
    congrArg (fun x => (w.leaveQueue b).modBank b fun _ => x) (Bank.claim_ready (.comp k) ready)
  unfold Work.assign
  rw [claimed]
  rfl

end Sys2Proof.Machine

/-- Settles O18: the walk is a fold, and each entry is one case of `Work.visit`. -/
theorem evaluationWalksTheQueueOnce : Obligations.EvaluationWalksTheQueueOnce := by
  unfold Obligations.EvaluationWalksTheQueueOnce
  refine ⟨fun w => Work.evaluate_off, fun w => Work.evaluate_on, fun e w => Work.visit_unready, ?_, ?_, ?_⟩
  · exact fun e w v ready pressure full => Work.visit_full ready pressure full
  · intro e w v ready pressure low nobody
    rw [Work.visit_low ready (Bank.low_of pressure low), State.chooseComp_none nobody]
  · intro e w v k ready pressure low takes least
    rw [Work.visit_low ready (Bank.low_of pressure low), State.chooseComp_least takes least]
    exact Work.assign_ready k ready
end

section
/-! SUPPORT. The end of a rule that owes an evaluation alone: what it leaves, and what an evaluation made is (03, R49 to
R51). -/
open Sys2Proof Sys2Proof.Machine
namespace Sys2Proof.Machine

/-! ### What an evaluation changes -/

/-- Banks, compressors and the refill queue are all that an evaluation changes. -/
def Work.ScheduleWork (w t : Work) : Prop :=
  t = { w with banks := t.banks, comps := t.comps, refillQueue := t.refillQueue }

theorem Work.ScheduleWork.trans {a b c : Work} (h : a.ScheduleWork b) (g : b.ScheduleWork c) : a.ScheduleWork c := by
  unfold Work.ScheduleWork at *
  rw [g, h]

theorem Work.scheduleWork_visit (w : Work) (e : QueueEntry) : w.ScheduleWork (w.visit e) := by
  unfold Work.visit
  dsimp only
  split
  · split
    · rfl
    · split <;> rfl
  · rfl

theorem Work.scheduleWork_evaluate (w : Work) : w.ScheduleWork w.evaluate := by
  unfold Work.evaluate
  split
  · exact Work.each_keeps Work.ScheduleWork (fun _ => rfl) .trans _ (fun e v => v.scheduleWork_visit e) _ w
  · rfl

/-! ### What an evaluation does not read -/

/-- What an evaluation neither reads nor writes is taken from another work: the port, the answer, the field link,
what the rule owes. -/
def Work.aside (v w : Work) : Work :=
  { w with
    port := v.port, hostOut := v.hostOut, link := v.link,
    serveDue := v.serveDue, evalDue := v.evalDue, passedOver := v.passedOver }

theorem Work.visit_aside (v w : Work) (e : QueueEntry) : Work.visit e (v.aside w) = v.aside (w.visit e) := by
  by_cases ready : (w.bank e.bank).state = .ready
  · have ready' : ((v.aside w).bank e.bank).state = .ready := ready
    cases high : (w.bank e.bank).pressureAtHigh with
    | true =>
      have high' : ((v.aside w).bank e.bank).pressureAtHigh = true := high
      unfold Work.visit
      dsimp only
      rw [if_pos ready, if_pos ready', if_pos high, if_pos high']
      rfl
    | false =>
      rw [Work.visit_low ready high, Work.visit_low ready' high]
      cases chosen : w.chooseComp (w.bank e.bank).tier with
      | none =>
        have chosen' : (v.aside w).chooseComp ((v.aside w).bank e.bank).tier = none := chosen
        rw [chosen']
      | some k =>
        have chosen' : (v.aside w).chooseComp ((v.aside w).bank e.bank).tier = some k := chosen
        rw [chosen']
        rfl
  · rw [Work.visit_unready ready]
    exact Work.visit_unready ready

theorem Work.evaluate_aside (v w : Work) : (v.aside w).evaluate = v.aside w.evaluate := by
  have walk : ∀ (q : List QueueEntry) (u : Work),
      Work.each Work.visit q (v.aside u) = v.aside (Work.each Work.visit q u) := fun q => by
    induction q with
    | nil => exact fun _ => rfl
    | cons e q ih =>
      intro u
      show Work.each Work.visit q (Work.visit e (v.aside u)) = _
      rw [Work.visit_aside]
      exact ih _
  by_cases on : Evaluates w.toState
  · exact (if_pos on).trans ((walk _ w).trans (congrArg v.aside (if_pos on).symm))
  · rw [Work.evaluate_off on]
    exact Work.evaluate_off on

/-! ### The first entry -/

theorem Work.assign_comp (w : Work) (k j : CompId) (b : BankId) :
    (w.assign k b).comp j = if j = k then (w.comp k).startOn b w.station.clock else w.comp j :=
  Work.modComp_comp ((w.leaveQueue b).claimBank (.comp k) b) k j _

/-- The first entry of the queue names a READY bank below its high mark that one compressor alone can take: that
compressor is STARTING on it when the walk is done (03, R49 to R51). -/
theorem Work.evaluate_first {w : Work} {e : QueueEntry} {rest : List QueueEntry} {v : Nat} {k : CompId}
    (on : Evaluates w.toState) (queue : w.refillQueue = e :: rest) (ready : (w.bank e.bank).state = .ready)
    (pressure : (w.bank e.bank).pressure = some v) (low : v < (w.bank e.bank).high)
    (takes : CanTake w.toState k (w.bank e.bank).tier)
    (only : ∀ j : CompId, CanTake w.toState j (w.bank e.bank).tier → j = k) :
    w.evaluate.comp k = (w.comp k).startOn e.bank w.station.clock ∧ (w.evaluate.bank e.bank).state = .refilling ∧
      (w.evaluate.bank e.bank).claimant = some (.comp k) ∧ w.evaluate.queued e.bank = false := by
  have first : w.visit e = w.assign k e.bank := by
    rw [Work.visit_low ready (Bank.low_of pressure low), State.chooseComp_least takes fun j can => .inr ?_]
    rw [only j can]
    exact ⟨rfl, Nat.le_refl _⟩
  have evaluate : w.evaluate = Work.each Work.visit rest (w.assign k e.bank) := by
    refine (if_pos on).trans ?_
    rw [queue]
    show Work.each Work.visit rest (w.visit e) = _
    rw [first]
  have comp : (w.assign k e.bank).comp k = (w.comp k).startOn e.bank w.station.clock := by
    rw [Work.assign_comp, if_pos rfl]
  have bank : (w.assign k e.bank).bank e.bank = (w.bank e.bank).claim (.comp k) := Work.modBank_bank_self _ _ _
  have gone : (w.assign k e.bank).queued e.bank = false := by
    show (w.leaveQueue e.bank).queued e.bank = false
    rw [Work.leaveQueue_queued]
    simp
  have state : ((w.assign k e.bank).bank e.bank).state = .refilling := by
    rw [bank]
    exact Bank.claim_comp_state ready k
  have busy : Work.KeepsBusy k (w.assign k e.bank) w.evaluate := by
    rw [evaluate]
    exact Work.each_keeps (Work.KeepsBusy k) (fun _ => .inr rfl) .trans _ (fun x u => u.keepsBusy_visit x k) _ _
  have scheduled : Work.Schedules e.bank (w.assign k e.bank) w.evaluate := by
    rw [evaluate]
    exact Work.each_keeps (Work.Schedules e.bank) (.refl _) .trans _ (fun x u => u.schedules_visit x e.bank) _ _
  have same : w.evaluate.bank e.bank = (w.assign k e.bank).bank e.bank :=
    scheduled.bank.elim (·.1) fun taken => by rw [state] at taken; cases taken.1
  refine ⟨(busy.resolve_left ?_).trans comp, by rw [same, state], ?_, ?_⟩
  · rw [comp]
    exact fun stopped => by cases stopped
  · rw [same, bank, Bank.claim_ready _ ready]
  · exact Bool.eq_false_iff.mpr fun q => Bool.eq_false_iff.mp gone (scheduled.queue q)

theorem evaluationMade_of_evaluate {w : Work} {t : State} (h : t = { w.evaluate.toState with link := t.link })
    (fresh : w = w.toState.begin) : EvaluationMade w.toState t := by
  refine ⟨by rw [← fresh]; exact h, fun e rest v k on queue ready pressure low takes only => ?_⟩
  rw [h]
  exact Work.evaluate_first on queue ready pressure low takes only

/-! ### The end of a rule that owes an evaluation -/

theorem Work.close_frame (w : Work) (s0 : State) :
    w.close s0 = { w.wound.toState with link := (w.close s0).link } := by
  rw [Work.close_eq]
  split <;> rfl

theorem Work.wound_evaluates {w : Work} (serve : w.serveDue = false) (due : w.evalDue = true) :
    w.wound = w.evaluate := by
  unfold Work.wound
  rw [serve, due]
  rfl

/-- A rule that owes an evaluation, on a station that makes none, ends as it stands. -/
theorem Work.close_off {w : Work} {s0 : State} (serve : w.serveDue = false) (off : ¬ Evaluates w.toState)
    (routes : w.routes = s0.routes) : w.close s0 = w.toState := by
  have same : w.wound = w := by
    unfold Work.wound
    rw [serve]
    dsimp only
    split
    · exact Work.evaluate_off off
    · rfl
  rw [Work.close_eq, same, if_pos routes]

/-- The evaluation made at the end of a rule, whatever the port and the answer are afterwards and the field link was
before. -/
theorem Work.close_evaluationMade {w : Work} (serve : w.serveDue = false) (due : w.evalDue = true) (s0 : State)
    (x : Port) (out : List Byte) (l : FieldLink) :
    EvaluationMade { w.toState with port := x, hostOut := out, link := l }
      { w.close s0 with port := x, hostOut := out } := by
  have alike := (({ w.toState with port := x, hostOut := out, link := l } : State).begin).evaluate_aside w
  have evaluated : ({ w.close s0 with port := x, hostOut := out } : State) =
      { ({ w.toState with port := x, hostOut := out, link := l } : State).begin.evaluate.toState with
        link := (w.close s0).link } := by
    rw [show ({ w.toState with port := x, hostOut := out, link := l } : State).begin =
      Work.aside ({ w.toState with port := x, hostOut := out, link := l } : State).begin w from rfl, alike,
      w.close_frame s0, Work.wound_evaluates serve due]
    rfl
  exact evaluationMade_of_evaluate (w := ({ w.toState with port := x, hostOut := out, link := l } : State).begin)
    evaluated rfl

/-- A rule that owes no serving of the waiting order ends with a change of banks, compressors, queue and link alone. -/
theorem Work.close_scheduled {w : Work} (serve : w.serveDue = false) (s0 : State) : w.close s0 = { w.toState with
    banks := (w.close s0).banks, comps := (w.close s0).comps, refillQueue := (w.close s0).refillQueue,
    link := (w.close s0).link } := by
  have frame : w.ScheduleWork w.wound := by
    unfold Work.wound
    rw [serve]
    dsimp only
    split
    · exact w.scheduleWork_evaluate
    · rfl
  unfold Work.ScheduleWork at frame
  rw [w.close_frame s0, frame]

theorem Work.close_onlyScheduled {w : Work} (serve : w.serveDue = false) (s0 : State) :
    OnlyScheduled w.toState (w.close s0) := by
  rw [Work.close_scheduled serve s0]
  exact ⟨rfl, rfl, rfl, rfl, rfl, rfl, rfl, rfl, rfl⟩

theorem onlyScheduled_trans {a b c : State} (h : OnlyScheduled a b) (g : OnlyScheduled b c) : OnlyScheduled a c := by
  obtain ⟨h1, h2, h3, h4, h5, h6, h7, h8, h9⟩ := h
  obtain ⟨g1, g2, g3, g4, g5, g6, g7, g8, g9⟩ := g
  exact ⟨g1.trans h1, g2.trans h2, g3.trans h3, g4.trans h4, g5.trans h5, g6.trans h6, g7.trans h7, g8.trans h8,
    g9.trans h9⟩

/-- A STOPPED compressor is STOPPED or STARTING after an evaluation (03, R51). -/
theorem Work.evaluate_stopped {w : Work} {k : CompId} (h : (w.comp k).state = .stopped) :
    (w.evaluate.comp k).state = .stopped ∨ (w.evaluate.comp k).state = .starting := by
  have visits : ∀ (e : QueueEntry) (v : Work),
      (v.comp k).state = .stopped ∨ (v.comp k).state = .starting →
      ((v.visit e).comp k).state = .stopped ∨ ((v.visit e).comp k).state = .starting := by
    intro e v before
    unfold Work.visit
    dsimp only
    split
    · split
      · exact before
      · split
        · next c _ =>
          rw [Work.assign_comp]
          split
          · exact .inr rfl
          · exact before
        · exact before
    · exact before
  unfold Work.evaluate
  split
  · exact Work.each_keeps (fun v u => (v.comp k).state = .stopped ∨ (v.comp k).state = .starting →
      (u.comp k).state = .stopped ∨ (u.comp k).state = .starting) (fun _ => id) (fun h g x => g (h x)) _ visits _ w
      (.inl h)
  · exact .inl h

theorem Work.close_stopped {w : Work} {k : CompId} (serve : w.serveDue = false) (h : (w.comp k).state = .stopped)
    (s0 : State) : ((w.close s0).comp k).state = .stopped ∨
      (((w.close s0).comp k).state = .starting ∧ Evaluates w.toState) := by
  have wound : (w.wound.comp k).state = .stopped ∨ ((w.wound.comp k).state = .starting ∧ Evaluates w.toState) := by
    unfold Work.wound
    rw [serve, if_neg Bool.false_ne_true]
    split
    · by_cases on : Evaluates w.toState
      · exact (Work.evaluate_stopped h).imp_right fun starting => ⟨starting, on⟩
      · rw [Work.evaluate_off on]
        exact .inl h
    · exact .inl h
  rw [w.close_frame s0]
  exact wound

/-! ### Routes -/

theorem Work.modComp_routes (w : Work) (k : CompId) {f : Compressor → Compressor}
    (bank : (f (w.comp k)).bank = (w.comp k).bank) : (w.modComp k f).routes = w.routes := by
  have same : ∀ j, ((w.modComp k f).comp j).bank = (w.comp j).bank := fun j => by
    rw [Work.modComp_comp]
    split
    · next here => rw [here, bank]
    · rfl
  unfold State.routes
  rw [same, same]
  rfl

end Sys2Proof.Machine
end

section
/-! The verbs of a compressor (03, R58, R59). -/
open Sys2Proof Sys2Proof.Machine
namespace Sys2Proof.Machine

/-- A verb that a record's state forbids (09, R164). -/
theorem portRequest_verb_state {r : Request} {s : State} {ref : RecordRef} {v : Verb} (hop : r.op = 3)
    (hw : r.tail.Whole v.argLength) (href : r.resolve s.port.window = .ok ref)
    (hv : verbOf ref r.field.toNat = some v) (hc : verbFails v r.tail.data (s.heard r) = [.state]) :
    portRequest r s = s.refusedWith r .state :=
  portRequest_verb_refused hop hw href hv (by rw [hc]; rfl) (by decide)

/-! ### A compressor written at the host's word -/

/-- A compressor's withheld flag or state written, and an evaluation owed. -/
def Work.rewriteComp (k : CompId) (f : Compressor → Compressor) (w : Work) : Work := (w.modComp k f).oweEval

/-- What a verb leaves that rewrites a compressor, which keeps its bank, and owes an evaluation (03, R49, R58, R59). -/
structure State.Rewritten (s : State) (k : CompId) (f : Compressor → Compressor) (r : Request) (t : State) : Prop where
  still : ¬ Evaluates s → t = { s.answered r with comps := s.comps.set k (f (s.comp k)) }
  taken : s.Taken t r
  only : OnlyScheduled s t
  withheld : (t.comp k).withheld = (f (s.comp k)).withheld
  state : (f (s.comp k)).state = .stopped → (t.comp k).state = .stopped ∨ ((t.comp k).state = .starting ∧ Evaluates s)
  made : EvaluationMade { s.answered r with comps := s.comps.set k (f (s.comp k)) } t

theorem State.rewritten_rule {s : State} {k : CompId} {f : Compressor → Compressor} (r : Request)
    (bank : (f (s.comp k)).bank = (s.comp k).bank) :
    s.Rewritten k f r (((s.heard r).rule (Work.rewriteComp k f)).recordResult .ok) := by
  have comp : (((s.heard r).begin.rewriteComp k f).comp k) = f (s.comp k) := Work.modComp_comp_self _ _ _
  have routes := (s.heard r).begin.modComp_routes k (f := f) bank
  have off : ¬ Evaluates s → (s.heard r).rule (Work.rewriteComp k f) = ((s.heard r).begin.rewriteComp k f).toState :=
    fun still => Work.close_off (w := (s.heard r).begin.rewriteComp k f) rfl still routes
  have scheduled := Work.close_scheduled (w := (s.heard r).begin.rewriteComp k f) rfl (s.heard r)
  have kept := (((s.heard r).begin.rewriteComp k f).settles_close (s.heard r)).comp k
  refine ⟨fun still => ?_, ?_, ?_, ?_, fun stopped => ?_, ?_⟩
  · rw [off still]
    rfl
  · unfold State.rule
    rw [scheduled]
    exact ⟨rfl, rfl⟩
  · have only : OnlyScheduled ((s.heard r).begin.rewriteComp k f).toState
        ((s.heard r).rule (Work.rewriteComp k f)) := Work.close_onlyScheduled rfl (s.heard r)
    obtain ⟨station, positions, holds, loops, waitList, powerQueue, suction, plans, notices⟩ := only
    generalize (s.heard r).rule (Work.rewriteComp k f) = t
      at station positions holds loops waitList powerQueue suction plans notices ⊢
    exact ⟨station, positions, holds, loops, waitList, powerQueue, suction, plans, notices⟩
  · rw [comp] at kept
    exact kept.withheld
  · have stops : (((s.heard r).rule (Work.rewriteComp k f)).comp k).state = .stopped ∨
        ((((s.heard r).rule (Work.rewriteComp k f)).comp k).state = .starting ∧ Evaluates s) :=
      Work.close_stopped (w := (s.heard r).begin.rewriteComp k f) rfl (by rw [comp]; exact stopped) _
    generalize (s.heard r).rule (Work.rewriteComp k f) = t at stops ⊢
    exact stops
  · have made := Work.close_evaluationMade (w := (s.heard r).begin.rewriteComp k f) rfl rfl (s.heard r)
      { s.port with lastResult := .ok } (s.reads r) s.link
    have answer : State.recordResult .ok ((s.heard r).rule (Work.rewriteComp k f)) =
        { ((s.heard r).begin.rewriteComp k f).close (s.heard r) with
          port := { s.port with lastResult := .ok }, hostOut := s.reads r } := by
      rw [State.recordResult_ok]
      unfold State.rule
      rw [scheduled]
      rfl
    rw [answer]
    exact made

end Sys2Proof.Machine

/-- Settles O20: each verb is one guarded rule; RELEASE and CLEAR_FAULT leave what `State.Rewritten` says. -/
theorem compressorVerbs : Obligations.CompressorVerbs := by
  unfold Obligations.CompressorVerbs
  intro k a tail s names whole
  have ref := fun code => addrRequest_resolve names (cls := 2) rfl 3 code tail
  refine ⟨fun free => ?_, fun withheld => ?_, fun withheld => ?_, fun free => ?_, fun faulted quiet => ?_,
    fun bad => ?_⟩
  · have passed : verbFails (.withhold k) tail.data (s.heard (addrRequest a 3 2 0 tail)) = [] :=
      orFail_pass (by show (!(s.comp k).withheld) = true; rw [free]; rfl) _
    have runs : exec (.withhold a tail) s = .next (State.recordResult .ok
        ((s.heard (addrRequest a 3 2 0 tail)).rule (Work.withholdVerb k))) :=
      congrArg Host.Outcome.next (portRequest_verb_taken (v := .withhold k) rfl whole (ref 0) rfl passed)
    have quiet : (s.heard (addrRequest a 3 2 0 tail)).rule (Work.withholdVerb k) =
        ((s.heard (addrRequest a 3 2 0 tail)).begin.withholdVerb k).toState :=
      Work.close_quiet rfl rfl (Work.modComp_routes _ k rfl)
    rw [runs, quiet]
    rfl
  · have failed : verbFails (.withhold k) tail.data (s.heard (addrRequest a 3 2 0 tail)) = [.state] :=
      orFail_fail (by show ¬ (!(s.comp k).withheld) = true; rw [withheld]; decide) _
    exact congrArg Host.Outcome.next (portRequest_verb_state (v := .withhold k) rfl whole (ref 0) rfl failed)
  · have passed : verbFails (.release k) tail.data (s.heard (addrRequest a 3 2 1 tail)) = [] := orFail_pass withheld _
    have runs : exec (.release a tail) s = .next (State.recordResult .ok
        ((s.heard (addrRequest a 3 2 1 tail)).rule (Work.rewriteComp k fun c => { c with withheld := false }))) :=
      congrArg Host.Outcome.next (portRequest_verb_taken (v := .release k) rfl whole (ref 1) rfl passed)
    have written := s.rewritten_rule (k := k) (f := fun c => { c with withheld := false })
      (addrRequest a 3 2 1 tail) rfl
    exact ⟨fun still => runs.trans (congrArg Host.Outcome.next (written.still still)),
      _, runs, written.taken, written.withheld, written.only, written.made⟩
  · have failed : verbFails (.release k) tail.data (s.heard (addrRequest a 3 2 1 tail)) = [.state] :=
      orFail_fail (by show ¬ (s.comp k).withheld = true; rw [free]; decide) _
    exact congrArg Host.Outcome.next (portRequest_verb_state (v := .release k) rfl whole (ref 1) rfl failed)
  · have passed : verbFails (.clearFault k) tail.data (s.heard (addrRequest a 3 2 2 tail)) = [] :=
      orFail_pass (by
        show ((s.comp k).state == .faulted && !s.station.inputs.fault.get k) = true
        rw [faulted, quiet]
        rfl) _
    have runs : exec (.clearFault a tail) s = .next (State.recordResult .ok
        ((s.heard (addrRequest a 3 2 2 tail)).rule (Work.rewriteComp k fun c => { c with state := .stopped }))) :=
      congrArg Host.Outcome.next (portRequest_verb_taken (v := .clearFault k) rfl whole (ref 2) rfl passed)
    have written := s.rewritten_rule (k := k) (f := fun c => { c with state := .stopped })
      (addrRequest a 3 2 2 tail) rfl
    exact ⟨fun still => runs.trans (congrArg Host.Outcome.next (written.still still)),
      _, runs, written.taken, written.state rfl, written.only, written.made⟩
  · have failed : verbFails (.clearFault k) tail.data (s.heard (addrRequest a 3 2 2 tail)) = [.state] :=
      orFail_fail (by
        show ¬ ((s.comp k).state == .faulted && !s.station.inputs.fault.get k) = true
        simp only [Bool.and_eq_true, beq_iff_eq, Bool.not_eq_true', not_and, Bool.not_eq_false]
        exact fun faulted => bad.resolve_left fun other => other faulted) _
    exact congrArg Host.Outcome.next (portRequest_verb_state (v := .clearFault k) rfl whole (ref 2) rfl failed)
end

section
/-! REFILL and CANCEL_REFILL (03, R43, R44, R46). -/
open Sys2Proof Sys2Proof.Machine
namespace Sys2Proof.Machine

/-! ### Joining the refill queue -/

theorem Work.joinQueue_held {w : Work} {b : BankId} (h : w.queued b = true) : w.joinQueue b = w := if_pos h

/-- A bank without an entry joins at the back of its class, with the clock as stamp (03, R43, R44). -/
theorem Work.joinQueue_back {w : Work} {b : BankId} (out : w.queued b = false) (law : w.QueueLaw) : w.joinQueue b =
    { w with
      refillQueue := QueuedAtBack w.toState { bank := b, stamp := w.station.clock }, evalDue := true } := by
  obtain ⟨_, _, order⟩ := law
  have absent : withoutBank b w.refillQueue = w.refillQueue := List.filter_eq_self.mpr fun e he => by
    have other := List.any_eq_false.mp out e he
    simpa using other
  have placed : placeBack w.priorities { bank := b, stamp := w.station.clock } w.refillQueue =
      QueuedAtBack w.toState { bank := b, stamp := w.station.clock } :=
    (congrArg (placeBack w.priorities _) absent.symm).trans (placeBack_eq order)
  rw [← placed]
  exact if_neg (by rw [out]; decide)

theorem Work.joinQueue_serveDue (w : Work) (b : BankId) : (w.joinQueue b).serveDue = w.serveDue := by
  unfold Work.joinQueue
  split <;> rfl

/-- A bank joins: the queue alone changes, and an evaluation may be owed. -/
theorem Work.joinQueue_onlyScheduled (w : Work) (b : BankId) : OnlyScheduled w.toState (w.joinQueue b).toState := by
  unfold Work.joinQueue
  split
  · exact ⟨rfl, rfl, rfl, rfl, rfl, rfl, rfl, rfl, rfl⟩
  · exact ⟨rfl, rfl, rfl, rfl, rfl, rfl, rfl, rfl, rfl⟩

/-- A pressure that is absent or below the high mark is not at it (03, R50). -/
theorem Bank.pressureAtHigh_low {k : Bank} (h : ∀ v, k.pressure = some v → v < k.high) : k.pressureAtHigh = false := by
  cases pressure : k.pressure with
  | none => unfold Bank.pressureAtHigh; rw [pressure]; rfl
  | some v => exact Bank.low_of pressure (h v pressure)

/-- What a REFILL leaves where an evaluation may follow (03, R44, R46, R49). -/
theorem rule_refill {s : State} {b : BankId} (low : ∀ v, (s.bank b).pressure = some v → v < (s.bank b).high) :
    let t := s.rule (Work.joinQueue b)
    s.Answers t ∧ (t.queued b = true ∨ (t.bank b).state = .refilling) ∧ s.SameSettings t ∧ OnlyScheduled s t := by
  have serve : (s.begin.joinQueue b).serveDue = false := Work.joinQueue_serveDue _ _
  have here : (s.begin.joinQueue b).queued b = true := by
    rw [Work.joinQueue_queued, decide_eq_true rfl, Bool.or_true]
  have settles : s.Settles (s.rule (Work.joinQueue b)) :=
    (s.begin.evolves_joinQueue b).toSettles.trans (Work.settles_close _ s)
  have scheduled := onlyScheduled_trans (s.begin.joinQueue_onlyScheduled b) (Work.close_onlyScheduled serve s)
  refine ⟨settles.answers, Work.close_queued here ?_ s, settles.sameSettings, scheduled⟩
  rw [Work.joinQueue_bank]
  exact Bank.pressureAtHigh_low low

theorem refill_allowed {s : State} {b : BankId} : (((s.bank b).state = .ready ∨ (s.bank b).state = .serving) ∧
    (s.bank b).atHigh = false) ↔
    (((s.bank b).state == .ready || (s.bank b).state == .serving) && !(s.bank b).atHigh) = true := by
  simp

end Sys2Proof.Machine

/-- Settles O19: either verb is one guarded rule that moves the bank's entry, and REFILL owes an evaluation. -/
theorem refillAndCancelMoveTheEntry : Obligations.RefillAndCancelMoveTheEntry := by
  unfold Obligations.RefillAndCancelMoveTheEntry
  intro b a tail s names whole
  have ref := fun code => addrRequest_resolve names (cls := 1) rfl 3 code tail
  refine ⟨fun mayWait low => ?_, fun barred => ?_, fun queued => ?_, fun out => ?_⟩
  · have passed : verbFails (.refill b) tail.data (s.heard (addrRequest a 3 1 2 tail)) = [] :=
      orFail_pass (refill_allowed.mp ⟨mayWait, low⟩) _
    have runs : exec (.refill a tail) s = .next (State.recordResult .ok
        ((s.heard (addrRequest a 3 1 2 tail)).rule (Work.joinQueue b))) :=
      congrArg Host.Outcome.next (portRequest_verb_taken (v := .refill b) rfl whole (ref 2) rfl passed)
    refine ⟨fun queued => ?_, fun out law off => ?_, fun out on below => ?_⟩
    · have same : (s.heard (addrRequest a 3 1 2 tail)).rule (Work.joinQueue b) = s.heard (addrRequest a 3 1 2 tail) :=
        State.rule_id (Work.joinQueue_held (w := (s.heard (addrRequest a 3 1 2 tail)).begin) queued)
      rw [runs, same]
      rfl
    · have joined := Work.joinQueue_back (w := (s.heard (addrRequest a 3 1 2 tail)).begin) out law
      have still : (s.heard (addrRequest a 3 1 2 tail)).rule (Work.joinQueue b) =
          ((s.heard (addrRequest a 3 1 2 tail)).begin.joinQueue b).toState := by
        unfold State.rule
        rw [joined]
        exact Work.close_off rfl off rfl
      rw [runs, still, joined]
      rfl
    · obtain ⟨answers, placed, settings, only⟩ := rule_refill (s := s.heard (addrRequest a 3 1 2 tail)) (b := b) below
      obtain ⟨station, positions, holds, loops, waitList, _⟩ := only
      generalize (s.heard (addrRequest a 3 1 2 tail)).rule (Work.joinQueue b) = t
        at runs answers placed settings station positions holds loops waitList
      exact ⟨_, runs, answers.taken, placed, settings, station, positions, holds, loops, waitList⟩
  · have failed : verbFails (.refill b) tail.data (s.heard (addrRequest a 3 1 2 tail)) = [.state] :=
      orFail_fail (mt refill_allowed.mpr barred) _
    exact congrArg Host.Outcome.next (portRequest_verb_state (v := .refill b) rfl whole (ref 2) rfl failed)
  · have passed : verbFails (.cancelRefill b) tail.data (s.heard (addrRequest a 3 1 3 tail)) = [] :=
      orFail_pass queued _
    have runs : exec (.cancelRefill a tail) s = .next (State.recordResult .ok
        ((s.heard (addrRequest a 3 1 3 tail)).rule (Work.leaveQueue b))) :=
      congrArg Host.Outcome.next (portRequest_verb_taken (v := .cancelRefill b) rfl whole (ref 3) rfl passed)
    have still : (s.heard (addrRequest a 3 1 3 tail)).rule (Work.leaveQueue b) =
        ((s.heard (addrRequest a 3 1 3 tail)).begin.leaveQueue b).toState := Work.close_quiet rfl rfl rfl
    rw [runs, still]
    rfl
  · have failed : verbFails (.cancelRefill b) tail.data (s.heard (addrRequest a 3 1 3 tail)) = [.state] :=
      orFail_fail (Bool.eq_false_iff.mp out) _
    exact congrArg Host.Outcome.next (portRequest_verb_state (v := .cancelRefill b) rfl whole (ref 3) rfl failed)
end

section
/-! A refill given back, and the FAULT inputs (03, R45, R57). -/
open Sys2Proof Sys2Proof.Machine
namespace Sys2Proof.Machine

/-! ### What the end of a rule leaves a bank -/

/-- A compressor that is not STOPPED claims nothing it did not claim. -/
def Work.NoNewClaim (k : CompId) (w t : Work) : Prop := (w.comp k).state ≠ .stopped →
  t.comp k = w.comp k ∧ ∀ b, (t.bank b).claimant = some (.comp k) → (w.bank b).claimant = some (.comp k)

theorem Work.NoNewClaim.trans {k : CompId} {w t u : Work} (h : Work.NoNewClaim k w t) (g : Work.NoNewClaim k t u) :
    Work.NoNewClaim k w u := fun busy => by
  obtain ⟨comp, claims⟩ := h busy
  obtain ⟨comp', claims'⟩ := g (by rw [comp]; exact busy)
  exact ⟨comp'.trans comp, fun b e => claims b (claims' b e)⟩

theorem Work.noNewClaim_visit (w : Work) (e : QueueEntry) (k : CompId) : Work.NoNewClaim k w (w.visit e) := by
  unfold Work.visit
  dsimp only
  split
  · split
    · exact fun _ => ⟨rfl, fun _ => id⟩
    · split
      · next c chosen =>
        intro busy
        have other : k ≠ c := by
          rintro rfl
          exact busy (State.chooseComp_stopped chosen)
        refine ⟨Work.modComp_comp_ne _ _ other, fun b claimed => ?_⟩
        have bank : (w.assign c e.bank).bank b = if b = e.bank then (w.bank e.bank).claim (.comp c) else w.bank b :=
          Work.modBank_bank (w.leaveQueue e.bank) e.bank b _
        rw [bank] at claimed
        split at claimed
        · next here =>
          rw [here]
          exact Bank.claim_other (by simpa using other.symm) claimed
        · exact claimed
      · exact fun _ => ⟨rfl, fun _ => id⟩
  · exact fun _ => ⟨rfl, fun _ => id⟩

theorem Work.noNewClaim_wound (w : Work) (k : CompId) : Work.NoNewClaim k w w.wound := by
  have served : Work.NoNewClaim k w (if w.serveDue then w.serveWaiting else w) := by
    split
    · refine fun _ => ⟨congrArg (·.get k) w.serves_serveWaiting.comps, fun b => ?_⟩
      unfold State.bank
      rw [w.serves_serveWaiting.banks]
      exact id
    · exact fun _ => ⟨rfl, fun _ => id⟩
  have evaluated : ∀ v : Work, Work.NoNewClaim k v v.evaluate := fun v => by
    unfold Work.evaluate
    split
    · exact Work.each_keeps (Work.NoNewClaim k) (fun _ _ => ⟨rfl, fun _ => id⟩) .trans _
        (fun e u => u.noNewClaim_visit e k) _ v
    · exact fun _ => ⟨rfl, fun _ => id⟩
  unfold Work.wound
  dsimp only
  split
  · exact served.trans (evaluated _)
  · exact served

/-- The end of a rule gives a compressor that is not STOPPED no bank. -/
theorem Work.close_unclaimed {w : Work} {k : CompId} {b : BankId} (busy : (w.comp k).state ≠ .stopped)
    (free : (w.bank b).claimant ≠ some (.comp k)) (s0 : State) :
    ((w.close s0).bank b).claimant ≠ some (.comp k) := by
  have unclaimed : (w.wound.bank b).claimant ≠ some (.comp k) := mt ((w.noNewClaim_wound k busy).2 b) free
  rw [w.close_frame s0]
  exact unclaimed

/-- The end of a rule leaves yield counts. -/
theorem Work.close_yields (w : Work) (s0 : State) (b : BankId) :
    ((w.close s0).bank b).yields = (w.bank b).yields := by
  obtain ⟨same, _⟩ | ⟨_, k, taken⟩ := w.close_bank s0 b
  · rw [same]
  · rw [taken]
    exact Bank.claim_yields _ _

/-! ### A refill given back -/

/-- A bank given back is no compressor's before the rule ends. -/
theorem Work.giveBack_unclaimed {w : Work} {k : CompId} {b : BankId} (held : w.heldBy (.comp k) b = true) (j : CompId) :
    ((w.giveBack k b).bank b).claimant ≠ some (.comp j) := by
  have ready : (((w.makeReady b).frontQueue b).bank b).claimant = none :=
    congrArg Bank.claimant (Work.modBank_bank_self w b _)
  unfold Work.giveBack
  rw [if_pos held]
  intro claimed
  have before := (Work.hands_offerBank ((w.makeReady b).frontQueue b) b).claimant j claimed
  rw [ready] at before
  cases before

/-- A bank given back with no position waiting (03, R45). -/
theorem Work.giveBack_givenBack {w : Work} {k : CompId} {b : BankId} (nobody : w.waitList = [])
    (held : w.heldBy (.comp k) b = true) : w.GivenBack (w.giveBack k b) b := by
  have bank : ∀ c, (w.makeReady b).bank c =
      if c = b then (w.bank b).enterReady w.station.clock w.station.leakWindow else w.bank c :=
    fun c => Work.modBank_bank w b c _
  rw [Work.giveBack_nobody nobody held]
  constructor
  · show ((w.makeReady b).bank b).state = .ready
    rw [bank, if_pos rfl]
    rfl
  · show placeFront (fun x => ((w.makeReady b).bank x).priority) _ _ = _
    congr 1
    funext c
    rw [bank]
    split
    · next e => rw [e]; exact Bank.enterReady_priority _ _ _
    · rfl

/-! ### FAULT inputs -/

/-- A compressor that refills nothing becomes FAULTED, with N12 (03, R57). -/
theorem Work.faultComp_idle {w : Work} {k : CompId} (idle : (w.comp k).active = false) :
    w.faultComp k = (w.modComp k Compressor.fault).raise 12 :=
  if_neg (by rw [idle]; decide)

/-- A compressor that refilled is FAULTED, with N12, its draw released. -/
def Work.faulted (k : CompId) (w : Work) : Work := ((w.modComp k Compressor.fault).raise 12).releasedDraw

/-- It gives its bank back (03, R45, R57). -/
theorem Work.faultComp_refilling {w : Work} {k : CompId} {b : BankId} (active : (w.comp k).active = true)
    (bank : (w.comp k).bank = some b) : w.faultComp k = (w.faulted k).giveBack k b := by
  refine (if_pos active).trans ?_
  rw [bank]
  rfl

theorem Work.evolves_faulted (w : Work) (k : CompId) : w.Evolves (w.faulted k) :=
  (Work.Evolves.modComp ⟨rfl, rfl, rfl, rfl, rfl⟩ fun active => by cases active).trans (Work.evolves_raise _ 12)

theorem Work.faulted_comp (w : Work) (k : CompId) : (w.faulted k).comp k = (w.comp k).fault :=
  Work.modComp_comp_self w k _

theorem Work.faulted_requested (w : Work) (k : CompId) : (w.faulted k).requested 12 := by
  show (w.notices.requests ||| BitVec.twoPow 16 12).getLsbD 12 = true
  simp

/-- What stands of the state once a FAULT input has gone active. -/
def State.faultSeen (s : State) (k : CompId) : State :=
  { s with
    station := { s.station with inputs := { s.station.inputs with fault := s.station.inputs.fault.set k true } } }

theorem execFaultActive_rule (k : CompId) (s : State) :
    exec (.faultActive k) s = .next (((s.faultSeen k).begin.faultComp k).close s) := rfl

end Sys2Proof.Machine

/-- Settles O21: a compressor without a bank only changes its own record; one that refills gives its bank back, and
what the rule owes at its end cannot reach a FAULTED compressor. -/
theorem faultMakesTheCompressorFaulted : Obligations.FaultMakesTheCompressorFaulted := by
  unfold Obligations.FaultMakesTheCompressorFaulted
  refine fun k s => ⟨fun idle none => ?_, fun b active bank claimant refilling => ?_⟩
  · rw [execFaultActive_rule, Work.faultComp_idle (w := (s.faultSeen k).begin) idle]
    have routes : ((s.faultSeen k).begin.modComp k Compressor.fault).routes = s.routes :=
      Work.modComp_routes (w := (s.faultSeen k).begin) k none.symm
    exact congrArg Host.Outcome.next (Work.close_quiet rfl rfl routes)
  · rw [execFaultActive_rule, Work.faultComp_refilling (w := (s.faultSeen k).begin) active bank]
    have evolves := (s.faultSeen k).begin.evolves_faulted k
    have record := (s.faultSeen k).begin.faulted_comp k
    have raised := (s.faultSeen k).begin.faulted_requested k
    have held : ((s.faultSeen k).begin.faulted k).heldBy (.comp k) b = true :=
      State.heldBy_refilling (s := s) claimant refilling
    have same : ((s.faultSeen k).begin.faulted k).bank b = s.bank b := rfl
    have hands := Work.hands_giveBack ((s.faultSeen k).begin.faulted k) k b
    have given := ((s.faultSeen k).begin.faulted k).evolves_giveBack k b
    have settles := evolves.toSettles.trans (given.toSettles.trans (Work.settles_close _ s))
    have faulted : (((s.faultSeen k).begin.faulted k).giveBack k b).comp k = (s.comp k).fault :=
      (congrArg (·.get k) hands.comps).trans record
    have busy : ((((s.faultSeen k).begin.faulted k).giveBack k b).comp k).state ≠ .stopped := by
      rw [faulted]
      exact fun stopped => by cases stopped
    refine ⟨_, rfl, settles.station, (Work.close_comp_busy busy s).trans faulted,
      (given.toSettles.trans (Work.settles_close _ s)).requested raised,
      Work.close_unclaimed busy (Work.giveBack_unclaimed held k) s, ?_, fun nobody off law => ?_, settles.sameSettings,
      settles.holds, settles.port⟩
    · rw [Work.close_yields, hands.yields, same]
    · have back := Work.giveBack_givenBack (w := (s.faultSeen k).begin.faulted k) nobody held
      have still : (((s.faultSeen k).begin.faulted k).giveBack k b).Unevaluated := by
        refine .inl fun on => off ?_
        rw [given.station, given.suction] at on
        exact on
      obtain ⟨banks, _, order⟩ := still.close s
      refine ⟨(congrArg (fun x => (x.get b).state) banks).trans back.ready, (order.trans back.queue).trans ?_⟩
      exact placeFront_eq (e := { bank := b, stamp := s.station.clock }) law.2.2
end

section
/-! SUPPORT. A pressure sample of a REFILLING bank, and a refill that completes (03, R52, R53). -/
open Sys2Proof Sys2Proof.Machine
namespace Sys2Proof.Machine

/-! ### A pressure sample of a REFILLING bank -/

/-- New pressure and flags of a REFILLING bank put it on no queue (02, R23). -/
theorem Work.repressed_refilling {w : Work} {b : BankId} (refilling : (w.bank b).state = .refilling) (v : Nat) :
    w.repressed b v = w.modBank b (fun k => k.pressed v) := by
  have stays : ¬((w.bank b).state = .ready ∨ (w.bank b).state = .serving) := by
    rw [refilling]
    decide
  have flagged : w.repressed b v = (w.modBank b (fun k => { k with pressure := some v })).modBank b Bank.withFlags := by
    unfold Work.repressed Work.reflag
    refine if_neg fun joins => stays ?_
    have mayJoin := joins.2.2
    rw [Work.modBank_bank_self] at mayJoin
    exact mayJoin
  rw [flagged]
  unfold Work.modBank State.bank
  dsimp only
  rw [get_set_eq, if_pos rfl, Vector.set_set]
  rfl

theorem Bank.pressed_eq (k : Bank) (v : Nat) : k.pressed v =
    { k with pressure := some v, belowLow := decide (v < k.low), atHigh := decide (k.high ≤ v) } := rfl

/-- A pressure within the rated one of a bank that a compressor refills goes to the compressor (02, R24). -/
theorem afterPressure_refilling {s : State} {k : CompId} {b : BankId} {v : Nat}
    (refilling : (s.bank b).state = .refilling) (claimed : (s.bank b).claimant = some (.comp k))
    (within : v ≤ (s.bank b).rated) : s.afterPressure b v =
      ((((s.sampled (.bankP b) v).modBank b (fun x => x.pressed v)).pressureToComp k b)).close s := by
  have bank : ((s.sampled (.bankP b) v).modBank b (fun x => x.pressed v)).bank b = (s.bank b).pressed v :=
    Work.modBank_bank_self _ _ _
  have rated : ((s.bank b).pressed v).overRated = false := decide_eq_false (Nat.not_lt.mpr within)
  have state : ((s.bank b).pressed v).state = .refilling := refilling
  have claimant : ((s.bank b).pressed v).claimant = some (.comp k) := claimed
  have judged := Work.bankPressure_judged (w := s.sampled (.bankP b) v) (b := b) (by
    rw [State.sampled_bank, refilling]
    decide) v
  unfold State.afterPressure
  rw [judged, show ((s.sampled (.bankP b) v).modBank b (fun k => { k with pressure := some v })).reflag b =
    (s.sampled (.bankP b) v).modBank b (fun x => x.pressed v) from Work.repressed_refilling refilling v]
  unfold Work.judgePressure
  dsimp only
  rw [bank, if_neg (by simp [rated]), state, claimant]

/-! ### A refill that completes -/

/-- The completed refill is counted: the compressor unloads, the bank's yield count is 0 (03, R53). -/
def Work.refilled (k : CompId) (b : BankId) (w : Work) : Work :=
  ((w.unloadComp k).modComp k (fun c => { c with refills := c.refills + 1 })).modBank b
    (fun x => { x with yields := 0 })

theorem Work.completeRefill_eq {w : Work} {k : CompId} {b : BankId} (bank : (w.comp k).bank = some b) :
    w.completeRefill k = (w.refilled k b).releaseBank (.comp k) b := by
  unfold Work.completeRefill
  rw [bank]
  rfl

theorem Work.refilled_comp (w : Work) (k : CompId) (b : BankId) :
    (w.refilled k b).comp k = { Unloading (w.comp k) with refills := (w.comp k).refills + 1 } := by
  unfold Work.refilled Work.unloadComp
  rw [Work.modBank_comp, Work.modComp_comp_self]
  show { (w.modComp k Compressor.unload).comp k with
    refills := ((w.modComp k Compressor.unload).comp k).refills + 1 } = _
  rw [Work.modComp_comp_self]
  rfl

theorem Work.refilled_bank (w : Work) (k : CompId) (b : BankId) :
    (w.refilled k b).bank b = { w.bank b with yields := 0 } := Work.modBank_bank_self _ _ _

/-- Eligibility for the freed bank is eligibility for it as it was. -/
theorem Work.refilled_eligible (w : Work) (k : CompId) (b : BankId) (e : WaitEntry) :
    EligibleFor ((w.refilled k b).freeBank b).toState b e ↔ EligibleFor w.toState b e := by
  obtain ⟨tier, _, _, _, _, pressure, _⟩ := ((w.refilled k b).bank b).withFlags_settings
  refine eligibleFor_congr ?_ ?_ e <;> rw [Work.freeBank_bank]
  · exact tier.trans (by rw [Work.refilled_bank])
  · exact pressure.trans (by rw [Work.refilled_bank])

/-- What a rule leaves that ends with a completed refill. -/
structure Work.Completed (w : Work) (k : CompId) (b : BankId) (t : State) : Prop where
  comp : t.comp k = { Unloading (w.comp k) with refills := (w.comp k).refills + 1 }
  yields : (t.bank b).yields = 0
  free : (t.bank b).claimant ≠ some (.comp k)
  levelled : (t.bank b).Levelled
  settles : State.Settles w.toState t

section
variable {w : Work} {k : CompId} {b : BankId} (bank : (w.comp k).bank = some b)
  (claimant : (w.bank b).claimant = some (.comp k)) (refilling : (w.bank b).state = .refilling)
include bank claimant refilling

theorem Work.completeRefill_frees : w.completeRefill k = ((w.refilled k b).freeBank b).offerBank b := by
  have held : (w.refilled k b).heldBy (.comp k) b = true := by
    refine State.heldBy_refilling ?_ ?_ <;> rw [Work.refilled_bank]
    · exact claimant
    · exact refilling
  rw [Work.completeRefill_eq bank, Work.releaseBank_held held]

theorem Work.completeRefill_comp :
    (w.completeRefill k).comp k = { Unloading (w.comp k) with refills := (w.comp k).refills + 1 } := by
  have hands := ((w.refilled k b).hands_freeBank b).trans (Work.hands_offerBank _ b)
  rw [Work.completeRefill_frees bank claimant refilling, ← w.refilled_comp k b]
  exact congrArg (·.get k) hands.comps

theorem Work.completeRefill_completed (s0 : State) : w.Completed k b ((w.completeRefill k).close s0) := by
  have comp := Work.completeRefill_comp bank claimant refilling
  have busy : ((w.completeRefill k).comp k).state ≠ .stopped := by
    rw [comp]
    exact fun stopped => by cases stopped
  have freed : ((w.refilled k b).freeBank b).bank b = _ := (w.refilled k b).freeBank_bank b
  have hands := Work.hands_offerBank ((w.refilled k b).freeBank b) b
  have frees := Work.completeRefill_frees bank claimant refilling
  refine ⟨(Work.close_comp_busy busy s0).trans comp, ?_, Work.close_unclaimed busy (fun claimed => ?_) s0,
    Bank.Levelled.close ?_ s0, (w.evolves_completeRefill k).toSettles.trans (Work.settles_close _ s0)⟩
  · rw [Work.close_yields, frees, hands.yields, ((w.refilled k b).hands_freeBank b).yields, Work.refilled_bank]
  · rw [frees] at claimed
    have before := hands.claimant k claimed
    rw [freed] at before
    cases before
  · rw [frees]
    refine (Work.level_offerBank b _ b).fits ?_
    rw [freed]
    exact Bank.levelled_enterReady _ _ _

/-- With no eligible entry the bank of a completed refill is READY (02, R37). -/
theorem Work.completeRefill_ready (nobody : ∀ e ∈ w.waitList, ¬ EligibleFor w.toState b e) :
    w.completeRefill k = (w.refilled k b).freeBank b := by
  rw [Work.completeRefill_frees bank claimant refilling]
  refine Work.offerBank_ineligible fun e he => ?_
  rw [((w.refilled k b).freeBank_lists b).2.1] at he
  exact mt (w.refilled_eligible k b e).mp (nobody e he)

/-- With no eligible entry, and no evaluation, the rule ends with the bank READY and the positions untouched. -/
theorem Work.completeRefill_idle (nobody : ∀ e ∈ w.waitList, ¬ EligibleFor w.toState b e)
    (off : ¬ Evaluates w.toState) (s0 : State) : let t := (w.completeRefill k).close s0
    t.bank b = { w.bank b with yields := 0 }.enterReady w.station.clock w.station.leakWindow ∧
      t.positions = w.positions := by
  have evolves := w.evolves_completeRefill k
  have still : (w.completeRefill k).Unevaluated := .inl fun on => off (by
    rw [evolves.station, evolves.suction] at on
    exact on)
  obtain ⟨banks, _, _⟩ := still.close s0
  refine ⟨?_, ?_⟩
  · rw [← w.refilled_bank k b]
    refine (congrArg (·.get b) banks).trans ?_
    rw [Work.completeRefill_ready bank claimant refilling nobody]
    exact (w.refilled k b).freeBank_bank b
  · rw [Work.close_positions, Work.completeRefill_ready bank claimant refilling nobody]
    exact ((w.refilled k b).freeBank_lists b).1

/-- The oldest eligible entry, of a position in PULSING without a bank, takes the bank (02, R37; 05, R95). -/
theorem Work.completeRefill_served {older younger : List WaitEntry} {e : WaitEntry}
    (list : w.waitList = older ++ e :: younger) (before : ∀ x ∈ older, ¬ EligibleFor w.toState b x)
    (serves : EligibleFor w.toState b e) (pulsing : (w.pos e.pos).ses.state = .pulsing)
    (bare : (w.pos e.pos).ses.current = none) (s0 : State) : let t := (w.completeRefill k).close s0
    (t.bank b).state = .serving ∧ (t.bank b).claimant = some (.pos e.pos) ∧
      (t.pos e.pos).ses.current = some b := by
  intro t
  obtain ⟨positions, waitList, _⟩ := (w.refilled k b).freeBank_lists b
  have pos : ((w.refilled k b).freeBank b).pos e.pos = w.pos e.pos := congrArg (·.get e.pos) positions
  have ready := (w.refilled k b).freeBank_ready b
  have eligible := w.refilled_eligible k b
  have taken : w.completeRefill k = _ := (Work.completeRefill_frees bank claimant refilling).trans
    (Work.offerBank_pulse ready (waitList.trans list) (fun x hx => mt (eligible x).mp (before x hx))
      ((eligible e).mpr serves) (by rw [pos]; exact pulsing) (by rw [pos]; exact bare))
  obtain ⟨serving, claims, _, _, _, own⟩ := Work.served_modPos ready e.pos (Position.startPulse b)
  rw [← taken] at serving claims own
  have same : t.bank b = (w.completeRefill k).bank b :=
    Work.close_bank_unready (by rw [serving]; decide) s0
  refine ⟨same ▸ serving, same ▸ claims, ?_⟩
  rw [show t.pos e.pos = (w.completeRefill k).pos e.pos from Work.close_pos _ _ _, own]
  rfl

end

end Sys2Proof.Machine
end

section
/-! The timers of a compressor, completion at a sample, and the suction condition (03, R45, R48 to R55). -/
open Sys2Proof Sys2Proof.Machine
namespace Sys2Proof.Machine

/-! ### The start timer -/

/-- A compressor that starts runs. -/
def Compressor.run (c : Compressor) : Compressor := { c with state := .running, startTimer := none }

theorem execStartTimerExpiry_due {k : CompId} {s : State} (timer : (s.comp k).startTimer.isSome = true)
    (starting : (s.comp k).state = .starting) :
    exec (.startTimerExpiry k) s = .next ((s.begin.startExpiry k).close s) :=
  congrArg Host.Outcome.next (if_pos ⟨timer, starting⟩)

theorem execStartTimerExpiry_idle {k : CompId} {s : State}
    (idle : (s.comp k).startTimer = none ∨ (s.comp k).state ≠ .starting) : exec (.startTimerExpiry k) s = .next s := by
  refine congrArg Host.Outcome.next (if_neg fun due => ?_)
  obtain off | other := idle
  · rw [off] at due
    exact absurd due.1 (by decide)
  · exact other due.2

/-- The start timer of a compressor whose bank is below its high mark (03, R52). -/
theorem Work.startExpiry_low {w : Work} {k : CompId} {b : BankId} (bank : (w.comp k).bank = some b)
    (low : (w.bank b).pressureAtHigh = false) : w.startExpiry k = w.modComp k Compressor.run := by
  unfold Work.startExpiry
  dsimp only
  rw [bank]
  exact if_neg (by rw [low]; decide)

/-- The start timer of a compressor whose bank is at its high mark (03, R52). -/
theorem Work.startExpiry_high {w : Work} {k : CompId} {b : BankId} (bank : (w.comp k).bank = some b)
    (high : (w.bank b).pressureAtHigh = true) : w.startExpiry k = (w.modComp k Compressor.run).completeRefill k := by
  unfold Work.startExpiry
  dsimp only
  rw [bank]
  exact if_pos high

/-- A refill completes at a bank with a known pressure: the flag is that of the pressure. -/
theorem Work.Completed.atHigh {w : Work} {k : CompId} {b : BankId} {t : State} (h : w.Completed k b t) {v : Nat}
    (pressure : (w.bank b).pressure = some v) (high : (w.bank b).high ≤ v) :
    (t.bank b).pressure = some v ∧ (t.bank b).atHigh = true := by
  have kept := h.settles.bank b
  have known := kept.pressure.trans pressure
  refine ⟨known, (h.levelled v known).2.trans (decide_eq_true ?_)⟩
  rw [kept.high]
  exact high

/-- What the expiry of the start timer leaves where the bank is at its high mark (03, R52, R53). -/
theorem startExpiry_completes {k : CompId} {b : BankId} {s : State} {v : Nat} (starting : (s.comp k).state = .starting)
    (bank : (s.comp k).bank = some b) (pressure : (s.bank b).pressure = some v) (high : (s.bank b).high ≤ v)
    (claimant : (s.bank b).claimant = some (.comp k)) (refilling : (s.bank b).state = .refilling) :
    let t := (s.begin.startExpiry k).close s
    t.comp k = { s.comp k with
      state := .unloading, bank := none, startTimer := none,
      unloadTimer := some ((s.comp k).unloadTime * 1000), refills := (s.comp k).refills + 1 } ∧
    (t.bank b).yields = 0 ∧ (t.bank b).claimant ≠ some (.comp k) ∧
    (s.waitList = [] → ¬ Evaluates s → (t.bank b).state = .ready ∧ (t.bank b).atHigh = true) ∧
    s.SameSettings t ∧ t.holds = s.holds ∧ t.port = s.port ∧ t.station = s.station := by
  have comp : (s.begin.modComp k Compressor.run).comp k = (s.comp k).run := Work.modComp_comp_self _ _ _
  have runs : ((s.begin.modComp k Compressor.run).comp k).bank = some b := by
    rw [comp]
    exact bank
  have active : (s.comp k).active = true := by
    unfold Compressor.active
    rw [starting]
    rfl
  have settled : State.Settles s (s.begin.modComp k Compressor.run).toState :=
    (Work.Evolves.modComp (w := s.begin) ⟨rfl, rfl, rfl, rfl, rfl⟩ fun _ => active).toSettles
  have completed := Work.completeRefill_completed (w := s.begin.modComp k Compressor.run) runs claimant refilling s
  have idle := Work.completeRefill_idle (w := s.begin.modComp k Compressor.run) runs claimant refilling
  have whole := settled.trans completed.settles
  have full : (s.begin.bank b).pressureAtHigh = true := by
    rw [Bank.pressureAtHigh_of (k := s.begin.bank b) pressure]
    exact decide_eq_true high
  rw [Work.startExpiry_high (w := s.begin) bank full]
  refine ⟨completed.comp.trans ?_, completed.yields, completed.free, fun nobody off => ⟨?_, ?_⟩, whole.sameSettings,
    whole.holds, whole.port, whole.station⟩
  · rw [comp]
    rfl
  · have nobody' : (s.begin.modComp k Compressor.run).waitList = [] := nobody
    obtain ⟨ready, _⟩ := idle (by rw [nobody']; exact fun e he => by cases he) off s
    rw [ready]
    rfl
  · exact (completed.atHigh pressure high).2

/-! ### Completion at a sample -/

/-- A sample at or above the high mark completes the refill of a RUNNING compressor (03, R53). -/
theorem refillCompletesAtASample (k : CompId) (s : State) : RefillCompletesAtASample k s := by
  intro b lo hi check v rx hv range sum running bank claimant refilling within high
  obtain ⟨t, runs, ends, took⟩ := pressureFrame_taken rx hv range sum
  have own : ((s.sampled (.bankP b) v).modBank b (fun x => x.pressed v)).bank b = (s.bank b).pressed v :=
    Work.modBank_bank_self _ _ _
  have pressure : ((s.bank b).pressed v).pressure = some v := rfl
  have full : ((s.bank b).pressed v).pressureAtHigh = true := decide_eq_true high
  have after : t = (((s.sampled (.bankP b) v).modBank b (fun x => x.pressed v)).completeRefill k).close s := by
    refine ends.trans ((afterPressure_refilling refilling claimant within).trans (congrArg (Work.close s) ?_))
    exact if_pos ⟨running, by rw [own]; exact full⟩
  have level : ∀ e, EligibleFor ((s.sampled (.bankP b) v).modBank b (fun x => x.pressed v)).toState b e ↔
      (s.bank b).tier ∈ e.tiers ∧ e.need ≤ v := fun e => by
    rw [eligibleFor_some (by rw [own]; exact pressure), own]
    exact Iff.rfl
  have bank' : (((s.sampled (.bankP b) v).modBank b (fun x => x.pressed v)).comp k).bank = some b := bank
  have list : ((s.sampled (.bankP b) v).modBank b (fun x => x.pressed v)).waitList = s.waitList := rfl
  have comp : ((s.sampled (.bankP b) v).modBank b (fun x => x.pressed v)).comp k = s.comp k := rfl
  have pos : ∀ p, ((s.sampled (.bankP b) v).modBank b (fun x => x.pressed v)).pos p = s.pos p := fun _ => rfl
  have positions : ((s.sampled (.bankP b) v).modBank b (fun x => x.pressed v)).positions = s.positions := rfl
  have evaluates : Evaluates ((s.sampled (.bankP b) v).modBank b (fun x => x.pressed v)).toState → Evaluates s := id
  have station : ((s.sampled (.bankP b) v).modBank b (fun x => x.pressed v)).station = s.station := rfl
  refine ⟨t, runs, ?_⟩
  have holds := took.holds
  have port := took.port
  have settings := took.settings
  rw [after] at holds port settings ⊢
  generalize (s.sampled (.bankP b) v).modBank b (fun x => x.pressed v) = w
    at own level bank' list comp pos positions evaluates station holds port settings ⊢
  have claimant' : (w.bank b).claimant = some (.comp k) := by
    rw [own]
    exact claimant
  have refilling' : (w.bank b).state = .refilling := by
    rw [own]
    exact refilling
  have completed := Work.completeRefill_completed bank' claimant' refilling' s
  obtain ⟨known, flag⟩ := completed.atHigh (v := v) (by rw [own]; exact pressure) (by rw [own]; exact high)
  refine ⟨completed.comp.trans (by rw [comp]), known, flag, completed.yields, completed.free, fun nobody off => ?_,
    fun older younger e split before tier need pulsing bare => ?_, settings, holds, port,
    completed.settles.station.trans station⟩
  · obtain ⟨ready, still⟩ := Work.completeRefill_idle bank' claimant' refilling'
      (fun e he => mt (level e).mp (nobody e (list ▸ he))) (mt evaluates off) s
    rw [ready, own]
    exact ⟨rfl, rfl, still.trans positions⟩
  · exact Work.completeRefill_served bank' claimant' refilling' (list.trans split)
      (fun x hx => mt (level x).mp (before x hx)) ((level e).mpr ⟨tier, need⟩) (by rw [pos]; exact pulsing)
      (by rw [pos]; exact bare) s

/-! ### The end of a rule that owes an evaluation -/

/-- The evaluation made at the end of a rule, whatever the field link was before. -/
theorem Work.close_evaluated {w : Work} (serve : w.serveDue = false) (due : w.evalDue = true) (s0 : State)
    (l : FieldLink) : EvaluationMade { w.toState with link := l } (w.close s0) := by
  have settles := w.settles_close s0
  have made := Work.close_evaluationMade serve due s0 w.port w.hostOut l
  have same : ({ w.close s0 with port := w.port, hostOut := w.hostOut } : State) = w.close s0 := by
    rw [← settles.port, ← settles.hostOut]
  rw [same] at made
  exact made

/-- An evaluation starts no unload timer, and stops none (03, R51). -/
theorem Work.close_unloadTimer (w : Work) (s0 : State) (k : CompId) :
    ((w.close s0).comp k).unloadTimer = (w.comp k).unloadTimer := by
  have visits : ∀ (e : QueueEntry) (v : Work), ((v.visit e).comp k).unloadTimer = (v.comp k).unloadTimer := by
    intro e v
    unfold Work.visit
    dsimp only
    split
    · split
      · rfl
      · split
        · rw [Work.assign_comp]
          split
          · next here => rw [here]; rfl
          · rfl
        · rfl
    · rfl
  have served : ((if w.serveDue then w.serveWaiting else w).comp k).unloadTimer = (w.comp k).unloadTimer := by
    split
    · exact congrArg (fun x => (x.get k).unloadTimer) w.serves_serveWaiting.comps
    · rfl
  have evaluated : ∀ v : Work, (v.evaluate.comp k).unloadTimer = (v.comp k).unloadTimer := fun v => by
    unfold Work.evaluate
    split
    · exact Work.each_keeps (fun v u => (u.comp k).unloadTimer = (v.comp k).unloadTimer) (fun _ => rfl)
        (fun h g => g.trans h) _ visits _ v
    · rfl
  rw [w.close_frame s0]
  show (w.wound.comp k).unloadTimer = _
  unfold Work.wound
  dsimp only
  split
  · exact (evaluated _).trans served
  · exact served

/-! ### The suction condition -/

/-- A GOOD suction frame is a new reading, judged against the minimum (03, R48). -/
theorem suctionFrame_taken {s : State} {lo hi check : Byte} {v : Nat} (rx : s.link.rx = none)
    (hv : v = lo.toNat + 256 * hi.toNat) (high : v ≤ 5000) (sum : 3 + lo + hi + check = 0) :
    ∃ t, exec (.sampleFrame [0x5A, 3, 0, lo, hi, 0, check]) s = .next t ∧
      t = (((s.sampled .suctionP v).modStation (fun x => { x with suction := some v })).judgeSuction
        (decide (s.station.suctionMin ≤ v))).close s ∧ s.Took t .suctionP (some v) := by
  have value : channelValue .suctionP (leValue [lo, hi]) = v := by
    rw [channelValue_bytes, hv]
    simp [channelIsTemperature]
  obtain ⟨t, runs, ends, took⟩ := sampleFrame_taken (c := .suctionP) (kind := 3) (index := 0) rx rfl rfl
    (by simpa using sum) value (Int.natCast_nonneg v) (by simpa [channelBounds] using high)
  refine ⟨t, runs, ends.trans (congrArg (Work.close s) ?_), took⟩
  rfl

/-- The upward crossing owes an evaluation (03, R48). -/
theorem Work.judgeSuction_rises {w : Work} (h : w.suction = .short) :
    w.judgeSuction true = ({ w with suction := .sufficient } : Work).oweEval := by
  unfold Work.judgeSuction
  rw [h]

theorem Work.judgeSuction_sufficient {w : Work} (h : w.suction = .sufficient) : w.judgeSuction true = w := by
  unfold Work.judgeSuction
  rw [h]

theorem suctionSamplesJudgeTheCondition (s : State) : SuctionSamplesJudgeTheCondition s := by
  intro lo hi check v rx hv range sum
  obtain ⟨t, runs, ends, took⟩ := suctionFrame_taken rx hv range sum
  refine ⟨t, runs, ?_, fun short enough => ?_, fun sufficient low => ?_, fun same => ?_⟩
  · rw [ends]
    exact (Work.settles_close _ s).station.trans (Work.stands_judgeSuction _ _).station
  · rw [ends, decide_eq_true enough, Work.judgeSuction_rises (w := (s.sampled .suctionP v).modStation _) short]
    exact Work.close_evaluated (w := ({ (s.sampled .suctionP v).modStation (fun x => { x with suction := some v }) with
      suction := .sufficient } : Work).oweEval) rfl rfl s s.link
  · rw [ends, decide_eq_false (Nat.not_le.mpr low),
      Work.judgeSuction_lost (w := (s.sampled .suctionP v).modStation _) sufficient]
    exact Work.suctionLoss_lost { (s.sampled .suctionP v).modStation _ with suction := .short } s rfl
  · obtain ⟨short, low⟩ | ⟨sufficient, enough⟩ := same
    · rw [decide_eq_false (Nat.not_le.mpr low),
        Work.judgeSuction_short (w := (s.sampled .suctionP v).modStation _) short] at ends
      rw [ends]
      exact Work.close_nothingDue rfl rfl s
    · rw [decide_eq_true enough,
        Work.judgeSuction_sufficient (w := (s.sampled .suctionP v).modStation _) sufficient] at ends
      rw [ends]
      exact Work.close_nothingDue rfl rfl s

/-! ### The unload timer -/

/-- A compressor that has unloaded stops. -/
def Compressor.stop (c : Compressor) : Compressor := { c with state := .stopped, unloadTimer := none }

theorem execUnloadTimerExpiry_due {k : CompId} {s : State} (timer : (s.comp k).unloadTimer.isSome = true)
    (unloading : (s.comp k).state = .unloading) :
    exec (.unloadTimerExpiry k) s = .next ((s.begin.rewriteComp k Compressor.stop).close s) :=
  congrArg Host.Outcome.next (if_pos ⟨timer, unloading⟩)

theorem execUnloadTimerExpiry_idle {k : CompId} {s : State}
    (idle : (s.comp k).unloadTimer = none ∨ (s.comp k).state ≠ .unloading) :
    exec (.unloadTimerExpiry k) s = .next s := by
  refine congrArg Host.Outcome.next (if_neg fun due => ?_)
  obtain off | other := idle
  · rw [off] at due
    exact absurd due.1 (by decide)
  · exact other due.2

end Sys2Proof.Machine

/-- Settles O22: the start timer's expiry and a sample complete a refill by one lemma, `Work.completeRefill_completed`;
the unload timer's and the upward crossing owe an evaluation alone. -/
theorem compressorTimersExpire : Obligations.CompressorTimersExpire := by
  unfold Obligations.CompressorTimersExpire
  refine fun k s => ⟨fun timer starting => ⟨fun b bank low => ?_, fun b v bank pressure high claimant refilling => ?_⟩,
    execStartTimerExpiry_idle, fun timer unloading => ⟨fun off => ?_, ?_⟩, execUnloadTimerExpiry_idle,
    refillCompletesAtASample k s, suctionSamplesJudgeTheCondition s⟩
  · rw [execStartTimerExpiry_due timer starting,
      Work.startExpiry_low (w := s.begin) bank (Bank.pressureAtHigh_low low)]
    exact congrArg Host.Outcome.next (Work.close_quiet rfl rfl (s.begin.modComp_routes k rfl))
  · exact ⟨_, execStartTimerExpiry_due timer starting,
      startExpiry_completes starting bank pressure high claimant refilling⟩
  · rw [execUnloadTimerExpiry_due timer unloading]
    exact congrArg Host.Outcome.next (Work.close_off rfl off (s.begin.modComp_routes k rfl))
  · have stops : (s.begin.rewriteComp k Compressor.stop).comp k = (s.comp k).stop := Work.modComp_comp_self _ _ _
    have only : OnlyScheduled (s.begin.rewriteComp k Compressor.stop).toState
      ((s.begin.rewriteComp k Compressor.stop).close s) := Work.close_onlyScheduled rfl s
    have state := Work.close_stopped (w := s.begin.rewriteComp k Compressor.stop) (k := k) rfl (by rw [stops]; rfl) s
    have made := Work.close_evaluated (w := s.begin.rewriteComp k Compressor.stop) rfl rfl s s.link
    have port := (Work.settles_close (s.begin.rewriteComp k Compressor.stop) s).port
    refine ⟨_, execUnloadTimerExpiry_due timer unloading, ?_, state, only, port, made⟩
    rw [Work.close_unloadTimer, stops]
    rfl
end

section
/-! SUPPORT. The bank chosen to be yielded, and what a yield to the head of the wait list leaves (03, R60, R61). -/
open Sys2Proof Sys2Proof.Machine
namespace Sys2Proof.Machine

/-! ### The bank of least key -/

theorem pickLowest_none {key : BankId → Option Nat} (h : ∀ b, key b = none) (bs : List BankId) :
    pickLowest key bs = none := by
  induction bs with
  | nil => rfl
  | cons c cs ih =>
    unfold pickLowest
    rw [h c, ih]

/-- Of the banks with a key the one of least key is picked, the lowest number among equals (03, R60). -/
theorem pickLowest_least {key : BankId → Option Nat} {b : BankId} {v : Nat} (own : key b = some v)
    (least : ∀ c u, key c = some u → v < u ∨ (v = u ∧ b ≤ c)) {bs : List BankId} (sorted : bs.Pairwise (· < ·))
    (mem : b ∈ bs) : pickLowest key bs = some b := by
  induction bs with
  | nil => cases mem
  | cons c cs ih =>
    obtain ⟨before, sorted⟩ := List.pairwise_cons.mp sorted
    obtain rfl | later := List.mem_cons.mp mem
    · unfold pickLowest
      rw [own]
      cases found : pickLowest key cs with
      | none => rfl
      | some d =>
        refine if_neg fun lower => ?_
        obtain ⟨u, known, less⟩ := (Option.any_eq_true ..).mp lower
        have bound := least d u known
        have less := of_decide_eq_true less
        omega
    · unfold pickLowest
      rw [ih sorted later]
      cases known : key c with
      | none => rfl
      | some u =>
        have first : c < b := before b later
        refine if_pos ?_
        rw [own]
        refine decide_eq_true ?_
        obtain less | ⟨_, order⟩ := least c u known
        · exact less
        · exact absurd first (not_lt.mpr order)

theorem allBanks_sorted : allBanks.Pairwise (· < ·) := by decide

/-! ### A bank that can be yielded -/

theorem State.canYield_iff {s : State} {e : WaitEntry} {b : BankId} :
    s.canYield e b = true ↔ ∃ v, CanYield s e b v := by
  unfold State.canYield CanYield
  simp only [Bool.and_eq_true, beq_iff_eq, List.contains_iff_mem, Option.any_eq_true, decide_eq_true_eq, and_assoc]
  exact ⟨fun ⟨refilling, tier, ⟨v, pressure, need⟩, count⟩ => ⟨v, refilling, tier, pressure, need, count⟩,
    fun ⟨v, refilling, tier, pressure, need, count⟩ => ⟨refilling, tier, ⟨v, pressure, need⟩, count⟩⟩

theorem State.yieldKey_some {s : State} {e : WaitEntry} {b : BankId} {v : Nat} :
    s.yieldKey e b = some v ↔ CanYield s e b v := by
  unfold State.yieldKey
  constructor
  · intro key
    split at key
    · next can =>
      obtain ⟨u, refilling, tier, pressure, need, count⟩ := State.canYield_iff.mp can
      cases key.symm.trans pressure
      exact ⟨refilling, tier, pressure, need, count⟩
    · cases key
  · intro can
    rw [if_pos (State.canYield_iff.mpr ⟨v, can⟩)]
    exact can.2.2.1

/-- With no bank that can be yielded nothing happens at the expiry (03, R60). -/
theorem Work.yieldAtExpiry_none {w : Work} {e : WaitEntry} (h : ∀ b v, ¬ CanYield w.toState e b v) :
    w.yieldAtExpiry e = w := by
  unfold Work.yieldAtExpiry
  rw [pickLowest_none fun b => Option.eq_none_iff_forall_ne_some.mpr fun v key =>
    h b v (State.yieldKey_some.mp key)]

/-- The bank of least pressure is yielded by its compressor (03, R60, R61). -/
theorem Work.yieldAtExpiry_least {w : Work} {e : WaitEntry} {b : BankId} {v : Nat} {k : CompId}
    (can : CanYield w.toState e b v) (least : ∀ c u, CanYield w.toState e c u → v < u ∨ (v = u ∧ b ≤ c))
    (claimant : (w.bank b).claimant = some (.comp k)) : w.yieldAtExpiry e = w.yieldBank k b := by
  unfold Work.yieldAtExpiry
  rw [pickLowest_least (State.yieldKey_some.mpr can) (fun c u key => least c u (State.yieldKey_some.mp key))
    allBanks_sorted (mem_allBanks b)]
  dsimp only
  rw [claimant]

/-! ### A bank that is not READY at the end of a rule -/

/-- A bank that is not READY stands, with its place. -/
def Work.KeepsPlace (b : BankId) (w t : Work) : Prop :=
  (w.bank b).state ≠ .ready → t.bank b = w.bank b ∧ t.queued b = w.queued b

theorem Work.KeepsPlace.trans {b : BankId} {w t u : Work} (h : Work.KeepsPlace b w t) (g : Work.KeepsPlace b t u) :
    Work.KeepsPlace b w u := fun unready => by
  obtain ⟨bank, place⟩ := h unready
  obtain ⟨bank', place'⟩ := g (by rw [bank]; exact unready)
  exact ⟨bank'.trans bank, place'.trans place⟩

theorem Work.keepsPlace_visit (w : Work) (e : QueueEntry) (b : BankId) : Work.KeepsPlace b w (w.visit e) := by
  intro unready
  by_cases ready : (w.bank e.bank).state = .ready
  · have other : b ≠ e.bank := by
      rintro rfl
      exact unready ready
    have left : (w.leaveQueue e.bank).queued b = w.queued b := by
      rw [Work.leaveQueue_queued, decide_eq_true other, Bool.and_true]
    unfold Work.visit
    dsimp only
    rw [if_pos ready]
    split
    · exact ⟨rfl, left⟩
    · split
      · exact ⟨Work.modBank_bank_ne (w.leaveQueue e.bank) _ other, left⟩
      · exact ⟨rfl, rfl⟩
  · rw [Work.visit_unready ready]
    exact ⟨rfl, rfl⟩

/-- A bank that is not READY keeps its place on the refill queue at the end of a rule (03, R50). -/
theorem Work.close_place {w : Work} {b : BankId} (unready : (w.bank b).state ≠ .ready) (s0 : State) :
    (w.close s0).queued b = w.queued b := by
  have served : Work.KeepsPlace b w (if w.serveDue then w.serveWaiting else w) := by
    have stands := w.serves_serveWaiting
    split
    · exact fun _ => ⟨congrArg (·.get b) stands.banks, congrArg (List.any · _) stands.refillQueue⟩
    · exact fun _ => ⟨rfl, rfl⟩
  have evaluated : ∀ v : Work, Work.KeepsPlace b v v.evaluate := fun v => by
    unfold Work.evaluate
    split
    · exact Work.each_keeps (Work.KeepsPlace b) (fun _ _ => ⟨rfl, rfl⟩) .trans _ (fun e u => u.keepsPlace_visit e b) _ v
    · exact fun _ => ⟨rfl, rfl⟩
  have wound : Work.KeepsPlace b w w.wound := by
    unfold Work.wound
    dsimp only
    split
    · exact served.trans (evaluated _)
    · exact served
  rw [w.close_frame s0]
  exact (wound unready).2

/-! ### A yield to the head of the wait list -/

/-- The position can use a bank at once: PULSING without one, or HELD for NO_BANK alone (05, R95, R98). -/
def Position.Usable (x : Position) : Prop :=
  (x.ses.state = .pulsing ∧ x.ses.current = none) ∨
    (x.ses.state = .held ∧
      x.ses.causes = { noBank := true, precool := false, vehicle := false, host := false })

/-- What a rule leaves that ends with the yield of bank `b` from compressor `k` to position `p`. -/
structure Work.YieldedTo (w : Work) (p : PosId) (k : CompId) (b : BankId) (t : State) : Prop where
  comp : t.comp k = Unloading (w.comp k)
  state : (t.bank b).state = .serving
  claimant : (t.bank b).claimant = some (.pos p)
  yields : (t.bank b).yields = (w.bank b).yields + 1
  queued : t.queued b = true
  off : t.waits p = false
  pulse : (w.pos p).ses.state = .pulsing → (t.pos p).ses.current = some b ∧ (t.pos p).tmr.pulse = some 1000
  resume : (w.pos p).ses.state = .held → (t.pos p).ses.state = .fuelling ∧ (t.pos p).ses.staged = some b
  others : ∀ q, q ≠ p → t.pos q = w.pos q
  settles : State.Settles w.toState t

/-- One more yield counted (03, R61). -/
def Bank.countYield (x : Bank) : Bank := { x with yields := x.yields + 1 }

/-- The work in which a yield is counted and the compressor unloads. -/
def Work.yieldCounted (k : CompId) (b : BankId) (w : Work) : Work := (w.modBank b Bank.countYield).unloadComp k

theorem Work.yieldCounted_bank (w : Work) (k : CompId) (b : BankId) :
    (w.yieldCounted k b).bank b = (w.bank b).countYield := Work.modBank_bank_self w b _

/-- The work in which the yielded bank is READY at the front of its class, about to be offered (03, R45, R61). -/
def Work.yielding (k : CompId) (b : BankId) (w : Work) : Work :=
  ((w.yieldCounted k b).makeReady b).frontQueue b

theorem Work.yielding_bank (w : Work) (k : CompId) (b : BankId) :
    (w.yielding k b).bank b = (w.bank b).countYield.enterReady w.station.clock w.station.leakWindow := by
  rw [← w.yieldCounted_bank k b]
  exact Work.modBank_bank_self _ b _

theorem Work.yielding_eligible (w : Work) (k : CompId) (b : BankId) (e : WaitEntry) :
    EligibleFor (w.yielding k b).toState b e ↔ EligibleFor w.toState b e := by
  obtain ⟨tier, _, _, _, _, pressure, _⟩ := (w.bank b).countYield.withFlags_settings
  refine eligibleFor_congr ?_ ?_ e <;> rw [Work.yielding_bank]
  · exact tier
  · exact pressure

theorem Work.yieldBank_offers {w : Work} {k : CompId} {b : BankId} (bank : (w.comp k).bank = some b)
    (claimant : (w.bank b).claimant = some (.comp k)) (refilling : (w.bank b).state = .refilling) :
    w.yieldBank k b = (w.yielding k b).offerBank b := by
  have held : (w.yieldCounted k b).heldBy (.comp k) b = true := by
    refine State.heldBy_refilling ?_ ?_ <;> rw [Work.yieldCounted_bank]
    · exact claimant
    · exact refilling
  have counted : w.yieldBank k b = (w.yieldCounted k b).giveBack k b := by
    unfold Work.yieldBank Work.loseRefill
    rw [show ((w.modBank b (fun x => { x with yields := x.yields + 1 })).comp k).bank = some b from bank]
    rfl
  rw [counted]
  exact if_pos held

/-- The head of the wait list takes the bank yielded to it (02, R37; 03, R61). -/
theorem Work.yieldBank_yielded {w : Work} {k : CompId} {b : BankId} {head : WaitEntry} {rest : List WaitEntry}
    (bank : (w.comp k).bank = some b) (claimant : (w.bank b).claimant = some (.comp k))
    (refilling : (w.bank b).state = .refilling) (list : w.waitList = head :: rest)
    (serves : EligibleFor w.toState b head) (usable : (w.pos head.pos).Usable) (s0 : State) :
    w.YieldedTo head.pos k b ((w.yieldBank k b).close s0) := by
  have ready : ((w.yielding k b).bank b).state = .ready := by
    rw [Work.yielding_bank]
    rfl
  have eligible := (w.yielding_eligible k b head).mpr serves
  have taken : ∃ f : Position → Position,
      w.yieldBank k b = ((w.yielding k b).served head.pos b).modPos head.pos f ∧
      ((w.pos head.pos).ses.state = .pulsing →
        (f (w.pos head.pos)).ses.current = some b ∧ (f (w.pos head.pos)).tmr.pulse = some 1000) ∧
      ((w.pos head.pos).ses.state = .held →
        (f (w.pos head.pos)).ses.state = .fuelling ∧ (f (w.pos head.pos)).ses.staged = some b) := by
    rw [Work.yieldBank_offers bank claimant refilling]
    obtain ⟨pulsing, bare⟩ | ⟨held, causes⟩ := usable
    · refine ⟨_, Work.offerBank_pulse (older := []) ready list (fun x hx => by cases hx) eligible pulsing bare,
        fun _ => ⟨rfl, rfl⟩, fun held => ?_⟩
      rw [pulsing] at held
      cases held
    · refine ⟨_, Work.offerBank_resume (older := []) ready list (fun x hx => by cases hx) eligible held causes,
        fun pulsing => ?_, fun _ => ⟨rfl, rfl⟩⟩
      rw [held] at pulsing
      cases pulsing
  obtain ⟨f, taken, pulse, resume⟩ := taken
  obtain ⟨serving, claims, left, others, _, own⟩ := Work.served_modPos ready head.pos f
  have evolves := w.evolves_yieldBank k b
  have settles := evolves.toSettles.trans (Work.settles_close (w.yieldBank k b) s0)
  have unloaded : (w.yieldBank k b).comp k = Unloading (w.comp k) := by
    rw [taken]
    exact Work.modComp_comp_self (w.modBank b Bank.countYield) k _
  have record : ((w.yieldBank k b).bank b).yields = (w.bank b).yields + 1 := by
    have counted := Bank.withFlags_yields (w.bank b).countYield
    rw [taken]
    refine ((congrArg Bank.yields (Work.served_bank _ head.pos b)).trans (Bank.claim_yields _ _)).trans ?_
    rw [Work.yielding_bank]
    exact counted
  have place : (w.yieldBank k b).queued b = true := by
    rw [taken]
    show (w.yielding k b).queued b = true
    unfold State.queued Work.yielding
    rw [Work.frontQueue_refillQueue]
    exact List.any_eq_true.mpr ⟨_, (mem_placeFront _ _ _ _).mpr (.inl rfl), by simp⟩
  have off : (w.yieldBank k b).waits head.pos = false := by
    rw [taken]
    exact (w.yielding k b).leaveWaitList_waits_self head.pos
  rw [← taken] at serving claims others own
  have unready : ((w.yieldBank k b).bank b).state ≠ .ready := by
    rw [serving]
    decide
  have same := Work.close_bank_unready unready s0
  have busy : ((w.yieldBank k b).comp k).state ≠ .stopped := by
    rw [unloaded]
    exact fun stopped => by cases stopped
  refine ⟨(Work.close_comp_busy busy s0).trans unloaded, by rw [same, serving], by rw [same, claims],
    by rw [same, record], (Work.close_place unready s0).trans place, (Work.close_waits _ s0 _).trans off,
    fun pulsing => ?_, fun held => ?_, fun q other => ?_, settles⟩
  · rw [Work.close_pos, own]
    exact pulse pulsing
  · rw [Work.close_pos, own]
    exact resume held
  · rw [Work.close_pos]
    exact others q other

end Sys2Proof.Machine
end

section
/-! The yield wait timer, and a pressure sample of a bank that can be yielded (03, R53, R60, R61). -/
open Sys2Proof Sys2Proof.Machine
namespace Sys2Proof.Machine

/-! ### The yield wait timer -/

/-- The entry of position `p` is marked as having waited (03, R60). -/
def WaitEntry.mark (p : PosId) (e : WaitEntry) : WaitEntry :=
  if e.pos = p then { e with yieldTimer := none, waited := true } else e

/-- The state with the entry of position `p` marked. -/
def State.marked (p : PosId) (s : State) : State := { s with waitList := s.waitList.map (WaitEntry.mark p) }

theorem WaitEntry.mark_pos (p : PosId) (e : WaitEntry) : (e.mark p).pos = e.pos := by
  unfold WaitEntry.mark
  split <;> rfl

theorem canYield_marked {s : State} {p : PosId} {e : WaitEntry} {b : BankId} {v : Nat} :
    CanYield (s.marked p) (e.mark p) b v ↔ CanYield s e b v := by
  unfold WaitEntry.mark
  split <;> exact Iff.rfl

theorem State.marked_begin (p : PosId) (s : State) : ({ s.begin with waitList := s.begin.waitList.map (fun e =>
    if e.pos == p then { e with yieldTimer := none, waited := true } else e) } : Work) = (s.marked p).begin := by
  unfold State.marked
  rw [show WaitEntry.mark p = fun e => if e.pos == p then { e with yieldTimer := none, waited := true } else e from
    funext fun e => by unfold WaitEntry.mark; simp only [beq_iff_eq]]
  rfl

/-- The expiry marks the entry, and judges a yield where the entry is the head (03, R60). -/
theorem Work.yieldWaitExpiry_eq {s : State} {p : PosId} {head : WaitEntry} {rest : List WaitEntry}
    (list : s.waitList = head :: rest) : s.begin.yieldWaitExpiry p =
      if head.pos = p then (s.marked p).begin.yieldAtExpiry (head.mark p) else (s.marked p).begin := by
  have marked : (s.begin.waitList.map (fun e =>
      if e.pos == p then { e with yieldTimer := none, waited := true } else e)) =
      head.mark p :: rest.map (WaitEntry.mark p) :=
    (congrArg (fun w : Work => w.waitList) (s.marked_begin p)).trans (congrArg (List.map (WaitEntry.mark p)) list)
  unfold Work.yieldWaitExpiry
  dsimp only
  rw [s.marked_begin p, marked, ← head.mark_pos p]

theorem execYieldWaitExpiry_due {s : State} {p : PosId}
    (due : ∃ e ∈ s.waitList, e.pos = p ∧ e.yieldTimer.isSome = true) :
    exec (.yieldWaitExpiry p) s = .next ((s.begin.yieldWaitExpiry p).close s) := by
  obtain ⟨e, mem, own, timer⟩ := due
  exact congrArg Host.Outcome.next (if_pos (List.any_eq_true.mpr ⟨e, mem, by rw [own, timer]; simp⟩))

theorem execYieldWaitExpiry_idle {s : State} {p : PosId} (idle : ∀ e ∈ s.waitList, e.pos = p → e.yieldTimer = none) :
    exec (.yieldWaitExpiry p) s = .next s := by
  refine congrArg Host.Outcome.next (if_neg fun due => ?_)
  obtain ⟨e, mem, both⟩ := List.any_eq_true.mp due
  rw [Bool.and_eq_true, beq_iff_eq] at both
  rw [idle e mem both.1] at both
  exact absurd both.2 (by decide)

/-! ### A pressure sample of a bank that can be yielded -/

section
variable {s : State} {k : CompId} {b : BankId} {lo hi check : Byte} {v : Nat} (rx : s.link.rx = none)
  (hv : v = lo.toNat + 256 * hi.toNat) (range : v ≤ 11000) (sum : BitVec.ofNat 8 b.val + lo + hi + check = 0)
  (claimant : (s.bank b).claimant = some (.comp k)) (refilling : (s.bank b).state = .refilling)
  (within : v ≤ (s.bank b).rated)
  (busy : (s.comp k).state = .starting ∨ ((s.comp k).state = .running ∧ v < (s.bank b).high))
include rx hv range sum claimant refilling within busy

/-- A pressure that completes no refill is judged for a yield (03, R53, R60). -/
theorem pressureFrame_judged :
    ∃ t, exec (.sampleFrame [0x5A, 0, BitVec.ofNat 8 b.val, lo, hi, 0, check]) s = .next t ∧
      t = (((s.sampled (.bankP b) v).modBank b (fun x => x.pressed v)).yieldAtPressure k b).close s ∧
      s.Took t (.bankP b) (some v) := by
  obtain ⟨t, runs, ends, took⟩ := pressureFrame_taken rx hv range sum
  have own : ((s.sampled (.bankP b) v).modBank b (fun x => x.pressed v)).bank b = (s.bank b).pressed v :=
    Work.modBank_bank_self _ _ _
  have judged : ((s.sampled (.bankP b) v).modBank b (fun x => x.pressed v)).pressureToComp k b =
      ((s.sampled (.bankP b) v).modBank b (fun x => x.pressed v)).yieldAtPressure k b := by
    have active : (s.comp k).active = true := by
      unfold Compressor.active
      obtain starting | ⟨running, _⟩ := busy
      · rw [starting]; rfl
      · rw [running]; rfl
    refine (if_neg fun completes => ?_).trans (if_pos active)
    obtain ⟨runs, high⟩ := completes
    rw [own] at high
    have high : (s.bank b).high ≤ v := of_decide_eq_true high
    obtain starting | ⟨_, low⟩ := busy
    · exact absurd (starting.symm.trans runs) (by decide)
    · omega
  exact ⟨t, runs, ends.trans ((afterPressure_refilling refilling claimant within).trans
    (congrArg (Work.close s) judged)), took⟩

end

theorem pressureSampleYields (p : PosId) (s : State) : PressureSampleYields p s := by
  intro k b lo hi check v rx hv range sum bank claimant refilling within busy
  obtain ⟨t, runs, ends, took⟩ := pressureFrame_judged rx hv range sum claimant refilling within busy
  have own : ((s.sampled (.bankP b) v).modBank b (fun x => x.pressed v)).bank b = (s.bank b).pressed v :=
    Work.modBank_bank_self _ _ _
  have can : ∀ e : WaitEntry, ((s.sampled (.bankP b) v).modBank b (fun x => x.pressed v)).canYield e b = true ↔
      (s.bank b).tier ∈ e.tiers ∧ e.need ≤ v ∧ (s.bank b).yields < 2 := fun e => by
    refine State.canYield_iff.trans ?_
    unfold CanYield
    rw [own]
    exact ⟨fun ⟨u, _, tier, pressure, need, count⟩ => by cases pressure; exact ⟨tier, need, count⟩,
      fun ⟨tier, need, count⟩ => ⟨v, refilling, tier, rfl, need, count⟩⟩
  refine ⟨fun head rest list mine waited tier need count usable => ?_, fun barred => ⟨t, runs, ?_⟩⟩
  · have yields : ((s.sampled (.bankP b) v).modBank b (fun x => x.pressed v)).yieldAtPressure k b =
        ((s.sampled (.bankP b) v).modBank b (fun x => x.pressed v)).yieldBank k b := by
      unfold Work.yieldAtPressure
      rw [show ((s.sampled (.bankP b) v).modBank b (fun x => x.pressed v)).waitList = head :: rest from list]
      exact if_pos (by rw [waited, (can head).mpr ⟨tier, need, count⟩]; rfl)
    have serves : EligibleFor ((s.sampled (.bankP b) v).modBank b (fun x => x.pressed v)).toState b head :=
      (eligibleFor_some (v := v) (by rw [own]; rfl) head).mpr ⟨by rw [own]; exact tier, need⟩
    subst mine
    have yielded := Work.yieldBank_yielded (w := (s.sampled (.bankP b) v).modBank b (fun x => x.pressed v))
      (k := k) bank (by rw [own]; exact claimant) (by rw [own]; exact refilling) list serves usable s
    rw [yields] at ends
    rw [← ends] at yielded
    refine ⟨t, runs, yielded.comp, yielded.state, yielded.claimant, ?_, ?_, yielded.queued, yielded.off,
      fun pulsing => (yielded.pulse pulsing).1, yielded.resume, yielded.others, took.settings, took.holds, took.port⟩
    · rw [(yielded.settles.bank b).pressure, own]
      rfl
    · rw [yielded.yields, own]
      rfl
  · have stands : ((s.sampled (.bankP b) v).modBank b (fun x => x.pressed v)).yieldAtPressure k b =
        (s.sampled (.bankP b) v).modBank b (fun x => x.pressed v) := by
      unfold Work.yieldAtPressure
      cases list : s.waitList with
      | nil =>
        rw [show ((s.sampled (.bankP b) v).modBank b (fun x => x.pressed v)).waitList = [] from list]
      | cons head rest =>
        rw [show ((s.sampled (.bankP b) v).modBank b (fun x => x.pressed v)).waitList = head :: rest from list]
        refine if_neg fun both => barred head rest list ?_
        obtain ⟨waited, yields⟩ := Bool.and_eq_true_iff.mp both
        exact ⟨waited, (can head).mp yields⟩
    rw [ends, stands]
    exact Work.close_nothingDue rfl rfl s

end Sys2Proof.Machine

/-- Settles O23: an expiry is a rule that marks the entry, and the bank of least pressure goes to the head by
`Work.yieldBank_yielded`, as at a pressure sample. -/
theorem yieldWaitExpiryYieldsABank : Obligations.YieldWaitExpiryYieldsABank := by
  unfold Obligations.YieldWaitExpiryYieldsABank
  refine fun p s => ⟨execYieldWaitExpiry_idle, fun head rest list due barred => ?_,
    fun head rest b v k list mine timer can least claimant bank usable => ?_, pressureSampleYields p s⟩
  · have marks : s.begin.yieldWaitExpiry p = (s.marked p).begin := by
      rw [Work.yieldWaitExpiry_eq list]
      split
      · next own =>
        exact Work.yieldAtExpiry_none fun b v => mt canYield_marked.mp ((barred.resolve_left (not_not.mpr own)) b v)
      · rfl
    rw [execYieldWaitExpiry_due due, marks]
    exact congrArg Host.Outcome.next (Work.close_quiet (w := (s.marked p).begin) rfl rfl rfl)
  · have due : ∃ e ∈ s.waitList, e.pos = p ∧ e.yieldTimer.isSome = true :=
      ⟨head, by rw [list]; exact List.mem_cons_self, mine, timer⟩
    have marks : CanYield (s.marked p) (head.mark p) b v := canYield_marked.mpr can
    have judged : s.begin.yieldWaitExpiry p = (s.marked p).begin.yieldBank k b := by
      rw [Work.yieldWaitExpiry_eq list, if_pos mine]
      exact Work.yieldAtExpiry_least marks (fun c u other => least c u (canYield_marked.mp other)) claimant
    obtain ⟨refilling, tier, pressure, need, _⟩ := marks
    have marked : (s.marked p).waitList = head.mark p :: rest.map (WaitEntry.mark p) :=
      congrArg (List.map (WaitEntry.mark p)) list
    have yielded := Work.yieldBank_yielded (w := (s.marked p).begin) (k := k) bank claimant refilling marked
      ⟨tier, v, pressure, need⟩ (by rw [head.mark_pos, mine]; exact usable) s
    rw [head.mark_pos, mine] at yielded
    rw [execYieldWaitExpiry_due due, judged]
    exact ⟨_, rfl, yielded.comp, yielded.state, yielded.claimant, yielded.yields, yielded.queued, yielded.off,
      yielded.pulse, yielded.resume, yielded.others, yielded.settles.sameSettings, yielded.settles.holds,
      yielded.settles.port, yielded.settles.station⟩
end

section
/-! SUPPORT. Holders shed one at a time: which is shed before which, and what a shed holder leaves (03, R45, R64). -/
open Sys2Proof Sys2Proof.Machine
namespace Sys2Proof.Machine

/-! ### The order of shedding -/

/-- Of two compressors that hold power, `k` is shed before `j` (03, R64). -/
def State.CompFirst (s : State) (k j : CompId) : Prop :=
  ((s.comp k).state = .starting ∧ (s.comp j).state = .running) ∨
    ((s.comp j).state = (s.comp k).state ∧
      (s.shedPriority k < s.shedPriority j ∨ (s.shedPriority k = s.shedPriority j ∧ k = 1)))

/-- Of two chillers that hold power, that of `l` is shed before that of `m` (03, R64). -/
def State.LoopFirst (s : State) (l m : LoopId) : Prop :=
  (s.hasFuellingHolder l = false ∧ s.hasFuellingHolder m = true) ∨
    (s.hasFuellingHolder l = s.hasFuellingHolder m ∧ l = 1)

/-- There is one other record. -/
theorem other_record {i j k : Fin 2} (hi : i ≠ k) (hj : j ≠ k) : i = j := by omega

theorem Compressor.active_iff {c : Compressor} : c.active = true ↔ c.state = .starting ∨ c.state = .running := by
  unfold Compressor.active
  simp

/-- Of two compressors in one state the chosen one has the lower refill priority, K1 between equals (03, R64). -/
theorem State.shedComp_first {s : State} {st : CompState} {k j : CompId} (h : s.shedComp st = some k)
    (same : (s.comp j).state = st) (other : j ≠ k) :
    s.shedPriority k < s.shedPriority j ∨ (s.shedPriority k = s.shedPriority j ∧ k = 1) := by
  have both : ∀ i, (s.comp i).state = st := fun i => by
    by_cases own : i = k
    · rw [own]
      exact State.shedComp_state h
    · rw [other_record own other]
      exact same
  unfold State.shedComp at h
  rw [if_pos (both 0), if_pos (both 1)] at h
  split at h
  · next lower =>
    cases h
    obtain rfl | rfl := two_records j
    · exact absurd rfl other
    · exact .inl lower
  · next higher =>
    cases h
    obtain rfl | rfl := two_records j
    · exact (Nat.lt_or_eq_of_le (Nat.not_lt.mp higher)).imp_right fun equal => ⟨equal, rfl⟩
    · exact absurd rfl other

theorem State.shedChiller_holder {s : State} {holder : Bool} {l : LoopId} (h : s.shedChiller holder = some l) :
    s.hasFuellingHolder l = holder := by
  unfold State.shedChiller at h
  split at h
  · next one => cases h; exact one.2
  · split at h
    · next zero => cases h; exact zero.2
    · cases h

/-- Of two chillers alike the chosen one is that of L1 (03, R64). -/
theorem State.shedChiller_first {s : State} {holder : Bool} {l m : LoopId} (h : s.shedChiller holder = some l)
    (running : (s.loop m).chiller = .running) (same : s.hasFuellingHolder m = holder) (other : m ≠ l) : l = 1 := by
  unfold State.shedChiller at h
  split at h
  · cases h; rfl
  · next one =>
    split at h
    · cases h
      obtain rfl | rfl := two_records m
      · exact absurd rfl other
      · exact absurd ⟨running, same⟩ one
    · cases h

/-- The next holder shed: a compressor while one holds power, else a chiller, and which (03, R64). -/
theorem Work.shedNext_cases (w : Work) :
    (∃ k, (w.comp k).active = true ∧ w.shedNext = w.loseRefill k ∧
      ∀ j, (w.comp j).active = true → j ≠ k → w.CompFirst k j) ∨
    ((∀ k, (w.comp k).active = false) ∧ ∃ l, (w.loop l).chiller = .running ∧ w.shedNext = w.shedLoop l ∧
      ∀ m, (w.loop m).chiller = .running → m ≠ l → w.LoopFirst l m) ∨
    w.shedNext = w := by
  unfold Work.shedNext
  cases starts : w.shedComp .starting with
  | some k =>
    have starting := State.shedComp_state starts
    refine .inl ⟨k, Compressor.active_iff.mpr (.inl starting), rfl, fun j active other => ?_⟩
    obtain same | running := Compressor.active_iff.mp active
    · exact .inr ⟨same.trans starting.symm, State.shedComp_first starts same other⟩
    · exact .inl ⟨starting, running⟩
  | none =>
    have noStart := State.shedComp_none starts
    cases runs : w.shedComp .running with
    | some k =>
      have running := State.shedComp_state runs
      refine .inl ⟨k, Compressor.active_iff.mpr (.inr running), rfl, fun j active other => ?_⟩
      have same := (Compressor.active_iff.mp active).resolve_left (noStart j)
      exact .inr ⟨same.trans running.symm, State.shedComp_first runs same other⟩
    | none =>
      have noRun := State.shedComp_none runs
      have idle : ∀ k, (w.comp k).active = false := fun k =>
        Bool.eq_false_iff.mpr fun active => (Compressor.active_iff.mp active).elim (noStart k) (noRun k)
      cases bare : w.shedChiller false with
      | some l =>
        refine .inr (.inl ⟨idle, l, State.shedChiller_running bare, rfl, fun m running other => ?_⟩)
        have chosen := State.shedChiller_holder bare
        cases holder : w.hasFuellingHolder m with
        | false => exact .inr ⟨chosen.trans holder.symm, State.shedChiller_first bare running holder other⟩
        | true => exact .inl ⟨chosen, holder⟩
      | none =>
        cases fuelling : w.shedChiller true with
        | some l =>
          refine .inr (.inl ⟨idle, l, State.shedChiller_running fuelling, rfl, fun m running other => ?_⟩)
          have holder : w.hasFuellingHolder m = true := by simpa using State.shedChiller_none bare m running
          exact .inr ⟨(State.shedChiller_holder fuelling).trans holder.symm,
            State.shedChiller_first fuelling running holder other⟩
        | none => exact .inr (.inr rfl)

/-! ### What has been shed -/

theorem unloading_ne {c : Compressor} (active : c.active = true) : Unloading c ≠ c := fun same => by
  rw [← same] at active
  cases active

theorem Work.loseRefill_eq {w : Work} {k : CompId} (active : (w.comp k).active = true) :
    w.loseRefill k = w.loseIfActive k := (if_pos active).symm

/-- The chiller of loop `l` ran in `v` and has been shed in `t`: it waits, passed over, and no compressor holds power.
-/
structure Work.LoopShed (v t : Work) (l : LoopId) : Prop where
  running : (v.loop l).chiller = .running
  waiting : t.loop l = (v.loop l).switch .waitingPower
  order : l ∈ t.powerQueue
  passed : l ∈ t.passedOver
  idle : ∀ k, (t.comp k).active = false

/-- From `v` to `t` holders were shed, in the order of R64. -/
structure Work.Sheds (v t : Work) : Prop where
  evolves : v.Evolves t
  comp : ∀ k, t.comp k = v.comp k ∨ ((v.comp k).active = true ∧ t.comp k = Unloading (v.comp k))
  comps : ∀ k j, (v.comp k).active = true → t.comp k ≠ v.comp k → (v.comp j).active = true → t.comp j = v.comp j →
    v.CompFirst k j
  loop : ∀ l, t.loop l = v.loop l ∨ v.LoopShed t l
  loops : (∀ k, (v.comp k).active = false) → t.positions = v.positions ∧ ∀ l m, (v.loop l).chiller = .running →
    (v.loop m).chiller = .running → t.loop l ≠ v.loop l → t.loop m = v.loop m → v.LoopFirst l m
  nobody : v.waitList = [] → t.waitList = []

theorem Work.Sheds.refl (v : Work) : v.Sheds v where
  evolves := .refl _
  comp := fun _ => .inl rfl
  comps := fun _ _ _ changed => absurd rfl changed
  loop := fun _ => .inl rfl
  loops := fun _ => ⟨rfl, fun _ _ _ _ changed => absurd rfl changed⟩
  nobody := id

/-- A compressor that still holds power has not been shed. -/
theorem Work.Sheds.unshed {v t : Work} (h : v.Sheds t) {k : CompId} (active : (t.comp k).active = true) :
    t.comp k = v.comp k := (h.comp k).resolve_right fun shed => by
  rw [shed.2] at active
  cases active

/-- The shedding order of two compressors is that of the start while both are unshed. -/
theorem Work.Sheds.compFirst {v t : Work} (h : v.Sheds t) {k j : CompId} (sameK : t.comp k = v.comp k)
    (sameJ : t.comp j = v.comp j) (first : t.CompFirst k j) : v.CompFirst k j := by
  have priority : ∀ i, t.comp i = v.comp i → t.shedPriority i = v.shedPriority i := fun i same => by
    unfold State.shedPriority
    rw [same]
    split
    · next b _ => exact (h.evolves.bank b).priority
    · rfl
  unfold State.CompFirst at first ⊢
  rw [sameK, sameJ, priority k sameK, priority j sameJ] at first
  exact first

/-- A compressor sheds its draw while it holds power: no chiller has been shed yet. -/
theorem Work.Sheds.loseRefill {v t : Work} (h : v.Sheds t) {k : CompId} (active : (t.comp k).active = true)
    (first : ∀ j, (t.comp j).active = true → j ≠ k → t.CompFirst k j) : v.Sheds (t.loseRefill k) := by
  obtain ⟨loops, comp⟩ := t.loseRefill_frame k
  have same := h.unshed active
  have held : (v.comp k).active = true := same ▸ active
  have loop : ∀ l, (t.loseRefill k).loop l = v.loop l := fun l => by
    refine (congrArg (·.get l) loops).trans ((h.loop l).resolve_right fun shed => ?_)
    rw [shed.idle k] at active
    cases active
  refine ⟨h.evolves.trans (t.evolves_loseRefill k), fun j => ?_, fun i j holds changed holdsJ stands => ?_,
    fun l => .inl (loop l), fun idle => ?_, fun nobody => ?_⟩
  · rw [comp]
    split
    · next own =>
      subst own
      exact .inr ⟨held, by rw [same]⟩
    · exact h.comp j
  · have other : j ≠ k := by
      rintro rfl
      rw [comp, if_pos rfl, same] at stands
      exact unloading_ne held stands
    rw [comp, if_neg other] at stands
    by_cases own : i = k
    · subst own
      exact h.compFirst same stands (first j (by rw [stands]; exact holdsJ) other)
    · rw [comp, if_neg own] at changed
      exact h.comps i j holds changed holdsJ stands
  · rw [idle k] at held
    cases held
  · rw [Work.loseRefill_eq active]
    exact Work.loseIfActive_nobody k (h.nobody nobody)

/-- A chiller sheds its draw when no compressor holds power. -/
theorem Work.Sheds.shedLoop {v t : Work} (h : v.Sheds t) {l : LoopId} (idle : ∀ k, (t.comp k).active = false)
    (running : (t.loop l).chiller = .running)
    (first : ∀ m, (t.loop m).chiller = .running → m ≠ l → t.LoopFirst l m) : v.Sheds (t.shedLoop l) := by
  have same : t.loop l = v.loop l := (h.loop l).resolve_right fun shed => by
    rw [shed.waiting] at running
    cases running
  have order : (t.shedLoop l).powerQueue = t.powerQueue ++ [l] := rfl
  have passed : (t.shedLoop l).passedOver = l :: t.passedOver := rfl
  refine ⟨h.evolves.trans (t.evolves_shedLoop l), h.comp, h.comps, fun m => ?_, fun none => ?_, h.nobody⟩
  · rw [Work.shedLoop_loop]
    split
    · next own =>
      subst own
      exact .inr ⟨same ▸ running, by rw [Work.shedLoop_loop, if_pos rfl, same], by rw [order]; simp,
        by rw [passed]; exact List.mem_cons_self, idle⟩
    · next other =>
      refine (h.loop m).imp_right fun shed => ⟨shed.running, ?_, ?_, ?_, shed.idle⟩
      · rw [Work.shedLoop_loop, if_neg other]
        exact shed.waiting
      · rw [order]
        exact List.mem_append_left _ shed.order
      · rw [passed]
        exact List.mem_cons_of_mem _ shed.passed
  · obtain ⟨positions, loops⟩ := h.loops none
    refine ⟨positions, fun i m runs runsM changed stands => ?_⟩
    have other : m ≠ l := by
      rintro rfl
      rw [Work.shedLoop_loop, if_pos rfl] at stands
      rw [← stands] at runsM
      cases runsM
    rw [Work.shedLoop_loop, if_neg other] at stands
    by_cases own : i = l
    · subst own
      have holder : ∀ x, t.loop x = v.loop x → t.hasFuellingHolder x = v.hasFuellingHolder x := fun x sameX => by
        unfold State.hasFuellingHolder State.pos
        rw [sameX, positions]
      have chosen := first m (by rw [stands]; exact runsM) other
      unfold State.LoopFirst at chosen ⊢
      rw [holder i same, holder m stands] at chosen
      exact chosen
    · rw [Work.shedLoop_loop, if_neg own] at changed
      exact loops i m runs runsM changed stands

theorem Work.Sheds.shedNext {v t : Work} (h : v.Sheds t) : v.Sheds t.shedNext := by
  obtain ⟨k, active, next, first⟩ | ⟨idle, l, running, next, first⟩ | next := t.shedNext_cases
  · rw [next]
    exact h.loseRefill active first
  · rw [next]
    exact h.shedLoop idle running first
  · rw [next]
    exact h

/-! ### The bank of a shed compressor -/

/-- What has become of bank `b`, refilled by compressor `k` in `v`. -/
structure Work.ShedBank (k : CompId) (b : BankId) (v t : Work) : Prop where
  kept : t.comp k = v.comp k → t.bank b = v.bank b
  free : t.comp k ≠ v.comp k → ∀ j, (t.bank b).claimant ≠ some (.comp j)
  yields : (t.bank b).yields = (v.bank b).yields
  ready : v.waitList = [] → t.comp k ≠ v.comp k → (t.bank b).state = .ready ∧ t.queued b = true
  before : v.waitList = [] → (∀ j, t.comp j = v.comp j) → t.refillQueue = v.refillQueue
  alone : v.waitList = [] → t.comp k ≠ v.comp k → (∀ j, j ≠ k → t.comp j = v.comp j) → t.refillQueue =
    placeFront v.priorities { bank := b, stamp := v.station.clock } (withoutBank b v.refillQueue)

theorem Work.ShedBank.refl (k : CompId) (b : BankId) (v : Work) : Work.ShedBank k b v v where
  kept := fun _ => rfl
  free := fun changed => absurd rfl changed
  yields := rfl
  ready := fun _ changed => absurd rfl changed
  before := fun _ _ => rfl
  alone := fun _ changed => absurd rfl changed

/-- The chillers shed are no part of it. -/
theorem Work.ShedBank.of_eq {k : CompId} {b : BankId} {v t u : Work} (h : Work.ShedBank k b v t)
    (banks : u.banks = t.banks) (comps : u.comps = t.comps) (queue : u.refillQueue = t.refillQueue) :
    Work.ShedBank k b v u := by
  have bank : u.bank b = t.bank b := congrArg (·.get b) banks
  have comp : ∀ j, u.comp j = t.comp j := fun j => congrArg (·.get j) comps
  have queued : u.queued b = t.queued b := congrArg (List.any · _) queue
  constructor <;> simp only [bank, comp, queued, queue]
  · exact h.kept
  · exact h.free
  · exact h.yields
  · exact h.ready
  · exact h.before
  · exact h.alone

/-- Another compressor loses its refill. -/
theorem Work.ShedBank.other {v t : Work} {k : CompId} {b : BankId} (claimant : (v.bank b).claimant = some (.comp k))
    (h : Work.ShedBank k b v t) (sheds : v.Sheds t) {i : CompId} (own : i ≠ k)
    (active : (t.comp i).active = true) : Work.ShedBank k b v (t.loseRefill i) := by
  obtain ⟨_, comp⟩ := t.loseRefill_frame i
  have sameI := sheds.unshed active
  have changed : (t.loseRefill i).comp i ≠ v.comp i := by
    rw [comp, if_pos rfl, sameI]
    exact unloading_ne (sameI ▸ active)
  have sameK : (t.loseRefill i).comp k = t.comp k := by rw [comp, if_neg own.symm]
  have unclaimed : (t.bank b).claimant ≠ some (.comp i) := by
    by_cases stands : t.comp k = v.comp k
    · rw [h.kept stands, claimant]
      simpa using own.symm
    · exact h.free stands i
  rw [Work.loseRefill_eq active] at changed sameK ⊢
  refine ⟨fun stands => ?_, fun shed j claimed => ?_, (t.loseIfActive_yields i b).trans h.yields,
    fun nobody shed => ?_, fun _ all => absurd (all i) changed, fun _ _ others => absurd (others i own) changed⟩
  · rw [Work.loseIfActive_other unclaimed]
    exact h.kept (sameK ▸ stands)
  · exact h.free (sameK ▸ shed) j (Work.loseIfActive_claimant t i j b claimed)
  · obtain ⟨ready, queued⟩ := h.ready nobody (sameK ▸ shed)
    rw [Work.loseIfActive_other unclaimed]
    exact ⟨ready, Work.loseIfActive_queued (sheds.nobody nobody) unclaimed queued⟩

section
variable {v t : Work} {k : CompId} {b : BankId} (held : (v.comp k).active = true) (bank : (v.comp k).bank = some b)
  (claimant : (v.bank b).claimant = some (.comp k)) (refilling : (v.bank b).state = .refilling)
include held bank claimant refilling

/-- The compressor loses its own refill: the bank is given back (03, R45). -/
theorem Work.ShedBank.own (h : Work.ShedBank k b v t) (sheds : v.Sheds t) (active : (t.comp k).active = true) :
    Work.ShedBank k b v (t.loseRefill k) := by
  obtain ⟨_, comp⟩ := t.loseRefill_frame k
  have same := sheds.unshed active
  have kept := h.kept same
  have bank' : (t.comp k).bank = some b := by rw [same]; exact bank
  have claimant' : (t.bank b).claimant = some (.comp k) := by rw [kept]; exact claimant
  have refilling' : (t.bank b).state = .refilling := by rw [kept]; exact refilling
  have changed : (t.loseRefill k).comp k ≠ v.comp k := by
    rw [comp, if_pos rfl, same]
    exact unloading_ne held
  have given := fun nobody => Work.loseIfActive_givenBack (sheds.nobody nobody) active bank' claimant' refilling'
  rw [Work.loseRefill_eq active] at comp changed ⊢
  refine ⟨fun stands => absurd stands changed,
    fun _ => Work.loseIfActive_free active bank' claimant' refilling', (t.loseIfActive_yields k b).trans h.yields,
    fun nobody _ => ⟨(given nobody).ready, (given nobody).queued⟩, fun _ all => absurd (all k) changed,
    fun nobody _ others => ?_⟩
  have all : ∀ j, t.comp j = v.comp j := fun j => by
    by_cases own : j = k
    · rw [own, same]
    · have stands := others j own
      rw [comp, if_neg own] at stands
      exact stands
  rw [(given nobody).queue, h.before nobody all, sheds.evolves.priorities, sheds.evolves.station]

theorem Work.ShedBank.shedNext (h : Work.ShedBank k b v t) (sheds : v.Sheds t) : Work.ShedBank k b v t.shedNext := by
  obtain ⟨i, active, next, _⟩ | ⟨_, l, _, next, _⟩ | next := t.shedNext_cases
  · rw [next]
    by_cases own : i = k
    · subst own
      exact h.own held bank claimant refilling sheds active
    · exact h.other claimant sheds own active
  · rw [next]
    exact h.of_eq rfl rfl rfl
  · rw [next]
    exact h

end

/-- Shedding as a whole (03, R45, R64). -/
theorem Work.sheds_shed (n : Nat) {v t : Work} (h : v.Sheds t) : v.Sheds (Work.shed n t) ∧
    ∀ k b, (v.comp k).active = true → (v.comp k).bank = some b → (v.bank b).claimant = some (.comp k) →
      (v.bank b).state = .refilling → Work.ShedBank k b v t → Work.ShedBank k b v (Work.shed n t) := by
  induction n generalizing t with
  | zero => exact ⟨h, fun _ _ _ _ _ _ => id⟩
  | succ n ih =>
    unfold Work.shed
    split
    · exact ⟨h, fun _ _ _ _ _ _ => id⟩
    · obtain ⟨sheds, banks⟩ := ih h.shedNext
      exact ⟨sheds, fun k b held bank claimant refilling before =>
        banks k b held bank claimant refilling (before.shedNext held bank claimant refilling h)⟩

end Sys2Proof.Machine
end

section
/-! SUPPORT. The end of a rule that serves the waiting order: which chillers it grants, what it leaves, that granted
power fits (03, R62, R63). -/
open Sys2Proof Sys2Proof.Machine
namespace Sys2Proof.Machine

/-! ### The waiting order served in a work -/

theorem Work.serveOne_eq {w : Work} (passed : w.passedOver = []) (l : LoopId) :
    w.serveOne l = { w with toState := State.serveOne w.toState l } := by
  have free : ¬ w.passedOver.contains l = true := by
    rw [passed]
    exact Bool.false_ne_true
  unfold Work.serveOne State.serveOne State.chillerFits
  by_cases room : w.granted + (w.loop l).draw ≤ w.station.allowance
  · rw [if_pos room]
    exact (if_neg free).trans ((if_pos (decide_eq_true room)).trans rfl)
  · rw [if_neg room]
    exact (if_neg free).trans (if_neg (by rw [decide_eq_true_eq]; exact room))

/-- A rule that shed no chiller serves the waiting order as a state does (03, R63). -/
theorem Work.serveWaiting_eq {w : Work} (passed : w.passedOver = []) :
    w.serveWaiting = { w with toState := ServedOrder w.toState } := by
  have served : ∀ (ls : List LoopId) (v : Work), v.passedOver = [] →
      Work.each Work.serveOne ls v = { v with toState := ls.foldl State.serveOne v.toState } := fun ls => by
    induction ls with
    | nil => exact fun _ _ => rfl
    | cons l ls ih =>
      intro v free
      show Work.each Work.serveOne ls (v.serveOne l) = _
      rw [Work.serveOne_eq free]
      exact ih { v with toState := State.serveOne v.toState l } free
  exact served w.powerQueue w passed

/-- The port and the answer are no part of the serving. -/
theorem servedOrder_answered (s : State) (x : Port) (out : List Byte) :
    ServedOrder { s with port := x, hostOut := out } = { ServedOrder s with port := x, hostOut := out } := by
  have one : ∀ (u : State) (l : LoopId), State.serveOne { u with port := x, hostOut := out } l =
      { State.serveOne u l with port := x, hostOut := out } := fun u l => by
    by_cases room : u.granted + (u.loop l).draw ≤ u.station.allowance
    · exact (if_pos room).trans (by unfold State.serveOne; rw [if_pos room]; rfl)
    · exact (if_neg room).trans (by unfold State.serveOne; rw [if_neg room])
  have served : ∀ (ls : List LoopId) (u : State), ls.foldl State.serveOne { u with port := x, hostOut := out } =
      { ls.foldl State.serveOne u with port := x, hostOut := out } := fun ls => by
    induction ls with
    | nil => exact fun _ => rfl
    | cons l ls ih =>
      intro u
      rw [List.foldl_cons, List.foldl_cons, one, ih]
  exact served s.powerQueue s

theorem State.serveOne_running {u : State} {l m : LoopId} (h : (u.loop l).chiller = .running) :
    ((State.serveOne u m).loop l).chiller = .running := by
  unfold State.serveOne
  split
  · show ((u.loops.set m { u.loop m with chiller := .running }).get l).chiller = .running
    rw [get_set_eq]
    split
    · rfl
    · exact h
  · exact h

/-- The first chiller of the order runs if its draw fits (03, R63). -/
theorem servedOrder_first {s : State} {l : LoopId} {rest : List LoopId} (order : s.powerQueue = l :: rest)
    (fits : s.granted + (s.loop l).draw ≤ s.station.allowance) : ((ServedOrder s).loop l).chiller = .running := by
  have kept : ∀ (ls : List LoopId) (u : State), (u.loop l).chiller = .running →
      ((ls.foldl State.serveOne u).loop l).chiller = .running := fun ls => by
    induction ls with
    | nil => exact fun _ => id
    | cons m ls ih => exact fun u runs => ih _ (State.serveOne_running runs)
  rw [servedOrder_eq, order]
  refine kept rest _ ?_
  unfold State.serveOne
  rw [if_pos fits]
  show ((s.loops.set l { s.loop l with chiller := .running }).get l).chiller = .running
  rw [get_set_eq, if_pos rfl]

/-! ### The rule's end -/

theorem Work.wound_serves {w : Work} (serve : w.serveDue = true) (due : w.evalDue = true) :
    w.wound = w.serveWaiting.evaluate := by
  unfold Work.wound
  dsimp only
  rw [if_pos serve, if_pos due]

/-- A rule that released a draw ends with the order served and an evaluation (03, R49, R63). -/
theorem Work.close_servedOrder {w : Work} (serve : w.serveDue = true) (due : w.evalDue = true)
    (passed : w.passedOver = []) (s0 : State) (x : Port) (out : List Byte) :
    EvaluationMade (ServedOrder { w.toState with port := x, hostOut := out })
      { w.close s0 with port := x, hostOut := out } := by
  have order := servedOrder_answered w.toState x out
  have alike := ((ServedOrder { w.toState with port := x, hostOut := out }).begin).evaluate_aside w.serveWaiting
  have begun : (ServedOrder { w.toState with port := x, hostOut := out }).begin =
      ((ServedOrder { w.toState with port := x, hostOut := out }).begin).aside w.serveWaiting := by
    rw [Work.serveWaiting_eq passed, order]
    rfl
  have evaluated : ({ w.close s0 with port := x, hostOut := out } : State) =
      { (ServedOrder { w.toState with port := x, hostOut := out }).begin.evaluate.toState with
        link := (w.close s0).link } := by
    rw [begun, alike, w.close_frame s0, Work.wound_serves serve due, order]
    rfl
  exact evaluationMade_of_evaluate (w := (ServedOrder { w.toState with port := x, hostOut := out }).begin)
    evaluated rfl

/-- An evaluation leaves the loops, so the rule's end leaves them as the serving did. -/
theorem Work.close_servedLoops {w : Work} (serve : w.serveDue = true) (due : w.evalDue = true)
    (passed : w.passedOver = []) (s0 : State) (l : LoopId) :
    (w.close s0).loop l = (ServedOrder w.toState).loop l := by
  have frame := w.serveWaiting.scheduleWork_evaluate
  unfold Work.ScheduleWork at frame
  unfold State.loop
  rw [Work.close_loops, Work.wound_serves serve due, frame, Work.serveWaiting_eq passed]

/-! ### Granted power fits at the rule's end -/

theorem Work.serveOne_fits {w : Work} (h : w.PowerFits) (l : LoopId) : (w.serveOne l).PowerFits := by
  unfold Work.serveOne
  split
  · exact h
  · split
    · next fits =>
      have room : w.granted + (w.loop l).draw ≤ w.station.allowance := of_decide_eq_true fits
      have total := ({ w with powerQueue := w.powerQueue.filter (fun m => m != l) } : Work).granted_modLoop l
        (Loop.switch .running)
      have draw : ((w.loop l).switch .running).heldDraw ≤ (w.loop l).draw := Loop.heldDraw_le _
      show (({ w with powerQueue := w.powerQueue.filter (fun m => m != l) } : Work).modLoop l
        (Loop.switch .running)).granted ≤ w.station.allowance
      have same : ({ w with powerQueue := w.powerQueue.filter (fun m => m != l) } : Work).granted = w.granted := rfl
      have loop : ({ w with powerQueue := w.powerQueue.filter (fun m => m != l) } : Work).loop l = w.loop l := rfl
      rw [same, loop] at total
      omega
    · exact h

theorem Work.visit_fits {w : Work} (h : w.PowerFits) (e : QueueEntry) : (w.visit e).PowerFits := by
  unfold Work.visit
  dsimp only
  split
  · split
    · exact h
    · split
      · next k chosen =>
        obtain ⟨_, _, _, room⟩ := State.chooseComp_takes chosen
        have within : w.granted ≤ w.station.allowance := h
        have total := w.granted_modComp k (Compressor.startOn e.bank w.station.clock)
        have draw : ((w.comp k).startOn e.bank w.station.clock).heldDraw ≤ (w.comp k).draw := Compressor.heldDraw_le _
        show (w.modComp k (Compressor.startOn e.bank w.station.clock)).granted ≤ w.station.allowance
        omega
      · exact h
  · exact h

/-- Serving and scheduling grant only what fits the allowance (03, R62, R63). -/
theorem Work.close_fits {w : Work} (h : w.PowerFits) (s0 : State) : (w.close s0).PowerFits := by
  have walk : ∀ {α : Type} (f : α → Work → Work), (∀ x (v : Work), v.PowerFits → (f x v).PowerFits) →
      ∀ (xs : List α) (v : Work), v.PowerFits → (Work.each f xs v).PowerFits := fun f step xs v =>
    Work.each_keeps (fun v u => v.PowerFits → u.PowerFits) (fun _ => id) (fun p q x => q (p x)) f step xs v
  have served : (if w.serveDue then w.serveWaiting else w).PowerFits := by
    split
    · exact walk _ (fun l v fits => Work.serveOne_fits fits l) _ w h
    · exact h
  have evaluated : ∀ v : Work, v.PowerFits → v.evaluate.PowerFits := fun v fits => by
    unfold Work.evaluate
    split
    · exact walk _ (fun e u within => Work.visit_fits within e) _ v fits
    · exact fits
  have wound : w.wound.PowerFits := by
    unfold Work.wound
    dsimp only
    split
    · exact evaluated _ served
    · exact served
  rw [w.close_frame s0]
  exact wound

/-! ### Chillers at the rule's end -/

theorem Work.close_order (w : Work) (s0 : State) :
    (w.close s0).loops = (if w.serveDue then w.serveWaiting else w).loops ∧
      (w.close s0).powerQueue = (if w.serveDue then w.serveWaiting else w).powerQueue := by
  have step : ∀ u : Work, u.ScheduleWork (if w.evalDue then u.evaluate else u) := fun u => by
    split
    · exact u.scheduleWork_evaluate
    · rfl
  have frame : (if w.serveDue then w.serveWaiting else w).ScheduleWork w.wound := step _
  unfold Work.ScheduleWork at frame
  rw [Work.close_loops, Work.close_powerQueue, frame]
  exact ⟨rfl, rfl⟩

/-- A chiller that runs goes on as it is. -/
theorem Work.close_loop_running {w : Work} {l : LoopId} (running : (w.loop l).chiller = .running) (s0 : State) :
    (w.close s0).loop l = w.loop l := by
  have one : ∀ (m : LoopId) (v : Work), (v.loop l).chiller = .running → (v.serveOne m).loop l = v.loop l := by
    intro m v runs
    unfold Work.serveOne
    split
    · rfl
    · split
      · refine (Work.modLoop_loop { v with powerQueue := v.powerQueue.filter (fun y => y != m) } m l _).trans ?_
        split
        · next own =>
          subst own
          show { v.loop l with chiller := .running } = v.loop l
          rw [← runs]
        · rfl
      · rfl
  have all : w.serveWaiting.loop l = w.loop l :=
    Work.each_keeps (fun v u => (v.loop l).chiller = .running → u.loop l = v.loop l) (fun _ _ => rfl)
      (fun p q runs => (q (by rw [p runs]; exact runs)).trans (p runs)) Work.serveOne one _ w running
  refine (congrArg (·.get l) (w.close_order s0).1).trans ?_
  split
  · exact all
  · rfl

/-- What the serving does to the chiller of `l`, where the rule has shed it. -/
def Work.PassesOver (l : LoopId) (w t : Work) : Prop :=
  l ∈ w.passedOver → t.loop l = w.loop l ∧ (l ∈ w.powerQueue → l ∈ t.powerQueue) ∧ l ∈ t.passedOver

/-- A chiller shed by the rule waits at its end, in the order (03, R64). -/
theorem Work.close_passed {w : Work} {l : LoopId} (passed : l ∈ w.passedOver) (waits : l ∈ w.powerQueue) (s0 : State) :
    (w.close s0).loop l = w.loop l ∧ l ∈ (w.close s0).powerQueue := by
  have one : ∀ (m : LoopId) (v : Work), Work.PassesOver l v (v.serveOne m) := by
    intro m v shed
    unfold Work.serveOne
    split
    · exact ⟨rfl, id, shed⟩
    · next free =>
      split
      · have other : l ≠ m := by
          rintro rfl
          exact free (List.contains_iff_mem.mpr shed)
        refine ⟨Work.modLoop_loop_ne _ _ other, fun inside => List.mem_filter.mpr ⟨inside, by simpa using other⟩, shed⟩
      · exact ⟨rfl, id, shed⟩
  have all : Work.PassesOver l w w.serveWaiting :=
    Work.each_keeps (Work.PassesOver l) (fun _ shed => ⟨rfl, id, shed⟩) (fun p q shed => by
      obtain ⟨loop, order, still⟩ := p shed
      obtain ⟨loop', order', still'⟩ := q still
      exact ⟨loop'.trans loop, fun inside => order' (order inside), still'⟩) Work.serveOne one _ w
  obtain ⟨loops, order⟩ := w.close_order s0
  obtain ⟨loop, stays, _⟩ := all passed
  rw [order]
  refine ⟨(congrArg (·.get l) loops).trans ?_, ?_⟩
  · split
    · exact loop
    · rfl
  · split
    · exact stays waits
    · exact waits

end Sys2Proof.Machine
end

section
/-! A write of the power allowance (03, R62 to R64). -/
open Sys2Proof Sys2Proof.Machine
namespace Sys2Proof.Machine

/-! ### Shedding and the end of its rule -/

/-- What a rule leaves that sheds holders from `v` until granted power fits (03, R45, R64). -/
structure Work.ShedTo (v : Work) (t : State) : Prop where
  fits : t.granted ≤ v.station.allowance
  requested : t.requested 14
  comp : ∀ k, (v.comp k).active = true → t.comp k = v.comp k ∨ t.comp k = Unloading (v.comp k)
  first : ∀ k j, (v.comp k).active = true → (v.comp j).active = true → t.comp k ≠ v.comp k → t.comp j = v.comp j →
    v.CompFirst k j
  bank : ∀ k b, (v.comp k).active = true → t.comp k ≠ v.comp k → (v.comp k).bank = some b →
    (v.bank b).claimant = some (.comp k) → (v.bank b).state = .refilling →
    (t.bank b).claimant ≠ some (.comp k) ∧ (t.bank b).yields = (v.bank b).yields ∧
    (v.waitList = [] → ¬ Evaluates v.toState → (t.bank b).state = .ready ∧ t.queued b = true) ∧
    (v.waitList = [] → ¬ Evaluates v.toState → v.QueueLaw → (∀ j, j ≠ k → t.comp j = v.comp j) →
      t.refillQueue = QueuedAtFront v.toState { bank := b, stamp := v.station.clock })
  chiller : ∀ l, (v.loop l).chiller = .running → t.loop l ≠ v.loop l → (t.loop l).chiller = .waitingPower ∧
    l ∈ t.powerQueue ∧ ∀ k, (v.comp k).active = true → (t.comp k).state = .unloading
  chillers : (∀ k, (v.comp k).active = false) → ∀ l m, (v.loop l).chiller = .running →
    (v.loop m).chiller = .running → t.loop l ≠ v.loop l → t.loop m = v.loop m → v.LoopFirst l m

/-- A RUNNING compressor is shed only after every STARTING one (03, R64). -/
theorem Work.ShedTo.starting_first {v : Work} {t : State} (h : v.ShedTo t) {k j : CompId}
    (starting : (v.comp k).state = .starting) (running : (v.comp j).state = .running)
    (changed : t.comp j ≠ v.comp j) : (t.comp k).state = .unloading := by
  have active := Compressor.active_iff.mpr (.inl starting)
  obtain stands | shed := h.comp k active
  · obtain ⟨early, _⟩ | ⟨same, _⟩ := h.first j k (Compressor.active_iff.mpr (.inr running)) active changed stands
    · rw [running] at early
      cases early
    · rw [starting, running] at same
      cases same
  · rw [shed]
    rfl

/-- Of two compressors in one state the one with the lower refill priority is shed first, K1 between equals (03, R64).
-/
theorem Work.ShedTo.lower_first {v : Work} {t : State} (h : v.ShedTo t) {k j : CompId}
    (active : (v.comp k).active = true) (same : (v.comp j).state = (v.comp k).state) (changed : t.comp k ≠ v.comp k)
    (stands : t.comp j = v.comp j) :
    v.shedPriority k < v.shedPriority j ∨ (v.shedPriority k = v.shedPriority j ∧ k = 1) := by
  have activeJ : (v.comp j).active = true := by
    rw [Compressor.active_iff, same]
    exact Compressor.active_iff.mp active
  obtain ⟨early, late⟩ | ⟨_, priority⟩ := h.first k j active activeJ changed stands
  · rw [early, late] at same
    cases same
  · exact priority

theorem Work.raise_requested (w : Work) : (w.raise 14).requested 14 := by
  show (w.notices.requests ||| BitVec.twoPow 16 14).getLsbD 14 = true
  simp

theorem Work.Sheds.raised {v u : Work} (h : v.Sheds u) : v.Sheds (u.raise 14) :=
  ⟨h.evolves.trans (Work.evolves_raise _ 14), h.comp, h.comps,
    fun l => (h.loop l).imp_right fun shed => ⟨shed.running, shed.waiting, shed.order, shed.passed, shed.idle⟩,
    h.loops, h.nobody⟩

/-- Holders shed until granted power fits, and the end of the rule (03, R45, R64). -/
theorem Work.Sheds.shedTo {v w : Work} (sheds : v.Sheds w) (banks : ∀ k b, (v.comp k).active = true →
      (v.comp k).bank = some b → (v.bank b).claimant = some (.comp k) → (v.bank b).state = .refilling →
      Work.ShedBank k b v w)
    (within : w.PowerFits) (raised : w.requested 14) (s0 : State) : v.ShedTo (w.close s0) := by
  have evolves := sheds.evolves
  have fits : (w.close s0).granted ≤ v.station.allowance := by
    have bound := Work.close_fits within s0
    unfold State.PowerFits at bound
    rw [(w.settles_close s0).station, evolves.station] at bound
    exact bound
  have comp := sheds.comp
  have busy : ∀ k, (v.comp k).active = true → (w.comp k).state ≠ .stopped := fun k active stopped => by
    obtain same | ⟨_, shed⟩ := comp k
    · rw [same] at stopped
      unfold Compressor.active at active
      rw [stopped] at active
      cases active
    · rw [shed] at stopped
      cases stopped
  have ends : ∀ k, (v.comp k).active = true → (w.close s0).comp k = w.comp k :=
    fun k active => Work.close_comp_busy (busy k active) s0
  have changes : ∀ l, (v.loop l).chiller = .running → (w.close s0).loop l ≠ v.loop l → w.loop l ≠ v.loop l :=
    fun l running changed same => changed <|
      (Work.close_loop_running (by rw [same]; exact running) s0).trans same
  refine ⟨fits, (w.settles_close s0).requested raised, fun k active => ?_,
    fun k j active activeJ changed stands => ?_, fun k b active changed bank claimant refilling => ?_,
    fun l running changed => ?_, fun idle l m running runningM changed stands => ?_⟩
  · rw [ends k active]
    exact (comp k).imp_right (·.2)
  · rw [ends k active] at changed
    rw [ends j activeJ] at stands
    exact sheds.comps k j active changed activeJ stands
  · have shed := banks k b active bank claimant refilling
    rw [ends k active] at changed
    have still : ¬ Evaluates v.toState → w.Unevaluated := fun off => .inl fun on => off (by
      rw [evolves.station, evolves.suction] at on
      exact on)
    refine ⟨Work.close_unclaimed (busy k active) (shed.free changed k) s0, ?_, fun nobody off => ?_,
      fun nobody off law others => ?_⟩
    · rw [Work.close_yields]
      exact shed.yields
    · obtain ⟨sameBanks, _, sameQueue⟩ := (still off).close s0
      obtain ⟨ready, queued⟩ := shed.ready nobody changed
      exact ⟨(congrArg (fun x => (x.get b).state) sameBanks).trans ready,
        (congrArg (List.any · _) sameQueue).trans queued⟩
    · obtain ⟨_, _, sameQueue⟩ := (still off).close s0
      rw [sameQueue, shed.alone nobody changed fun j other => (comp j).resolve_right fun shedJ => ?_]
      · exact placeFront_eq (e := { bank := b, stamp := v.station.clock }) law.2.2
      · have stands := others j other
        rw [ends j shedJ.1, shedJ.2] at stands
        exact unloading_ne shedJ.1 stands
  · have shed := (sheds.loop l).resolve_left (changes l running changed)
    obtain ⟨loop, stays⟩ := Work.close_passed shed.passed shed.order s0
    refine ⟨?_, stays, fun k active => ?_⟩
    · rw [loop, shed.waiting]
      rfl
    · rw [ends k active]
      obtain same | ⟨_, unloading⟩ := comp k
      · have idle := shed.idle k
        rw [same, active] at idle
        cases idle
      · rw [unloading]
        rfl
  · obtain ⟨_, first⟩ := sheds.loops idle
    refine first l m running runningM (changes l running changed) ?_
    refine (sheds.loop m).resolve_right fun shed => ?_
    obtain ⟨loop, _⟩ := Work.close_passed shed.passed shed.order s0
    rw [loop, shed.waiting] at stands
    rw [← stands] at runningM
    cases runningM

/-- The work at the end of a shedding, N14 raised (03, R64). -/
def Work.shedAll (v : Work) : Work := (Work.shed 4 v).raise 14

theorem Work.shedAll_shedTo (v : Work) (s0 : State) :
    State.Settles v.toState (v.shedAll.close s0) ∧ v.ShedTo (v.shedAll.close s0) := by
  have fits := Work.shed_fits 4 v.holders_le
  obtain ⟨sheds, banks⟩ := Work.sheds_shed 4 (.refl v)
  unfold Work.shedAll
  generalize Work.shed 4 v = u at fits sheds banks ⊢
  rw [← sheds.evolves.station] at fits
  exact ⟨sheds.raised.evolves.toSettles.trans (Work.settles_close _ s0),
    sheds.raised.shedTo (fun k b active bank claimant refilling =>
      (banks k b active bank claimant refilling (.refl k b v)).of_eq rfl rfl rfl) fits u.raise_requested s0⟩

/-! ### The write -/

/-- A taken SET of one field, by what its owner writes. -/
theorem portRequest_setField_written {r : Request} {s : State} {ref : RecordRef} {n : Nat} {w : Work} (hop : r.op = 2)
    (hw : r.tail.Whole n) (hn : 0 < n) (href : r.resolve s.port.window = .ok ref)
    (hf : ref.widths[r.field.toNat]? = some n)
    (hc : fieldFails ref [(r.field.toNat, leValue r.tail.data)] r.field.toNat (leValue r.tail.data) (s.heard r) = [])
    (write : (s.heard r).begin.writeField ref r.field.toNat (leValue r.tail.data) = w) :
    portRequest r s = (w.close (s.heard r)).recordResult .ok := by
  rw [portRequest_setField_taken hop hw hn href hf hc, write]

theorem leValue_pair (lo hi : Byte) : leValue [lo, hi] = lo.toNat + 256 * hi.toNat := by simp [leValue]

section
variable {a : Addr} {tail : Tail} {s : State} {n : Nat} (names : a.Names .station s.port.window) (whole : tail.Whole 2)
  (value : n = leValue tail.data)
include names whole value

theorem allowanceWrite_refused (out : 2000 < n) :
    exec (.powerAllowanceWrite a tail) s = .next (s.refusedWith (addrRequest a 2 0 6 tail) .range) := by
  subst value
  refine congrArg Host.Outcome.next (portRequest_setField_refused rfl whole (by decide)
    (addrRequest_resolve names (cls := 0) rfl 2 6 tail) rfl ?_ (by decide))
  exact (congrArg firstFault (inRange_outside (.inr out))).trans firstFault_range

theorem allowanceWrite_taken (within : n ≤ 2000) : exec (.powerAllowanceWrite a tail) s =
    .next (State.recordResult .ok (((s.heard (addrRequest a 2 0 6 tail)).begin.allowanceWrite n).close
      (s.heard (addrRequest a 2 0 6 tail)))) := by
  subst value
  exact congrArg Host.Outcome.next (portRequest_setField_written (r := addrRequest a 2 0 6 tail) rfl whole
    (by decide) (addrRequest_resolve names (cls := 0) rfl 2 6 tail) rfl (inRange_within (Nat.zero_le _) within) rfl)

end

/-- The work with the allowance written. -/
def Work.allow (n : Nat) (w : Work) : Work := w.modStation (fun x => { x with allowance := n })

theorem Work.allowanceWrite_raise {w : Work} {n : Nat} (up : w.station.allowance < n) :
    w.allowanceWrite n = (w.allow n).releasedDraw := if_pos up

theorem Work.allowanceWrite_sheds {w : Work} {n : Nat} (down : n ≤ w.station.allowance) (short : n < w.granted) :
    w.allowanceWrite n = (w.allow n).shedAll := (if_neg (Nat.not_lt.mpr down)).trans (if_pos short)

theorem Work.allowanceWrite_fits {w : Work} {n : Nat} (down : n ≤ w.station.allowance) (fits : w.granted ≤ n) :
    w.allowanceWrite n = w.allow n := (if_neg (Nat.not_lt.mpr down)).trans (if_neg (Nat.not_lt.mpr fits))

/-- A raise with no chiller waiting, on a station that makes no evaluation, changes the field alone. -/
theorem Work.close_raised {w : Work} {s0 : State} (nobody : w.powerQueue = []) (off : ¬ Evaluates w.toState)
    (routes : w.routes = s0.routes) : w.releasedDraw.close s0 = w.toState := by
  have served : w.releasedDraw.serveWaiting = w.releasedDraw := by
    unfold Work.serveWaiting
    rw [show w.releasedDraw.powerQueue = [] from nobody]
    rfl
  have same : w.releasedDraw.wound = w.releasedDraw := by
    rw [Work.wound_serves rfl rfl, served]
    exact Work.evaluate_off off
  rw [Work.close_eq, same]
  exact if_pos routes

/-! ### The taken write -/

theorem State.taken_recorded {s t : State} {r : Request} (port : t.port = s.port) (out : t.hostOut = s.reads r) :
    s.Taken (t.recordResult .ok) r :=
  ⟨congrArg (fun x : Port => { x with lastResult := .ok }) port, out⟩

/-- What a raise of the allowance leaves (03, R49 to R51, R62, R63). -/
structure State.Raised (s : State) (r : Request) (n : Nat) (t : State) : Prop where
  taken : s.Taken t r
  station : t.station = { s.station with allowance := n }
  positions : t.positions = s.positions
  holds : t.holds = s.holds
  first : ∀ (l : LoopId) (rest : List LoopId), s.powerQueue = l :: rest → s.granted + (s.loop l).draw ≤ n →
    (t.loop l).chiller = .running
  fits : s.granted ≤ n → t.granted ≤ n
  made : EvaluationMade (ServedOrder { s.answered r with station := { s.station with allowance := n } }) t

theorem State.raised_close (s : State) (r : Request) (n : Nat) :
    s.Raised r n ((((s.heard r).begin.allow n).releasedDraw.close (s.heard r)).recordResult .ok) := by
  have settles := Work.settles_close ((s.heard r).begin.allow n).releasedDraw (s.heard r)
  have positions := Work.close_positions ((s.heard r).begin.allow n).releasedDraw (s.heard r)
  have loops := Work.close_servedLoops (w := ((s.heard r).begin.allow n).releasedDraw) rfl rfl rfl (s.heard r)
  have fits := fun h => Work.close_fits (w := ((s.heard r).begin.allow n).releasedDraw) h (s.heard r)
  have made := Work.close_servedOrder (w := ((s.heard r).begin.allow n).releasedDraw) rfl rfl rfl (s.heard r)
    { s.port with lastResult := .ok } (s.reads r)
  have first := fun l rest => servedOrder_first (s := ((s.heard r).begin.allow n).releasedDraw.toState) (l := l)
    (rest := rest)
  generalize ((s.heard r).begin.allow n).releasedDraw.close (s.heard r) = t at settles positions loops fits made ⊢
  have port : t.port = s.port := settles.port
  have out : t.hostOut = s.reads r := settles.hostOut
  have answer : t.recordResult .ok = { t with port := { s.port with lastResult := .ok }, hostOut := s.reads r } := by
    rw [State.recordResult_ok, ← port, ← out]
  have station : t.station = { s.station with allowance := n } := settles.station
  refine ⟨State.taken_recorded port out, station, positions, settles.holds, fun l rest order room => ?_,
    fun before => ?_, ?_⟩
  · exact (congrArg Loop.chiller (loops l)).trans (first l rest order room)
  · have within := fits before
    unfold State.PowerFits at within
    rw [station] at within
    exact within
  · rw [answer]
    exact made

/-- What a cut of the allowance below granted power leaves. -/
structure State.Cut (s : State) (r : Request) (n : Nat) (t : State) : Prop where
  taken : s.Taken t r
  station : t.station = { s.station with allowance := n }
  settings : s.SameSettings t
  holds : t.holds = s.holds
  shed : ((s.heard r).begin.allow n).ShedTo t

/-- The recorded result is no part of it. -/
theorem Work.ShedTo.recorded {v : Work} {t : State} (h : v.ShedTo t) : v.ShedTo (t.recordResult .ok) :=
  ⟨h.fits, h.requested, h.comp, h.first, h.bank, h.chiller, h.chillers⟩

theorem State.cut_close (s : State) (r : Request) (n : Nat) :
    s.Cut r n ((((s.heard r).begin.allow n).shedAll.close (s.heard r)).recordResult .ok) := by
  obtain ⟨settles, shed⟩ := ((s.heard r).begin.allow n).shedAll_shedTo (s.heard r)
  generalize ((s.heard r).begin.allow n).shedAll.close (s.heard r) = t at shed settles ⊢
  exact ⟨State.taken_recorded settles.port settles.hostOut, settles.station, settles.sameSettings, settles.holds,
    shed.recorded⟩

end Sys2Proof.Machine

/-- Settles O24: a raise owes the serving of the order and an evaluation; a cut below granted power leaves what
`Work.ShedTo` says. -/
theorem allowanceWriteSheds : Obligations.AllowanceWriteSheds := by
  unfold Obligations.AllowanceWriteSheds
  intro a tail lo hi n s names whole data sum
  have value : n = leValue tail.data := by rw [data, leValue_pair, sum]
  have runs := allowanceWrite_taken names whole value
  refine ⟨allowanceWrite_refused names whole value, fun down within fits => ?_,
    fun up within => ⟨fun nobody off => ?_, ?_⟩, fun down within short => ?_⟩
  · rw [runs within,
      Work.allowanceWrite_fits (w := (s.heard (addrRequest a 2 0 6 tail)).begin) down fits,
      Work.close_quiet (w := (s.heard (addrRequest a 2 0 6 tail)).begin.allow n)
        (s0 := s.heard (addrRequest a 2 0 6 tail)) rfl rfl rfl]
    rfl
  · rw [runs within,
      Work.allowanceWrite_raise (w := (s.heard (addrRequest a 2 0 6 tail)).begin) up,
      Work.close_raised (w := (s.heard (addrRequest a 2 0 6 tail)).begin.allow n)
        (s0 := s.heard (addrRequest a 2 0 6 tail)) nobody off rfl]
    rfl
  · have raised := s.raised_close (addrRequest a 2 0 6 tail) n
    rw [runs within, Work.allowanceWrite_raise (w := (s.heard (addrRequest a 2 0 6 tail)).begin) up]
    exact ⟨_, rfl, raised.taken, raised.station, raised.positions, raised.holds, raised.first, raised.fits, raised.made⟩
  · have cut := s.cut_close (addrRequest a 2 0 6 tail) n
    rw [runs within, Work.allowanceWrite_sheds (w := (s.heard (addrRequest a 2 0 6 tail)).begin) down short]
    generalize (((s.heard (addrRequest a 2 0 6 tail)).begin.allow n).shedAll.close
      (s.heard (addrRequest a 2 0 6 tail))).recordResult .ok = t at cut ⊢
    have shed := cut.shed
    refine ⟨t, rfl, cut.taken, cut.station, shed.fits, shed.requested, fun k active => ?_, shed.bank,
      fun k j starting running changed => shed.starting_first starting running changed,
      fun l k running changed => ?_,
      fun k j active same _ changed stands => shed.lower_first active same changed stands,
      fun l m idle running runningM _ changed stands => shed.chillers idle l m running runningM changed stands,
      cut.settings, cut.holds⟩
    · refine (shed.comp k active).imp_right fun unloads => ?_
      rw [unloads]
      exact ⟨rfl, rfl, rfl⟩
    · obtain ⟨waiting, order, idle⟩ := shed.chiller l running changed
      exact ⟨waiting, order, idle k⟩
end

section
/-! SUPPORT. A SET of one field, judged: PHASE, then STATE, then RANGE (09, R162, R164). -/
open Sys2Proof Sys2Proof.Machine
namespace Sys2Proof.Machine

/-! ### The first fault -/

theorem firstFault_readOnly {fails : List Result} (h : .readOnly ∈ fails) : firstFault fails = .readOnly := by
  simp [firstFault, recordFaults, h]

theorem firstFault_of_phase {fails : List Result} (h : .phase ∈ fails) (no : .readOnly ∉ fails) :
    firstFault fails = .phase := by
  simp [firstFault, recordFaults, h, no]

/-- Checks that fail with RANGE alone. -/
def RangeOnly (fails : List Result) : Prop := ∀ x ∈ fails, x = .range

theorem RangeOnly.not_mem {fails : List Result} (h : RangeOnly fails) {x : Result} (other : x ≠ .range) :
    x ∉ fails := fun mem => other (h x mem)

theorem firstFault_ranges {fails : List Result} (h : RangeOnly fails) (some : fails ≠ []) :
    firstFault fails = .range := by
  obtain ⟨x, mem⟩ := List.exists_mem_of_ne_nil fails some
  have here : .range ∈ fails := h x mem ▸ mem
  simp [firstFault, recordFaults, here, h.not_mem (x := .readOnly) (by decide), h.not_mem (x := .phase) (by decide),
    h.not_mem (x := .halted) (by decide), h.not_mem (x := .state) (by decide), h.not_mem (x := .busy) (by decide)]

theorem firstFault_state {fails : List Result} (h : RangeOnly fails) : firstFault (.state :: fails) = .state := by
  simp [firstFault, recordFaults, h.not_mem (x := .readOnly) (by decide), h.not_mem (x := .phase) (by decide),
    h.not_mem (x := .halted) (by decide)]

theorem rangeOnly_orFail (ok : Bool) : RangeOnly (orFail ok .range) := by
  unfold RangeOnly orFail
  split <;> simp

/-- The checks of a value against `lo` to `hi`. -/
structure JudgesRange (lo hi v : Nat) (fails : List Result) : Prop where
  only : RangeOnly fails
  within : lo ≤ v → v ≤ hi → fails = []
  outside : v < lo ∨ hi < v → fails ≠ []

theorem judgesRange_inRange (lo hi v : Nat) : JudgesRange lo hi v (inRange lo hi v) where
  only := rangeOnly_orFail _
  within := inRange_within
  outside := fun out => by rw [inRange_outside out]; simp

theorem judgesRange_orFail {lo hi v : Nat} {ok : Bool} (h : ok = true ↔ lo ≤ v ∧ v ≤ hi) :
    JudgesRange lo hi v (orFail ok .range) where
  only := rangeOnly_orFail ok
  within := fun low high => orFail_pass (h.mpr ⟨low, high⟩) _
  outside := fun out => by
    rw [orFail_fail fun passed => by have inside := h.mp passed; omega]
    simp

/-- Two checks that together are one range. -/
theorem JudgesRange.append {lo hi v a b c d : Nat} {xs ys : List Result} (h : JudgesRange a b v xs)
    (g : JudgesRange c d v ys) (both : (lo ≤ v ∧ v ≤ hi) ↔ (a ≤ v ∧ v ≤ b) ∧ (c ≤ v ∧ v ≤ d)) :
    JudgesRange lo hi v (xs ++ ys) where
  only := fun x mem => (List.mem_append.mp mem).elim (h.only x) (g.only x)
  within := fun low high => by
    obtain ⟨⟨h1, h2⟩, g1, g2⟩ := both.mp ⟨low, high⟩
    rw [h.within h1 h2, g.within g1 g2, List.append_nil]
  outside := fun out none => by
    obtain ⟨noXs, noYs⟩ := List.append_eq_nil_iff.mp none
    have inside : lo ≤ v ∧ v ≤ hi := both.mpr
      ⟨by by_contra far; exact h.outside (by omega) noXs, by by_contra far; exact g.outside (by omega) noYs⟩
    omega

/-! ### One field judged -/

/-- The record a transfer names by class and number (09, R159). -/
theorem setRequest_resolve {r : Request} {ref : RecordRef} (cls : r.cls.toNat = ref.codes.1)
    (num : r.num.toNat = ref.codes.2) (window : Option RecordRef) : r.resolve window = .ok ref := by
  have other : r.cls ≠ 9 := fun nine => by
    rw [nine] at cls
    cases ref <;> simp [RecordRef.codes] at cls
  unfold Request.resolve
  rw [if_neg other, cls, num, recordOf_codes]

theorem exec_setFields {r : Request} (hop : r.op = 2) (s : State) :
    exec (.setFields r.cls r.num r.field r.tail) s = .next (portRequest r s) := by
  obtain ⟨op, cls, num, field, tail⟩ := r
  cases hop
  rfl

/-- How the owner of a field judges and writes a value: SETUP-only or not, the record's state, the range, what is
written. -/
structure FieldRule (s : State) (r : Request) (ref : RecordRef) (f v : Nat) (inSetup : Bool) (allowed : Prop)
    (lo hi : Nat) (t : State) : Prop where
  checks : ∃ states ranges : List Result, fieldFails ref [(f, v)] f v (s.heard r) =
      (if inSetup then setupOnly s else []) ++ (states ++ ranges) ∧
    (allowed → states = []) ∧ (¬ allowed → states = [.state]) ∧ JudgesRange lo hi v ranges
  writes : allowed → lo ≤ v → v ≤ hi →
    ∃ w : Work, (s.heard r).begin.writeField ref f v = w ∧ w.serveDue = false ∧ w.evalDue = false ∧
      w.routes = (s.heard r).routes ∧ { w.toState with port.lastResult := .ok } = t

/-- A SET of one field is judged as its owner says. -/
theorem FieldRule.judged {s : State} {r : Request} {ref : RecordRef} {f n : Nat} {inSetup : Bool} {allowed : Prop}
    {lo hi : Nat} {t : State} (h : FieldRule s r ref f (leValue r.tail.data) inSetup allowed lo hi t) (hop : r.op = 2)
    (cls : r.cls.toNat = ref.codes.1) (num : r.num.toNat = ref.codes.2) (hf : r.field.toNat = f)
    (width : ref.widths[f]? = some n) (pos : 0 < n) (whole : r.tail.Whole n) :
    SetJudged s r inSetup allowed lo hi t := by
  subst hf
  obtain ⟨states, ranges, checks, passes, barred, judges⟩ := h.checks
  have resolves := setRequest_resolve cls num s.port.window
  have refused : ∀ x, firstFault (fieldFails ref [(r.field.toNat, leValue r.tail.data)] r.field.toNat
      (leValue r.tail.data) (s.heard r)) = x → x ≠ .ok →
      exec (.setFields r.cls r.num r.field r.tail) s = .next (s.refusedWith r x) := fun x fault other => by
    rw [exec_setFields hop, portRequest_setField_refused hop whole pos resolves width fault other]
  have open_ : ¬(inSetup = true ∧ s.station.phase = .service) → (if inSetup then setupOnly s else []) = [] := by
    intro free
    split
    · next only =>
      refine setupOnly_setup ?_
      cases phase : s.station.phase with
      | setup => rfl
      | service => exact absurd ⟨only, phase⟩ free
    · rfl
  refine ⟨fun service => refused .phase ?_ (by decide), fun free => ⟨fun no => refused .state ?_ (by decide),
    fun can out => refused .range ?_ (by decide), fun can low high => ?_⟩⟩
  · have noReadOnly : .readOnly ∉ states := by
      by_cases can : allowed
      · rw [passes can]; simp
      · rw [barred can]; simp
    rw [checks, if_pos service.1, setupOnly_service service.2]
    refine firstFault_of_phase (by simp) fun mem => ?_
    simp only [List.cons_append, List.nil_append, List.mem_cons, List.mem_append] at mem
    obtain phase | state | range := mem
    · cases phase
    · exact noReadOnly state
    · exact judges.only.not_mem (by decide) range
  · rw [checks, open_ free, barred no]
    exact firstFault_state judges.only
  · rw [checks, open_ free, passes can]
    exact firstFault_ranges judges.only (judges.outside out)
  · obtain ⟨w, write, serve, due, routes, result⟩ := h.writes can low high
    rw [exec_setFields hop, portRequest_setField_plain hop whole pos resolves width (by
      rw [checks, open_ free, passes can, judges.within low high]
      rfl) write serve due routes, result]

theorem Work.modPos_routes (w : Work) (p : PosId) {f : Position → Position}
    (route : (f (w.pos p)).ses.route = (w.pos p).ses.route) : (w.modPos p f).routes = w.routes := by
  have same : ∀ q, ((w.modPos p f).pos q).ses.route = (w.pos q).ses.route := fun q => by
    rw [Work.modPos_pos]
    split
    · next here => rw [here, route]
    · rfl
  unfold State.routes
  simp only [same]
  rfl

/-- The value of `n` bytes is below 256 to the power `n` (11, R179). -/
theorem leValue_lt (data : List Byte) : leValue data < 256 ^ data.length := by
  induction data with
  | nil => decide
  | cons b bs ih =>
    have byte := b.isLt
    rw [leValue, List.length_cons, Nat.pow_succ]
    omega

end Sys2Proof.Machine
end

section
/-! SETs of compressors, loops, positions and holds (03, R42; 04, R68; 05, R87; 08, R148). -/
open Sys2Proof Sys2Proof.Machine
namespace Sys2Proof.Machine

/-! ### Compressors and loops -/

/-- A SET of a compressor field (03, R42). -/
theorem compSet {s : State} {k : CompId} {r : Request} {f n lo hi : Nat} {inSetup : Bool} {c : Compressor}
    (hop : r.op = 2) (hcls : r.cls = 2) (num : r.num.toNat = k.val) (hf : r.field.toNat = f)
    (width : (RecordRef.comp k).widths[f]? = some n) (pos : 0 < n) (whole : r.tail.Whole n)
    (checks : ∀ v (u : State), compFails f v u = (if inSetup then setupOnly u else []) ++ inRange lo hi v)
    (written : lo ≤ leValue r.tail.data → leValue r.tail.data ≤ hi → (s.comp k).write f (leValue r.tail.data) = c) :
    SetJudged s r inSetup True lo hi { s.answered r with comps := s.comps.set k c } := by
  have rule : FieldRule s r (.comp k) f (leValue r.tail.data) inSetup True lo hi
      { s.answered r with comps := s.comps.set k c } := by
    refine ⟨⟨[], _, checks _ _, fun _ => rfl, fun no => absurd trivial no, judgesRange_inRange lo hi _⟩,
      fun _ low high => ⟨_, rfl, rfl, rfl, Work.modComp_routes _ k ?_, ?_⟩⟩
    · unfold Compressor.write
      split <;> rfl
    · rw [← written low high]
      rfl
  exact rule.judged hop (by rw [hcls]; rfl) num hf width pos whole

theorem compressorSets (s : State) : CompressorSets s := by
  intro k r v hop cls num value
  subst value
  refine ⟨fun field whole => ?_, fun field whole => ?_, fun field whole => ?_, fun field whole => ?_⟩
  · refine compSet (f := 1) hop cls num (by rw [field]; rfl) rfl (by decide) whole (fun _ _ => rfl) fun low high => ?_
    obtain one | two | three : leValue r.tail.data = 1 ∨ leValue r.tail.data = 2 ∨ leValue r.tail.data = 3 := by omega
    · rw [one]; rfl
    · rw [two]; rfl
    · rw [three]; rfl
  · exact compSet (f := 2) hop cls num (by rw [field]; rfl) rfl (by decide) whole (fun _ _ => rfl) fun _ _ => rfl
  · exact compSet (f := 3) hop cls num (by rw [field]; rfl) rfl (by decide) whole (fun _ _ => rfl) fun _ _ => rfl
  · exact compSet (f := 4) hop cls num (by rw [field]; rfl) rfl (by decide) whole (fun _ _ => rfl) fun _ _ => rfl

/-- A SET of a loop field (04, R68). -/
theorem loopSet {s : State} {l : LoopId} {r : Request} {f lo hi : Nat} {inSetup : Bool} {ranges : List Result}
    (hop : r.op = 2) (hcls : r.cls = 3) (num : r.num.toNat = l.val) (hf : r.field.toNat = f)
    (width : (RecordRef.loop l).widths[f]? = some 2) (whole : r.tail.Whole 2)
    (checks : loopFails l [(f, leValue r.tail.data)] f (leValue r.tail.data) (s.heard r) =
      (if inSetup then setupOnly s else []) ++ ranges) (judges : JudgesRange lo hi (leValue r.tail.data) ranges) :
    SetJudged s r inSetup True lo hi
      { s.answered r with loops := s.loops.set l ((s.loop l).write f (leValue r.tail.data)) } := by
  have rule : FieldRule s r (.loop l) f (leValue r.tail.data) inSetup True lo hi
      { s.answered r with loops := s.loops.set l ((s.loop l).write f (leValue r.tail.data)) } :=
    ⟨⟨[], _, checks, fun _ => rfl, fun no => absurd trivial no, judges⟩,
      fun _ _ _ => ⟨_, rfl, rfl, rfl, rfl, rfl⟩⟩
  exact rule.judged hop (by rw [hcls]; rfl) num hf width (by decide) whole

theorem loopSets (s : State) : LoopSets s := by
  intro l r v hop cls num value whole
  subst value
  refine ⟨fun field => ?_, fun field => ?_, fun field => ?_, fun field => ?_⟩
  · exact loopSet (f := 1) hop cls num (by rw [field]; rfl) rfl whole rfl (judgesRange_inRange 1 2000 _)
  · refine loopSet (f := 3) hop cls num (by rw [field]; rfl) rfl whole rfl ?_
    refine (judgesRange_inRange 0 60000 _).append (c := 0) (d := (s.loop l).capacity)
      (judgesRange_orFail (decide_eq_true_iff.trans ?_)) ?_
    · exact (and_iff_right (Nat.zero_le _)).symm
    · rw [Nat.le_min]
      exact ⟨fun ⟨low, most, fits⟩ => ⟨⟨low, most⟩, low, fits⟩, fun ⟨⟨low, most⟩, _, fits⟩ => ⟨low, most, fits⟩⟩
  · exact loopSet (f := 4) hop cls num (by rw [field]; rfl) rfl whole rfl (judgesRange_inRange 1 1000 _)
  · exact loopSet (f := 5) hop cls num (by rw [field]; rfl) rfl whole rfl (judgesRange_inRange 1 1000 _)

/-! ### Positions -/

/-- A SET of a configuration field of a position (05, R87). -/
theorem posSet {s : State} {p : PosId} {r : Request} {f n lo hi : Nat} {inSetup : Bool} {allowed : Prop}
    {states ranges : List Result} {cfg : PosConfig}
    (hop : r.op = 2) (hcls : r.cls = 4) (num : r.num.toNat = p.val) (hf : r.field.toNat = f)
    (width : (RecordRef.position p).widths[f]? = some n) (pos : 0 < n) (whole : r.tail.Whole n)
    (checks : positionFails p f (leValue r.tail.data) (s.heard r) =
      (if inSetup then setupOnly s else []) ++ (states ++ ranges))
    (passes : allowed → states = []) (barred : ¬ allowed → states = [.state])
    (judges : JudgesRange lo hi (leValue r.tail.data) ranges) (config : f ≠ 12 ∧ f ≠ 36)
    (written : lo ≤ leValue r.tail.data → leValue r.tail.data ≤ hi →
      (s.pos p).cfg.write f (leValue r.tail.data) = cfg) :
    SetJudged s r inSetup allowed lo hi (Reconfigured s r p cfg) := by
  have write : ∀ x : Position,
      x.write f (leValue r.tail.data) = { x with cfg := x.cfg.write f (leValue r.tail.data) } := fun x => by
      obtain ⟨rate, stray⟩ := config
      unfold Position.write
      split
      · exact absurd rfl rate
      · exact absurd rfl stray
      · rfl
  have rule : FieldRule s r (.position p) f (leValue r.tail.data) inSetup allowed lo hi (Reconfigured s r p cfg) := by
    refine ⟨⟨states, ranges, checks, passes, barred, judges⟩,
      fun _ low high => ⟨_, rfl, rfl, rfl, Work.modPos_routes _ p ?_, ?_⟩⟩
    · rw [write]
    · rw [← written low high]
      unfold Work.writeField Work.modPos
      dsimp only
      rw [write]
      rfl
  exact rule.judged hop (by rw [hcls]; rfl) num hf width pos whole

/-- A check of the record's state, or none. -/
theorem stateCheck {ok : Bool} {allowed : Prop} (h : ok = true ↔ allowed) :
    (allowed → orFail ok .state = []) ∧ (¬ allowed → orFail ok .state = [.state]) :=
  ⟨fun can => orFail_pass (h.mpr can) _, fun no => orFail_fail (fun passed => no (h.mp passed)) _⟩

theorem bit_cases {v : Nat} (high : v ≤ 1) : v = 0 ∨ v = 1 := by omega

/-- Fields 4, 5, 6 and 31 are judged by their range alone. -/
theorem posSet_free {s : State} {p : PosId} {r : Request} {f n lo hi : Nat} {inSetup : Bool} {cfg : PosConfig}
    (hop : r.op = 2) (hcls : r.cls = 4) (num : r.num.toNat = p.val) (hf : r.field.toNat = f)
    (width : (RecordRef.position p).widths[f]? = some n) (pos : 0 < n) (whole : r.tail.Whole n)
    (checks : ∀ v (u : State), positionFails p f v u = (if inSetup then setupOnly u else []) ++ inRange lo hi v)
    (config : f ≠ 12 ∧ f ≠ 36)
    (written : lo ≤ leValue r.tail.data → leValue r.tail.data ≤ hi →
      (s.pos p).cfg.write f (leValue r.tail.data) = cfg) :
    SetJudged s r inSetup True lo hi (Reconfigured s r p cfg) :=
  posSet hop hcls num hf width pos whole (states := []) (checks _ _) (fun _ => rfl) (fun no => absurd trivial no)
    (judgesRange_inRange lo hi _) config written

/-- Whether precooling is required: it may not be cleared on CAR70 (05, R86, R87). -/
theorem posSet_precool {s : State} {p : PosId} {r : Request} (hop : r.op = 2) (cls : r.cls = 4)
    (num : r.num.toNat = p.val) (field : r.field = 1) (whole : r.tail.Whole 1) :
    SetJudged s r true ((s.pos p).cfg.cls ≠ .unused) (if (s.pos p).cfg.cls = .car70 then 1 else 0) 1
      (Reconfigured s r p { (s.pos p).cfg with
        precool := decide (leValue r.tail.data = 1)
        loop := if leValue r.tail.data = 1 then (s.pos p).cfg.loop else none }) := by
  obtain ⟨passes, barred⟩ := stateCheck (ok := (s.pos p).cfg.cls != .unused) bne_iff_ne
  refine posSet (f := 1) hop cls num (by rw [field]; rfl) rfl (by decide) whole
    ((List.append_assoc _ _ _).trans (List.append_assoc _ _ _)) passes barred ?_ (by decide) fun low high => ?_
  · refine (judgesRange_inRange 0 1 _).append (c := if (s.pos p).cfg.cls = .car70 then 1 else 0)
      (d := leValue r.tail.data) (judgesRange_orFail ?_) ?_
    · rw [show (s.heard r).pos p = s.pos p from rfl]
      split
      · next car => simp [car, Nat.one_le_iff_ne_zero]
      · next other => simp [other]
    · omega
  · obtain zero | one := bit_cases high
    · rw [zero]; rfl
    · rw [one]; rfl

theorem positionSets (s : State) : PositionSets s := by
  intro p r v hop cls num value
  subst value
  refine ⟨fun whole => ⟨fun field => posSet_precool hop cls num field whole, fun field => ?_, fun field => ?_,
    fun field => ?_, fun field => ?_, fun field => ?_⟩, fun whole field => ?_⟩
  · obtain ⟨passes, barred⟩ := stateCheck (ok := (s.pos p).cfg.precool) Iff.rfl
    refine posSet (f := 2) hop cls num (by rw [field]; rfl) rfl (by decide) whole (List.append_assoc _ _ _) passes
      barred
      (judgesRange_inRange 0 1 _) (by decide) fun _ high => ?_
    obtain zero | one := bit_cases high
    · rw [zero]; rfl
    · rw [one]; rfl
  · obtain ⟨passes, barred⟩ := stateCheck (ok := (s.pos p).cfg.cls == .car70) beq_iff_eq
    exact posSet (f := 3) hop cls num (by rw [field]; rfl) rfl (by decide) whole (List.append_assoc _ _ _) passes barred
      (judgesRange_inRange 0 1 _) (by decide) fun _ _ => rfl
  · refine posSet_free (f := 4) hop cls num (by rw [field]; rfl) rfl (by decide) whole (fun _ _ => rfl) (by decide)
      fun _ high => ?_
    obtain zero | one := bit_cases high
    · rw [zero]; rfl
    · rw [one]; rfl
  · exact posSet_free (f := 5) hop cls num (by rw [field]; rfl) rfl (by decide) whole (fun _ _ => rfl) (by decide)
      fun _ _ => rfl
  · exact posSet_free (f := 6) hop cls num (by rw [field]; rfl) rfl (by decide) whole (fun _ _ => rfl) (by decide)
      fun _ _ => rfl
  · exact posSet_free (f := 31) hop cls num (by rw [field]; rfl) rfl (by decide) whole (fun _ _ => rfl) (by decide)
      fun _ _ => rfl

/-! ### Holds -/

/-- A SET of a hold field (08, R148). -/
theorem holdSet {s : State} {h : HoldId} {r : Request} {f n lo hi : Nat} {k : Hold}
    (hop : r.op = 2) (hcls : r.cls = 5) (num : r.num.toNat = h.val) (hf : r.field.toNat = f)
    (width : (RecordRef.hold h).widths[f]? = some n) (pos : 0 < n) (whole : r.tail.Whole n) (writable : 1 ≤ f ∧ f ≤ 5)
    (judges : JudgesRange lo hi (leValue r.tail.data) (holdRange f (leValue r.tail.data)))
    (written : lo ≤ leValue r.tail.data → leValue r.tail.data ≤ hi → (s.hold h).write f (leValue r.tail.data) = k) :
    SetJudged s r false ((s.hold h).state = .opened) lo hi { s.answered r with holds := s.holds.set h k } := by
  obtain ⟨passes, barred⟩ := stateCheck (ok := (s.hold h).state == .opened) beq_iff_eq
  have rule : FieldRule s r (.hold h) f (leValue r.tail.data) false ((s.hold h).state = .opened) lo hi
      { s.answered r with holds := s.holds.set h k } := by
    refine ⟨⟨_, _, if_pos writable, passes, barred, judges⟩, fun _ low high => ⟨_, rfl, rfl, rfl, rfl, ?_⟩⟩
    rw [← written low high]
    rfl
  exact rule.judged hop (by rw [hcls]; rfl) num hf width pos whole

theorem permitOf_isSome {v : Nat} : (permitOf v).isSome = true ↔ 1 ≤ v ∧ v ≤ 3 := by
  unfold permitOf
  split <;> simp_all
  omega

theorem limitKindOf_isSome {v : Nat} : (limitKindOf v).isSome = true ↔ 0 ≤ v ∧ v ≤ 1 := by
  unfold limitKindOf
  split <;> simp_all
  omega

theorem holdSets (s : State) : HoldSets s := by
  intro h r v hop cls num value
  subst value
  refine ⟨fun whole => ?_, fun whole => ?_⟩
  · have most : leValue r.tail.data ≤ 4294967295 := by
      obtain ⟨_, _, _, length⟩ := whole
      have bound := leValue_lt r.tail.data
      rw [length] at bound
      omega
    refine ⟨fun field => ?_, fun field => ?_⟩
    · exact holdSet (f := 1) hop cls num (by rw [field]; rfl) rfl (by decide) whole (by decide)
        ⟨fun _ none => absurd none List.not_mem_nil, fun _ _ => rfl, fun out => by omega⟩ fun _ _ => rfl
    · exact holdSet (f := 4) hop cls num (by rw [field]; rfl) rfl (by decide) whole (by decide)
        (judgesRange_orFail (decide_eq_true_iff.trans (and_iff_left most).symm)) fun _ _ => rfl
  · refine ⟨fun field => ?_, fun field => ?_, fun field => ?_⟩
    · refine holdSet (f := 2) hop cls num (by rw [field]; rfl) rfl (by decide) whole (by decide)
        (judgesRange_orFail permitOf_isSome) fun low high => ?_
      obtain one | two | three : leValue r.tail.data = 1 ∨ leValue r.tail.data = 2 ∨ leValue r.tail.data = 3 := by
        omega
      · rw [one]; rfl
      · rw [two]; rfl
      · rw [three]; rfl
    · refine holdSet (f := 3) hop cls num (by rw [field]; rfl) rfl (by decide) whole (by decide)
        (judgesRange_orFail limitKindOf_isSome) fun _ high => ?_
      obtain zero | one := bit_cases high
      · rw [zero]; rfl
      · rw [one]; rfl
    · refine holdSet (f := 5) hop cls num (by rw [field]; rfl) rfl (by decide) whole (by decide)
        (judgesRange_orFail (decide_eq_true_iff.trans (and_iff_right (Nat.zero_le _)).symm)) fun _ high => ?_
      obtain zero | one | two | three : leValue r.tail.data = 0 ∨ leValue r.tail.data = 1 ∨ leValue r.tail.data = 2 ∨
        leValue r.tail.data = 3 := by omega
      · rw [zero]; rfl
      · rw [one]; rfl
      · rw [two]; rfl
      · rw [three]; rfl

end Sys2Proof.Machine
end

section
/-! SETs that cover a read-only field (09, R162; 11, R180). -/
open Sys2Proof Sys2Proof.Machine
namespace Sys2Proof.Machine

/-- The owner of a read-only field answers READ_ONLY, whatever the value and the state. -/
theorem fieldFails_readOnly (ref : RecordRef) (vals : List (Nat × Nat)) (v : Nat) (s : State) :
    ∀ f ∈ ReadOnlyFields ref, fieldFails ref vals f v s = [.readOnly] := by
  cases ref with
  | station => simp [ReadOnlyFields, fieldFails, stationFails]
  | bank b => simp [ReadOnlyFields, fieldFails, bankFails]
  | comp k => simp [ReadOnlyFields, fieldFails, compFails]
  | loop l => simp [ReadOnlyFields, fieldFails, loopFails]
  | position p => simp [ReadOnlyFields, fieldFails, positionFails]
  | hold h => simp [ReadOnlyFields, fieldFails, holdFails]
  | notice => simp [ReadOnlyFields, fieldFails]
  | tariff n => simp [ReadOnlyFields]
  | table n => simp [ReadOnlyFields]

/-- The checks of every covered field are among those of the SET, whatever came before it. -/
theorem setAll_readOnly {ref : RecordRef} {vals : List (Nat × Nat)} {f v : Nat} (listed : f ∈ ReadOnlyFields ref)
    (xs : List (Nat × Nat)) : ∀ w : Work, (f, v) ∈ xs → .readOnly ∈ (Work.setAll ref vals xs w).1 := by
  induction xs with
  | nil => intro _ covered; cases covered
  | cons x xs ih =>
    intro w covered
    rw [Work.setAll]
    obtain rfl | later := List.mem_cons.mp covered
    · exact List.mem_append_left _ (by rw [fieldFails_readOnly ref vals v w.toState f listed]; simp)
    · exact List.mem_append_right _ (ih _ later)

/-- Every field of a record is at least a byte wide (11, R180). -/
theorem RecordRef.widths_pos (ref : RecordRef) : ∀ x ∈ ref.widths, 0 < x := by
  cases ref with
  | table n =>
    intro x listed
    rw [List.eq_of_mem_replicate listed]
    decide
  | station | bank | comp | loop | position | hold | tariff | notice => simp [RecordRef.widths]

/-- Data as wide as a run of fields covers each of them (09, R162). -/
theorem coverFields_run (n : Nat) : ∀ (ws : List Nat) (first : Nat) (data : List Byte), n ≤ ws.length →
    (∀ x ∈ ws, 0 < x) → data.length = (ws.take n).sum →
    ∃ fields, coverFields ws first data = some fields ∧ ∀ f, first ≤ f → f < first + n → ∃ v, (f, v) ∈ fields := by
  induction n with
  | zero =>
    intro ws first data _ _ length
    obtain rfl := List.eq_nil_of_length_eq_zero (length.trans (by rw [List.take_zero, List.sum_nil]))
    exact ⟨[], by rw [coverFields], fun f low high => by omega⟩
  | succ n ih =>
    intro ws first data room wide length
    cases ws with
    | nil => simp at room
    | cons x xs =>
      have here := wide x List.mem_cons_self
      rw [List.take_succ_cons, List.sum_cons] at length
      obtain ⟨fields, cover, all⟩ := ih xs (first + 1) (data.drop x) (by simpa using room)
        (fun y later => wide y (List.mem_cons_of_mem x later)) (by rw [List.length_drop]; omega)
      cases data with
      | nil => rw [List.length_nil] at length; omega
      | cons b bs =>
        refine ⟨(first, leValue ((b :: bs).take x)) :: fields, ?_, fun f low high => ?_⟩
        · rw [coverFields, if_neg (by omega), cover, Option.map_some]
          exact List.cons_ne_nil b bs
        · obtain rfl | later := Nat.eq_or_lt_of_le low
          · exact ⟨_, List.mem_cons_self⟩
          · obtain ⟨v, covered⟩ := all f later (by omega)
            exact ⟨v, List.mem_cons_of_mem _ covered⟩

/-- A SET that covers a read-only field is refused with READ_ONLY. -/
theorem setFields_readOnly {r : Request} {s : State} {ref : RecordRef} {n f : Nat} (hop : r.op = 2)
    (resolves : r.resolve s.port.window = .ok ref) (room : r.field.toNat + n ≤ ref.widths.length)
    (whole : r.tail.Whole ((ref.widths.drop r.field.toNat).take n).sum) (listed : f ∈ ReadOnlyFields ref)
    (low : r.field.toNat ≤ f) (high : f < r.field.toNat + n) :
    exec (.setFields r.cls r.num r.field r.tail) s = .next (s.refusedWith r .readOnly) := by
  obtain ⟨_, _, _, length⟩ := id whole
  obtain ⟨fields, cover, all⟩ := coverFields_run n (ref.widths.drop r.field.toNat) r.field.toNat r.tail.data
    (by rw [List.length_drop]; omega) (fun x later => ref.widths_pos x (List.mem_of_mem_drop later)) length
  obtain ⟨v, covered⟩ := all f low high
  have inside : r.field.toNat < ref.widths.length := by omega
  have pos : 0 < ((ref.widths.drop r.field.toNat).take n).sum := by
    obtain ⟨m, rfl⟩ : ∃ m, n = m + 1 := ⟨n - 1, by omega⟩
    have wide := ref.widths_pos _ (List.getElem_mem inside)
    rw [List.drop_eq_getElem_cons inside, List.take_succ_cons, List.sum_cons]
    omega
  rw [exec_setFields hop, portRequest_setFields_refused hop whole pos resolves inside cover
    (firstFault_readOnly (setAll_readOnly listed fields _ covered)) (by decide)]

end Sys2Proof.Machine
end

section
/-! TABLE and TARIFF entries, and O49 (07, R137; 08, R146). -/
open Sys2Proof Sys2Proof.Machine
namespace Sys2Proof.Machine

/-! ### Tables -/

/-- Entries of a table (07, R137). -/
theorem tableEntries (n : Fin 3) :
    (RecordRef.table n).widths = List.replicate (([7, 10, 8] : List Nat).getD n.val 0) 2 := by
  obtain zero | one | two : n = 0 ∨ n = 1 ∨ n = 2 := by omega
  · subst zero; rfl
  · subst one; rfl
  · subst two; rfl

/-- Only the entry written of the table named changes. -/
structure TableWritten (s : State) (t : State) (n : Fin 3) (field v : Nat) : Prop where
  ramp : n = 0 → t.rampTable.toList = s.rampTable.toList.set field v
  rampKept : n ≠ 0 → t.rampTable = s.rampTable
  target : n = 1 → t.targetTable.toList = s.targetTable.toList.set field v
  targetKept : n ≠ 1 → t.targetTable = s.targetTable
  full : n = 2 → t.fullTable.toList = s.fullTable.toList.set field v
  fullKept : n ≠ 2 → t.fullTable = s.fullTable

theorem tableWritten (s : State) (r : Request) (n : Fin 3) (field v : Nat) :
    ∃ t, { ((s.heard r).begin.tableWrite n field v).toState with port.lastResult := .ok } = t ∧
      t = { s.answered r with rampTable := t.rampTable, targetTable := t.targetTable, fullTable := t.fullTable } ∧
      TableWritten s t n field v := by
  refine ⟨_, rfl, ?_, ?_⟩ <;> unfold Work.tableWrite <;> split
  · rfl
  · rfl
  · rfl
  · exact ⟨fun _ => Vector.toList_setIfInBounds .., fun no => absurd rfl no, fun one => absurd one (by decide),
      fun _ => rfl, fun two => absurd two (by decide), fun _ => rfl⟩
  · exact ⟨fun zero => absurd zero (by decide), fun _ => rfl, fun _ => Vector.toList_setIfInBounds ..,
      fun no => absurd rfl no, fun two => absurd two (by decide), fun _ => rfl⟩
  · exact ⟨fun zero => absurd zero (by decide), fun _ => rfl, fun one => absurd one (by decide), fun _ => rfl,
      fun _ => Vector.toList_setIfInBounds .., fun no => absurd rfl no⟩

/-- A write of a table entry owes no evaluation and keeps the routes. -/
theorem Work.tableWrite_frame (w : Work) (n : Fin 3) (field v : Nat) :
    (w.tableWrite n field v).serveDue = w.serveDue ∧ (w.tableWrite n field v).evalDue = w.evalDue ∧
      (w.tableWrite n field v).routes = w.routes := by
  unfold Work.tableWrite
  split
  · exact ⟨rfl, rfl, rfl⟩
  · exact ⟨rfl, rfl, rfl⟩
  · exact ⟨rfl, rfl, rfl⟩

/-- A SET of a table entry (07, R137). -/
theorem tableSet {s : State} {r : Request} {n : Fin 3} (hop : r.op = 2) (hcls : r.cls = 7)
    (num : r.num.toNat = n.val) (whole : r.tail.Whole 2)
    (inside : r.field.toNat < ([7, 10, 8] : List Nat).getD n.val 0) :
    SetJudged s r true True (tableMin n) (tableMax n r.field.toNat)
      { ((s.heard r).begin.tableWrite n r.field.toNat (leValue r.tail.data)).toState with port.lastResult := .ok } := by
  obtain ⟨serve, due, routes⟩ := Work.tableWrite_frame (s.heard r).begin n r.field.toNat (leValue r.tail.data)
  have rule : FieldRule s r (.table n) r.field.toNat (leValue r.tail.data) true True (tableMin n)
      (tableMax n r.field.toNat)
      { ((s.heard r).begin.tableWrite n r.field.toNat (leValue r.tail.data)).toState with port.lastResult := .ok } :=
    ⟨⟨[], _, rfl, fun _ => rfl, fun no => absurd trivial no, judgesRange_inRange _ _ _⟩,
      fun _ _ _ => ⟨_, rfl, serve, due, routes, rfl⟩⟩
  refine rule.judged hop (by rw [hcls]; rfl) num rfl (n := 2) ?_ (by decide) whole
  rw [tableEntries, List.getElem?_replicate, if_pos inside]

/-- The range of a table entry (07, R137). -/
theorem tableRange {n : Fin 3} {field lo hi : Nat}
    (range : (n = 0 ∧ lo = 0 ∧ hi = 1000) ∨ (n = 1 ∧ field < 5 ∧ lo = 100 ∧ hi = 8750) ∨
      (n = 1 ∧ 5 ≤ field ∧ lo = 100 ∧ hi = 4375) ∨ (n = 2 ∧ lo = 100 ∧ hi = 8750)) :
    tableMin n = lo ∧ tableMax n field = hi := by
  obtain ⟨rfl, rfl, rfl⟩ | ⟨rfl, early, rfl, rfl⟩ | ⟨rfl, late, rfl, rfl⟩ | ⟨rfl, rfl, rfl⟩ := range
  · exact ⟨rfl, rfl⟩
  · exact ⟨rfl, if_pos early⟩
  · exact ⟨rfl, if_neg (by omega)⟩
  · exact ⟨rfl, rfl⟩

/-! ### Tariffs -/

/-- A SET of a tariff price (08, R146). -/
theorem tariffSet {s : State} {r : Request} {n : PlanId} (hop : r.op = 2) (hcls : r.cls = 6)
    (num : r.num.toNat = n.val) (whole : r.tail.Whole 4) (field : r.field = 0 ∨ r.field = 1) :
    SetJudged s r false True 1 1000000
      { s.answered r with plans := s.plans.set n ((s.plan n).write r.field.toNat (leValue r.tail.data)) } := by
  have rule : FieldRule s r (.tariff n) r.field.toNat (leValue r.tail.data) false True 1 1000000
      { s.answered r with plans := s.plans.set n ((s.plan n).write r.field.toNat (leValue r.tail.data)) } :=
    ⟨⟨[], _, rfl, fun _ => rfl, fun no => absurd trivial no, judgesRange_inRange _ _ _⟩,
      fun _ _ _ => ⟨_, rfl, rfl, rfl, rfl, rfl⟩⟩
  refine rule.judged hop (by rw [hcls]; rfl) num rfl (n := 4) ?_ (by decide) whole
  obtain bus | car := field
  · rw [bus]; rfl
  · rw [car]; rfl

theorem Plan.write_eq {x : Plan} {field : Byte} (h : field = 0 ∨ field = 1) (v : Nat) :
    x.write field.toNat v =
      { bus35 := if field = 0 then v else x.bus35, car70 := if field = 1 then v else x.car70 } := by
  obtain rfl | rfl := h
  · rfl
  · rfl

theorem tariffEntries {num field : Byte} {tail : Tail} {n : PlanId} {s : State} (number : num.toNat = n.val)
    (whole : tail.Whole 4) (entry : field = 0 ∨ field = 1) :
    SetJudged s { op := 2, cls := 6, num := num, field := field, tail := tail } false True 1 1000000
      { s.answered { op := 2, cls := 6, num := num, field := field, tail := tail } with
        plans := s.plans.set n
          { bus35 := if field = 0 then leValue tail.data else (s.plan n).bus35,
            car70 := if field = 1 then leValue tail.data else (s.plan n).car70 } } := by
  rw [← Plan.write_eq entry]
  exact tariffSet (r := { op := 2, cls := 6, num := num, field := field, tail := tail }) rfl rfl number whole entry

/-! ### What SetJudged says -/

section
variable {s t : State} {r : Request} {inSetup : Bool} {allowed : Prop} {lo hi : Nat}

theorem SetJudged.inService (h : SetJudged s r true allowed lo hi t) (service : s.station.phase = .service) :
    exec (.setFields r.cls r.num r.field r.tail) s = .next (s.refusedWith r .phase) := h.1 ⟨rfl, service⟩

theorem SetJudged.outside (h : SetJudged s r inSetup True lo hi t) (open_ : inSetup = false ∨ s.station.phase = .setup)
    (out : leValue r.tail.data < lo ∨ hi < leValue r.tail.data) :
    exec (.setFields r.cls r.num r.field r.tail) s = .next (s.refusedWith r .range) :=
  (h.2 (by obtain no | setup := open_ <;> simp [*])).2.1 trivial out

theorem SetJudged.within (h : SetJudged s r inSetup True lo hi t) (open_ : inSetup = false ∨ s.station.phase = .setup)
    (low : lo ≤ leValue r.tail.data) (high : leValue r.tail.data ≤ hi) :
    exec (.setFields r.cls r.num r.field r.tail) s = .next t :=
  (h.2 (by obtain no | setup := open_ <;> simp [*])).2.2 trivial low high

end

/-- What a transfer addresses: the window's record, or the record its class and number name (09, R159). -/
theorem resolve_of_window {r : Request} {window : Option RecordRef} {ref : RecordRef}
    (win : r.cls = 9 → window = some ref) (direct : r.cls ≠ 9 → recordOf r.cls.toNat r.num.toNat = some ref) :
    r.resolve window = .ok ref := by
  unfold Request.resolve
  split
  · next nine => rw [win nine]
  · next other => rw [direct other]

end Sys2Proof.Machine

/-- Settles O49: every SET of one field is judged by its owner's rule (`FieldRule`), and a read-only field fails the
SET that covers it. -/
theorem tablesAndTariffsAreWritten : Obligations.TablesAndTariffsAreWritten := by
  refine ⟨?_, ?_, ?_, fun s => ⟨compressorSets s, loopSets s, positionSets s, holdSets s⟩⟩
  · intro num field tail n s number whole inside
    have judged := tableSet (s := s) (r := { op := 2, cls := 7, num := num, field := field, tail := tail }) rfl rfl
      number whole inside
    refine ⟨judged.inService, fun lo hi v setup value range => ?_⟩
    obtain ⟨least, largest⟩ := tableRange range
    subst value
    rw [least, largest] at judged
    refine ⟨judged.outside (.inr setup), fun low high => ?_⟩
    obtain ⟨t, final, frame, ⟨ramp, rampKept, target, targetKept, full, fullKept⟩⟩ := tableWritten s
      { op := 2, cls := 7, num := num, field := field, tail := tail } n field.toNat (leValue tail.data)
    exact ⟨t, (judged.within (.inr setup) low high).trans (congrArg _ final), frame, ramp, rampKept, target, targetKept,
      full, fullKept⟩
  · intro num field tail n v s number whole entry value
    subst value
    have judged := tariffEntries (s := s) number whole entry
    exact ⟨fun out => judged.outside (.inl rfl) (out.imp_left fun zero => by rw [zero]; decide),
      judged.within (.inl rfl)⟩
  · intro cls num field tail ref n f s window direct room whole listed low high
    exact setFields_readOnly (r := { op := 2, cls := cls, num := num, field := field, tail := tail }) rfl
      (resolve_of_window window direct) room whole listed low high
end

section
/-! SUPPORT. What the telling of positions leaves: the loops, the waiting order and the sessions it does not tell
(04, R76, R78; 05, R97, R98). -/
open Sys2Proof Sys2Proof.Machine
namespace Sys2Proof.Machine

/-! ### What stands throughout a tick -/

/-- What stands, and no notice taken back. -/
structure State.Steady (s t : State) : Prop extends State.Stands s t where
  raised : ∀ i, s.requested i → t.requested i

theorem State.Steady.refl (s : State) : s.Steady s := ⟨.refl s, fun _ => id⟩

theorem State.Steady.trans {a b c : State} (h : a.Steady b) (g : b.Steady c) : a.Steady c :=
  ⟨h.toStands.trans g.toStands, fun i x => g.raised i (h.raised i x)⟩

theorem State.Settles.steady {s t : State} (h : s.Settles t) : s.Steady t := ⟨h.stands, fun _ => h.requested⟩

/-- A write of a loop that keeps its configuration and its outlet. -/
theorem Work.steady_modLoop (w : Work) (l : LoopId) {f : Loop → Loop}
    (settings : ∀ x : Loop, (f x).draw = x.draw ∧ (f x).capacity = x.capacity ∧ (f x).floor = x.floor ∧
      (f x).recharge = x.recharge ∧ (f x).consumption = x.consumption) (outlet : ∀ x : Loop, (f x).outlet = x.outlet) :
    w.Steady (w.modLoop l f).toState := by
  refine ⟨⟨rfl, rfl, rfl, ⟨rfl, rfl, rfl, rfl, rfl, fun _ => rfl, fun _ => ⟨rfl, rfl, rfl, rfl, rfl⟩,
    fun _ => ⟨rfl, rfl, rfl, rfl, rfl⟩, fun m => ?_⟩, fun c => ?_⟩, fun _ => id⟩
  · rw [Work.modLoop_loop]
    split
    · next here => rw [here]; exact settings _
    · exact ⟨rfl, rfl, rfl, rfl, rfl⟩
  · cases c with
    | loopT m =>
      unfold State.reading
      dsimp only
      rw [Work.modLoop_loop]
      split
      · next here => rw [here, outlet]
      · rfl
    | bankP | bankT | hoseP | suctionP | ambientT => rfl

/-! ### Loops and the waiting order stand -/

/-- Loops, waiting order and what the rule owes that order stand from `w` to `t`. -/
structure Work.SparesLoops (w t : Work) : Prop where
  loops : t.loops = w.loops
  order : t.powerQueue = w.powerQueue
  serve : t.serveDue = w.serveDue

namespace Work.SparesLoops

theorem refl (w : Work) : w.SparesLoops w := ⟨rfl, rfl, rfl⟩

theorem trans {a b c : Work} (h : a.SparesLoops b) (g : b.SparesLoops c) : a.SparesLoops c :=
  ⟨g.loops.trans h.loops, g.order.trans h.order, g.serve.trans h.serve⟩

theorem modPos (w : Work) (p : PosId) (f : Position → Position) : w.SparesLoops (w.modPos p f) := ⟨rfl, rfl, rfl⟩

theorem raise (w : Work) (i : Nat) : w.SparesLoops (w.raise i) := ⟨rfl, rfl, rfl⟩

theorem claimBank (w : Work) (c : Claimant) (b : BankId) : w.SparesLoops (w.claimBank c b) := ⟨rfl, rfl, rfl⟩

theorem joinQueue (w : Work) (b : BankId) : w.SparesLoops (w.joinQueue b) := by
  unfold Work.joinQueue
  split
  · exact .refl w
  · exact ⟨rfl, rfl, rfl⟩

theorem joinWaitList (w : Work) (p : PosId) (ts : List Tier) : w.SparesLoops (w.joinWaitList p ts) := by
  unfold Work.joinWaitList
  split
  · exact ⟨rfl, rfl, rfl⟩
  · exact ⟨rfl, rfl, rfl⟩

theorem freeBank (w : Work) (b : BankId) : w.SparesLoops (w.freeBank b) := by
  have ready : w.SparesLoops (w.makeReady b) := ⟨rfl, rfl, rfl⟩
  have owed : ∀ v : Work, v.SparesLoops (if v.queued b then v.oweEval else v) := fun v => by
    split
    · exact ⟨rfl, rfl, rfl⟩
    · exact .refl v
  refine trans ?_ (owed _)
  split
  · exact ready.trans (joinQueue _ b)
  · exact ready

theorem takeOffer (w : Work) (p : PosId) (b : BankId) : w.SparesLoops (w.takeOffer p b).2 := by
  unfold Work.takeOffer
  dsimp only
  split
  · exact ⟨rfl, rfl, rfl⟩
  · split
    · exact ⟨rfl, rfl, rfl⟩
    · split
      · exact ⟨rfl, rfl, rfl⟩
      · exact .refl w

theorem offer (n : Nat) (b : BankId) (w : Work) : w.SparesLoops (Work.offer n b w) := by
  induction n generalizing w with
  | zero => exact .refl w
  | succ n ih =>
    unfold Work.offer
    split
    · exact .refl w
    · next e _ =>
      have left : w.SparesLoops (w.leaveWaitList e.pos) := ⟨rfl, rfl, rfl⟩
      have taken := (left.trans (claimBank _ (.pos e.pos) b)).trans (takeOffer _ e.pos b)
      dsimp only
      split
      · exact taken
      · exact (taken.trans (freeBank _ b)).trans (ih _)

theorem releaseBank (w : Work) (c : Claimant) (b : BankId) : w.SparesLoops (w.releaseBank c b) := by
  unfold Work.releaseBank
  split
  · unfold Work.offerBank
    split
    · exact (freeBank w b).trans (offer _ b _)
    · exact freeBank w b
  · exact .refl w

theorem releaseNamed (w : Work) (p : PosId) : w.SparesLoops (w.releaseNamed p) := by
  have dropped := modPos w p (fun y => { y with ses := { y.ses with current := none, staged := none } })
  unfold Work.releaseNamed
  dsimp only
  split <;> split
  · exact (dropped.trans (releaseBank _ _ _)).trans (releaseBank _ _ _)
  · exact dropped.trans (releaseBank _ _ _)
  · exact dropped.trans (releaseBank _ _ _)
  · exact dropped

theorem addCause (w : Work) (p : PosId) (c : Cause) : w.SparesLoops (w.addCause p c) := by
  unfold Work.addCause
  split
  · exact ((modPos w p _).trans (releaseNamed _ p)).trans ⟨rfl, rfl, rfl⟩
  · exact ⟨rfl, rfl, rfl⟩
  · exact .refl w

theorem fuellingSelect (w : Work) (p : PosId) : w.SparesLoops (w.fuellingSelect p).2 := by
  unfold Work.fuellingSelect
  dsimp only
  split
  · exact ⟨rfl, rfl, rfl⟩
  · exact .refl w

theorem leaveHeld (w : Work) (p : PosId) : w.SparesLoops (w.leaveHeld p) := by
  have limited := modPos w p (fun x => { x with ses.ceiling := min (w.hoseOf p) x.ses.target, tmr.held := none })
  unfold Work.leaveHeld
  dsimp only
  generalize w.modPos p (fun x => { x with ses.ceiling := min (w.hoseOf p) x.ses.target, tmr.held := none }) = v
    at limited ⊢
  have selected := limited.trans (fuellingSelect v p)
  generalize v.fuellingSelect p = r at selected ⊢
  split
  · exact selected.trans (modPos _ p _)
  · exact (selected.trans (joinWaitList _ p _)).trans (modPos _ p _)

theorem removeCause (w : Work) (p : PosId) (c : Cause) : w.SparesLoops (w.removeCause p c) := by
  have removed := modPos w p (fun y => { y with ses.causes := y.ses.causes.put c false })
  unfold Work.removeCause
  dsimp only
  split
  · split
    · exact removed.trans (leaveHeld _ p)
    · exact removed
  · exact .refl w

theorem pulsingSelect (w : Work) (p : PosId) : w.SparesLoops (w.pulsingSelect p) := by
  cases found : w.select (w.needOf p) (w.pos p).cfg.cls.tiers with
  | some b =>
    rw [Work.pulsingSelect_found found]
    exact ⟨rfl, rfl, rfl⟩
  | none =>
    rw [Work.pulsingSelect_none found]
    exact (joinWaitList w p _).trans (modPos _ p _)

theorem grantGiven (w : Work) (p : PosId) : w.SparesLoops (w.grantGiven p) := by
  unfold Work.grantGiven
  dsimp only
  split
  · refine trans ?_ (pulsingSelect _ p)
    exact ⟨rfl, rfl, rfl⟩
  · exact ⟨rfl, rfl, rfl⟩

end Work.SparesLoops

/-! ### Telling positions -/

/-- Positions are told: the loops and the waiting order stand. -/
structure Work.Tells (w t : Work) : Prop where
  steady : w.Steady t.toState
  spares : w.SparesLoops t

theorem Work.Tells.refl (w : Work) : w.Tells w := ⟨.refl _, .refl w⟩

theorem Work.Tells.trans {a b c : Work} (h : a.Tells b) (g : b.Tells c) : a.Tells c :=
  ⟨h.steady.trans g.steady, h.spares.trans g.spares⟩

theorem Work.Evolves.tells {w t : Work} (h : w.Evolves t) (g : w.SparesLoops t) : w.Tells t := ⟨h.toSettles.steady, g⟩

theorem Work.tells_each {f : PosId → Work → Work} (step : ∀ p w, Work.Tells w (f p w)) (ps : List PosId) (w : Work) :
    w.Tells (Work.each f ps w) := Work.each_keeps Work.Tells .refl .trans f step ps w

theorem Work.tells_band (w : Work) (p : PosId) (b : Band) : w.Tells (w.modPos p (fun y => { y with ses.band := b })) :=
  Work.Evolves.tells (Work.evolves_modPos w p _ fun _ => ⟨rfl, rfl, rfl, rfl, rfl, rfl, rfl, rfl, rfl, rfl, rfl⟩)
    (.modPos w p _)

theorem Work.tells_addCause (w : Work) (p : PosId) (c : Cause) : w.Tells (w.addCause p c) :=
  Work.Evolves.tells (w.evolves_addCause p c) (.addCause w p c)

theorem Work.tells_removeCause (w : Work) (p : PosId) (c : Cause) : w.Tells (w.removeCause p c) :=
  Work.Evolves.tells (w.evolves_removeCause p c) (.removeCause w p c)

theorem Work.tells_grantGiven (w : Work) (p : PosId) : w.Tells (w.grantGiven p) :=
  Work.Evolves.tells (w.evolves_grantGiven p) (.grantGiven w p)

theorem Work.tells_raise (w : Work) (i : Nat) : w.Tells (w.raise i) :=
  Work.Evolves.tells (w.evolves_raise i) (.raise w i)

/-! ### Sessions that are not told -/

/-- Position `p` and its place on the wait list stand. -/
structure Work.Unmoved (p : PosId) (w t : Work) : Prop where
  pos : t.pos p = w.pos p
  waits : t.waits p = w.waits p

theorem Work.Unmoved.refl (p : PosId) (w : Work) : Work.Unmoved p w w := ⟨rfl, rfl⟩

theorem Work.Unmoved.trans {p : PosId} {a b c : Work} (h : Work.Unmoved p a b) (g : Work.Unmoved p b c) :
    Work.Unmoved p a c := ⟨g.pos.trans h.pos, g.waits.trans h.waits⟩

theorem Work.unmoved_of_eq {w t : Work} (positions : t.positions = w.positions) (list : t.waitList = w.waitList)
    (p : PosId) : Work.Unmoved p w t :=
  ⟨by unfold State.pos; rw [positions], by unfold State.waits; rw [list]⟩

/-- What is done for position `p` alone. -/
def Work.TellsOnly (p : PosId) (w t : Work) : Prop := ∀ q, q ≠ p → Work.Unmoved q w t

theorem Work.TellsOnly.trans {p : PosId} {a b c : Work} (h : Work.TellsOnly p a b) (g : Work.TellsOnly p b c) :
    Work.TellsOnly p a c := fun q other => (h q other).trans (g q other)

theorem Work.tellsOnly_modPos (w : Work) (p : PosId) (f : Position → Position) : Work.TellsOnly p w (w.modPos p f) :=
  fun _ other => ⟨Work.modPos_pos_ne w f other, rfl⟩

theorem Work.tellsOnly_joinWaitList (w : Work) (p : PosId) (ts : List Tier) :
    Work.TellsOnly p w (w.joinWaitList p ts) := fun q other =>
  ⟨(w.joinWaitList_frame p ts).2.2.2 q, w.joinWaitList_waits_ne ts other⟩

theorem Work.tellsOnly_leaveHeld (w : Work) (p : PosId) : Work.TellsOnly p w (w.leaveHeld p) := by
  have limited := w.tellsOnly_modPos p (fun x =>
    { x with ses.ceiling := min (w.hoseOf p) x.ses.target, tmr.held := none })
  have selected : ∀ v : Work, Work.TellsOnly p v (v.fuellingSelect p).2 := fun v => by
    unfold Work.fuellingSelect
    dsimp only
    split
    · exact fun q other => ⟨Work.modPos_pos_ne _ _ other, rfl⟩
    · exact fun q _ => .refl q v
  unfold Work.leaveHeld
  dsimp only
  split
  · exact (limited.trans (selected _)).trans (Work.tellsOnly_modPos _ p _)
  · exact ((limited.trans (selected _)).trans (Work.tellsOnly_joinWaitList _ p _)).trans (Work.tellsOnly_modPos _ p _)

theorem Work.tellsOnly_removeCause (p : PosId) (w : Work) (c : Cause) : Work.TellsOnly p w (w.removeCause p c) := by
  have removed := w.tellsOnly_modPos p (fun y => { y with ses.causes := y.ses.causes.put c false })
  unfold Work.removeCause
  dsimp only
  split
  · split
    · exact removed.trans (Work.tellsOnly_leaveHeld _ p)
    · exact removed
  · exact fun q _ => .refl q w

theorem Work.tellsOnly_grantGiven (w : Work) (p : PosId) : Work.TellsOnly p w (w.grantGiven p) := by
  have told := w.tellsOnly_modPos p (fun x => { x with ses.band := .cold })
  have selected : ∀ v : Work, Work.TellsOnly p v (v.pulsingSelect p) := fun v q other => by
    obtain ⟨pos, waits⟩ := (v.pulsingSelect_selected p).others q other
    exact ⟨pos, waits⟩
  unfold Work.grantGiven
  dsimp only
  split
  · exact .trans (told.trans (Work.tellsOnly_modPos _ p _)) (selected _)
  · exact told

/-! ### Telling a list of positions in turn -/

section
variable {f : PosId → Work → Work} (own : ∀ p w, Work.TellsOnly p w (f p w))
include own

/-- A position off the list is not told. -/
theorem Work.each_unmoved {p : PosId} (ps : List PosId) (out : p ∉ ps) (w : Work) :
    Work.Unmoved p w (Work.each f ps w) := by
  induction ps generalizing w with
  | nil => exact .refl p w
  | cons q qs ih =>
    obtain ⟨other, rest⟩ := not_or.mp (List.mem_cons.not.mp out)
    exact (own q w p other).trans (ih rest _)

/-- A position on the list is told once, and stands before and after. -/
theorem Work.each_told {p : PosId} {ps : List PosId} (once : ps.Nodup) (here : p ∈ ps) (w : Work) :
    ∃ u, Work.Unmoved p w u ∧ Work.Unmoved p (f p u) (Work.each f ps w) := by
  induction ps generalizing w with
  | nil => cases here
  | cons q qs ih =>
    obtain ⟨out, once⟩ := List.nodup_cons.mp once
    obtain rfl | later := List.mem_cons.mp here
    · exact ⟨w, .refl p w, Work.each_unmoved own qs out _⟩
    · have other : p ≠ q := fun e => out (e ▸ later)
      obtain ⟨u, before, after⟩ := ih once later (f q w)
      exact ⟨u, (own q w p other).trans before, after⟩

end

end Sys2Proof.Machine
end

section
/-! SUPPORT. The loop through a tick: its reserve, its chiller, and what the end of the rule makes of them
(03, R62, R63; 04, R72, R74, R75). -/
open Sys2Proof Sys2Proof.Machine
namespace Sys2Proof.Machine

/-! ### One loop changes -/

/-- From `w` to `t` loop `l` becomes `x` and the others stand. -/
structure Work.Becomes (l : LoopId) (x : Loop) (w t : Work) : Prop where
  steady : w.Steady t.toState
  here : t.loop l = x
  there : ∀ m, m ≠ l → t.loop m = w.loop m

theorem Work.Becomes.trans {l : LoopId} {x y : Loop} {w t u : Work} (h : Work.Becomes l x w t)
    (g : Work.Becomes l y t u) : Work.Becomes l y w u :=
  ⟨h.steady.trans g.steady, g.here, fun m other => (g.there m other).trans (h.there m other)⟩

theorem Work.becomes_refl (w : Work) (l : LoopId) : Work.Becomes l (w.loop l) w w := ⟨.refl _, rfl, fun _ _ => rfl⟩

theorem Work.Tells.becomes {w t : Work} (h : w.Tells t) (l : LoopId) : Work.Becomes l (w.loop l) w t :=
  ⟨h.steady, congrArg (·.get l) h.spares.loops, fun m _ => congrArg (·.get m) h.spares.loops⟩

theorem Work.Becomes.tells {l : LoopId} {x : Loop} {w t u : Work} (h : Work.Becomes l x w t) (g : t.Tells u) :
    Work.Becomes l x w u := by
  have after := g.becomes l
  rw [h.here] at after
  exact h.trans after

theorem Work.becomes_modLoop (w : Work) (l : LoopId) {f : Loop → Loop}
    (settings : ∀ x : Loop, (f x).draw = x.draw ∧ (f x).capacity = x.capacity ∧ (f x).floor = x.floor ∧
      (f x).recharge = x.recharge ∧ (f x).consumption = x.consumption) (outlet : ∀ x : Loop, (f x).outlet = x.outlet) :
    Work.Becomes l (f (w.loop l)) w (w.modLoop l f) :=
  ⟨w.steady_modLoop l settings outlet, Work.modLoop_loop_self w l f, fun _ other => Work.modLoop_loop_ne w f other⟩

/-! ### Step 1: the reserve -/

/-- Sessions and wait list stand. -/
structure Work.SparesSessions (w t : Work) : Prop where
  positions : t.positions = w.positions
  waitList : t.waitList = w.waitList

theorem Work.SparesSessions.unmoved {w t : Work} (h : w.SparesSessions t) (p : PosId) : Work.Unmoved p w t :=
  Work.unmoved_of_eq h.positions h.waitList p

/-- The reserve at the end of step 1 (04, R74). -/
def State.tickedReserve (s : State) (l : LoopId) : Nat := (s.loop l).reserveAfter (s.fuellingHolders l).length

theorem Work.tickReserve_becomes (w : Work) (l : LoopId) :
    Work.Becomes l { w.loop l with reserve := w.tickedReserve l } w (w.tickReserve l) ∧
      w.SparesSessions (w.tickReserve l) ∧ (w.tickReserve l).powerQueue = w.powerQueue ∧
      (w.tickReserve l).serveDue = w.serveDue ∧ (w.tickReserve l).granted = w.granted := by
  have reserve := w.becomes_modLoop l (f := fun y => { y with reserve := w.tickedReserve l })
    (fun _ => ⟨rfl, rfl, rfl, rfl, rfl⟩) fun _ => rfl
  have granted : (w.modLoop l (fun y => { y with reserve := w.tickedReserve l })).granted = w.granted :=
    Nat.add_right_cancel (w.granted_modLoop l _)
  unfold Work.tickReserve
  dsimp only
  split
  · exact ⟨reserve.tells (Work.tells_raise _ 13), ⟨rfl, rfl⟩, rfl, rfl, granted⟩
  · exact ⟨reserve, ⟨rfl, rfl⟩, rfl, rfl, granted⟩

theorem Work.raised_requested (w : Work) {i : Nat} (bound : i < 16) : (w.raise i).requested i := by
  show (w.notices.requests ||| BitVec.twoPow 16 i).getLsbD i = true
  rw [BitVec.getLsbD_or, BitVec.getLsbD_twoPow]
  simp [bound]

/-- N13 when the reserve falls to 0 (04, R74). -/
theorem Work.tickReserve_requested {w : Work} {l : LoopId} (before : 0 < (w.loop l).reserve)
    (after : w.tickedReserve l = 0) : (w.tickReserve l).requested 13 := by
  unfold Work.tickReserve
  dsimp only
  rw [if_pos ⟨before, after⟩]
  exact Work.raised_requested _ (by decide)

/-! ### Step 2: the chiller -/

/-- Nothing is asked of a chiller that runs or waits (04, R75). -/
def Loop.Sated (x : Loop) : Prop := x.reserve = x.capacity ∧ x.grants = [] ∧ x.queue = []

/-- What step 2 makes of the chiller of `l`, from `w` to `t` (04, R72, R75). -/
structure Work.ChillerTicked (l : LoopId) (w t : Work) : Prop where
  becomes : Work.Becomes l { w.loop l with chiller := (t.loop l).chiller } w t
  sessions : w.SparesSessions t
  runs : (w.loop l).chiller = .off → (w.loop l).demand = true → w.granted + (w.loop l).draw ≤ w.station.allowance →
    (t.loop l).chiller = .running
  waits : (w.loop l).chiller = .off → (w.loop l).demand = true → w.station.allowance < w.granted + (w.loop l).draw →
    (t.loop l).chiller = .waitingPower ∧ t.powerQueue = w.powerQueue ++ [l]
  idle : (w.loop l).chiller = .off → (w.loop l).demand = false → (t.loop l).chiller = .off
  stops : (w.loop l).chiller ≠ .off → (w.loop l).Sated → (t.loop l).chiller = .off
  stays : (w.loop l).chiller ≠ .off → ¬ (w.loop l).Sated → (t.loop l).chiller = (w.loop l).chiller
  owes : t.serveDue = w.serveDue ∨ (w.loop l).chiller = .running ∧ (w.loop l).Sated ∧ t.powerQueue = w.powerQueue
  leaves : (w.loop l).chiller ≠ .off → (w.loop l).Sated → ((w.loop l).chiller = .running → l ∉ w.powerQueue) →
    l ∉ t.powerQueue

/-- The chiller of `l` switched, with the waiting order and what the rule then owes. -/
def Work.switched (l : LoopId) (c : ChillerState) (order : List LoopId) (serve due : Bool) (w : Work) : Work :=
  { w.modLoop l (Loop.switch c) with powerQueue := order, serveDue := serve, evalDue := due }

theorem Work.switched_chiller (w : Work) (l : LoopId) (c : ChillerState) (order : List LoopId) (serve due : Bool) :
    ((w.switched l c order serve due).loop l).chiller = c := w.switch_self l c

theorem Work.switched_becomes (w : Work) (l : LoopId) (c : ChillerState) (order : List LoopId) (serve due : Bool) :
    Work.Becomes l { w.loop l with chiller := ((w.switched l c order serve due).loop l).chiller } w
      (w.switched l c order serve due) := by
  obtain ⟨steady, here, there⟩ := w.becomes_modLoop l (f := Loop.switch c) (fun _ => ⟨rfl, rfl, rfl, rfl, rfl⟩)
    fun _ => rfl
  rw [Work.switched_chiller]
  exact ⟨steady.trans (State.evolves_lists _ w.refillQueue w.waitList order).toSettles.steady, here, there⟩

theorem Work.switched_sessions (w : Work) (l : LoopId) (c : ChillerState) (order : List LoopId) (serve due : Bool) :
    w.SparesSessions (w.switched l c order serve due) := ⟨rfl, rfl⟩

theorem Work.claimChiller_fits {w : Work} {l : LoopId} (fits : w.granted + (w.loop l).draw ≤ w.station.allowance) :
    w.claimChiller l = w.switched l .running w.powerQueue w.serveDue w.evalDue :=
  if_pos (decide_eq_true fits)

theorem Work.claimChiller_waits {w : Work} {l : LoopId} (full : w.station.allowance < w.granted + (w.loop l).draw) :
    w.claimChiller l = w.switched l .waitingPower (w.powerQueue ++ [l]) w.serveDue w.evalDue :=
  if_neg (by unfold State.chillerFits; rw [decide_eq_true_eq]; omega)

theorem Work.stopChiller_running {w : Work} {l : LoopId} (runs : (w.loop l).chiller = .running) :
    w.stopChiller l = w.switched l .off w.powerQueue true true := if_pos runs

theorem Work.stopChiller_waiting {w : Work} {l : LoopId} (waits : (w.loop l).chiller ≠ .running) :
    w.stopChiller l = w.switched l .off (w.powerQueue.filter (fun x => x != l)) w.serveDue w.evalDue := if_neg waits

/-- Step 2 changes nothing: an OFF chiller without demand, or one that has work to do. -/
theorem Work.chillerTicked_same {w : Work} {l : LoopId} (idle : (w.loop l).chiller = .off → (w.loop l).demand = false)
    (busy : (w.loop l).chiller ≠ .off → ¬ (w.loop l).Sated) : Work.ChillerTicked l w w where
  becomes := w.becomes_refl l
  sessions := ⟨rfl, rfl⟩
  runs := fun off asks => absurd (idle off) (by rw [asks]; decide)
  waits := fun off asks => absurd (idle off) (by rw [asks]; decide)
  idle := fun off _ => off
  stops := fun on sated => absurd sated (busy on)
  stays := fun _ _ => rfl
  owes := .inl rfl
  leaves := fun on sated => absurd sated (busy on)

/-- An OFF chiller with demand claims its draw (03, R62). -/
theorem Work.chillerTicked_claim {w : Work} {l : LoopId} (off : (w.loop l).chiller = .off)
    (asks : (w.loop l).demand = true) : Work.ChillerTicked l w (w.claimChiller l) := by
  have never : ∀ {q : Prop}, (w.loop l).chiller ≠ .off → q := fun on => absurd off on
  have asked : ∀ {q : Prop}, (w.loop l).demand = false → q := fun idle => absurd idle (by rw [asks]; decide)
  by_cases fits : w.granted + (w.loop l).draw ≤ w.station.allowance
  · rw [Work.claimChiller_fits fits]
    exact ⟨w.switched_becomes .., w.switched_sessions .., fun _ _ _ => w.switched_chiller ..,
      fun _ _ full => absurd fits (Nat.not_le.mpr full), fun _ => asked, fun on => never on, fun on => never on,
      .inl rfl, fun on => never on⟩
  · rw [Work.claimChiller_waits (Nat.not_le.mp fits)]
    exact ⟨w.switched_becomes .., w.switched_sessions .., fun _ _ room => absurd room fits,
      fun _ _ _ => ⟨w.switched_chiller .., rfl⟩, fun _ => asked, fun on => never on, fun on => never on,
      .inl rfl, fun on => never on⟩

/-- A chiller with nothing left to do goes OFF (04, R72). -/
theorem Work.chillerTicked_stop {w : Work} {l : LoopId} (on : (w.loop l).chiller ≠ .off)
    (sated : (w.loop l).Sated) : Work.ChillerTicked l w (w.stopChiller l) := by
  by_cases runs : (w.loop l).chiller = .running
  · rw [Work.stopChiller_running runs]
    exact ⟨w.switched_becomes .., w.switched_sessions .., fun off => absurd off on, fun off => absurd off on,
      fun off => absurd off on, fun _ _ => w.switched_chiller .., fun _ busy => absurd sated busy,
      .inr ⟨runs, sated, rfl⟩, fun _ _ out => out runs⟩
  · rw [Work.stopChiller_waiting runs]
    exact ⟨w.switched_becomes .., w.switched_sessions .., fun off => absurd off on, fun off => absurd off on,
      fun off => absurd off on, fun _ _ => w.switched_chiller .., fun _ busy => absurd sated busy,
      .inl rfl, fun _ _ _ inside => absurd (List.mem_filter.mp inside).2 (by simp)⟩

theorem Work.tickChiller_ticked (w : Work) (l : LoopId) : Work.ChillerTicked l w (w.tickChiller l) := by
  unfold Work.tickChiller
  dsimp only
  split
  · next off =>
    split
    · next asks => exact Work.chillerTicked_claim off asks
    · next idle => exact Work.chillerTicked_same (fun _ => Bool.eq_false_iff.mpr idle) fun on => absurd off on
  · next on =>
    split
    · next sated => exact Work.chillerTicked_stop on sated
    · next busy => exact Work.chillerTicked_same (fun off => absurd off on) fun _ => busy

/-! ### The rule's end -/

/-- A chiller off the waiting order is not served. -/
theorem Work.each_serveOne_off {l : LoopId} (ls : List LoopId) (out : l ∉ ls) (w : Work) :
    (Work.each Work.serveOne ls w).loop l = w.loop l ∧
      ∀ m ∈ (Work.each Work.serveOne ls w).powerQueue, m ∈ w.powerQueue := by
  have one : ∀ (k : LoopId) (v : Work), l ≠ k →
      (v.serveOne k).loop l = v.loop l ∧ ∀ m ∈ (v.serveOne k).powerQueue, m ∈ v.powerQueue := by
    intro k v other
    unfold Work.serveOne
    split
    · exact ⟨rfl, fun _ => id⟩
    · split
      · exact ⟨Work.modLoop_loop_ne _ _ other, fun m listed => (List.mem_filter.mp listed).1⟩
      · exact ⟨rfl, fun _ => id⟩
  induction ls generalizing w with
  | nil => exact ⟨rfl, fun _ => id⟩
  | cons k ks ih =>
    obtain ⟨other, rest⟩ := not_or.mp (List.mem_cons.not.mp out)
    obtain ⟨loop, order⟩ := one k w other
    obtain ⟨loop', order'⟩ := ih rest (w.serveOne k)
    exact ⟨loop'.trans loop, fun m listed => order m (order' m listed)⟩

/-- A chiller off the waiting order stands to the rule's end. -/
theorem Work.close_loop_off {w : Work} {l : LoopId} (out : l ∉ w.powerQueue) (s0 : State) :
    (w.close s0).loop l = w.loop l ∧ l ∉ (w.close s0).powerQueue := by
  obtain ⟨loops, order⟩ := w.close_order s0
  obtain ⟨loop, kept⟩ := Work.each_serveOne_off w.powerQueue out w
  rw [order]
  constructor
  · refine (congrArg (·.get l) loops).trans ?_
    split
    · exact loop
    · rfl
  · split
    · exact fun inside => out (kept l inside)
    · exact out

/-- A rule that owes the waiting order nothing leaves the loops and the order to its end. -/
theorem Work.close_unserved {w : Work} (serve : w.serveDue = false) (s0 : State) :
    (w.close s0).loops = w.loops ∧ (w.close s0).powerQueue = w.powerQueue := by
  obtain ⟨loops, order⟩ := w.close_order s0
  rw [loops, order, serve]
  exact ⟨rfl, rfl⟩

/-- The rule's end changes no more of a loop than its chiller. -/
theorem Work.close_chillers (w : Work) (s0 : State) (m : LoopId) :
    (w.close s0).loop m = { w.loop m with chiller := ((w.close s0).loop m).chiller } := by
  have one : ∀ (k : LoopId) (v : Work),
      (v.serveOne k).loop m = { v.loop m with chiller := ((v.serveOne k).loop m).chiller } := by
    intro k v
    unfold Work.serveOne
    split
    · rfl
    · split
      · unfold Work.grantChiller
        dsimp only
        rw [Work.modLoop_loop]
        split
        · next here => rw [here]; rfl
        · rfl
      · rfl
  have all : w.serveWaiting.loop m = { w.loop m with chiller := (w.serveWaiting.loop m).chiller } :=
    Work.each_keeps (fun v u => u.loop m = { v.loop m with chiller := (u.loop m).chiller }) (fun _ => rfl)
      (fun p q => by rw [q, p]) Work.serveOne one _ w
  have loop : (w.close s0).loop m = (if w.serveDue then w.serveWaiting else w).loop m :=
    congrArg (·.get m) (w.close_order s0).1
  rw [loop]
  split
  · exact all
  · rfl

end Sys2Proof.Machine
end

section
/-! SUPPORT. The band and the loss count of a tick, and what they make of the grant holders (04, R75, R76; 05, R97,
R98). -/
open Sys2Proof Sys2Proof.Machine
namespace Sys2Proof.Machine

/-! ### PRECOOL removed -/

/-- What the removal of PRECOOL makes of position `x`: it is `y`, on the wait list or not (05, R98). -/
structure Position.Relieved (x y : Position) (waits : Bool) : Prop where
  band : y.ses.band = x.ses.band
  without : x.ses.causes.precool = false → y = x
  others : x.ses.state = .held → x.ses.causes.precool = true →
    x.ses.causes.noBank = true ∨ x.ses.causes.vehicle = true ∨ x.ses.causes.host = true →
    y.ses.state = .held ∧ y.ses.causes = { x.ses.causes with precool := false } ∧ y.tmr.held = x.tmr.held
  last : x.ses.state = .held → x.ses.causes = { noBank := false, precool := true, vehicle := false, host := false } →
    (y.ses.state = .fuelling ∧ y.ses.staged.isSome = true ∧
      y.ses.causes = { noBank := false, precool := false, vehicle := false, host := false } ∧
      y.tmr.held = none ∧ y.tmr.ramp = some 1000) ∨
    (y.ses.state = .held ∧ waits = true ∧ y.tmr.held = some 120000 ∧
      y.ses.causes = { noBank := true, precool := false, vehicle := false, host := false })

/-- A session that leaves HELD finds a bank, or waits for one in HELD (05, R98). -/
theorem Work.leaveHeld_left (w : Work) (p : PosId) :
    (((w.leaveHeld p).pos p).ses.band = (w.pos p).ses.band) ∧
      ((((w.leaveHeld p).pos p).ses.state = .fuelling ∧ ((w.leaveHeld p).pos p).ses.staged.isSome = true ∧
          ((w.leaveHeld p).pos p).ses.causes = (w.pos p).ses.causes ∧ ((w.leaveHeld p).pos p).tmr.held = none ∧
          ((w.leaveHeld p).pos p).tmr.ramp = some 1000) ∨
        (((w.leaveHeld p).pos p).ses.state = (w.pos p).ses.state ∧ (w.leaveHeld p).waits p = true ∧
          ((w.leaveHeld p).pos p).tmr.held = some 120000 ∧
          ((w.leaveHeld p).pos p).ses.causes = { (w.pos p).ses.causes with noBank := true })) := by
  have pos := Work.modPos_pos_self w p (fun x =>
    { x with ses.ceiling := min (w.hoseOf p) x.ses.target, tmr.held := none })
  unfold Work.leaveHeld
  dsimp only
  generalize w.modPos p (fun x => { x with ses.ceiling := min (w.hoseOf p) x.ses.target, tmr.held := none }) = v
    at pos ⊢
  cases found : v.select (v.needOf p) ((v.pos p).cfg.cls.tiersFrom (v.pos p).ses.cursor) with
  | some b =>
    rw [Work.fuellingSelect_found found, if_pos rfl, Work.modPos_pos_self, Work.modPos_pos_self,
      Work.claimBank_pos, pos]
    exact ⟨rfl, .inl ⟨rfl, rfl, rfl, rfl, rfl⟩⟩
  | none =>
    rw [Work.fuellingSelect_none found, if_neg Bool.false_ne_true, Work.modPos_pos_self,
      (v.joinWaitList_frame p _).2.2.2, pos]
    exact ⟨rfl, .inr ⟨rfl, v.joinWaitList_waits_self p _, rfl, rfl⟩⟩

/-- The removal of PRECOOL (05, R97, R98). -/
theorem Work.removePrecool_relieved (w : Work) (p : PosId) :
    (w.pos p).Relieved ((w.removeCause p .precool).pos p) ((w.removeCause p .precool).waits p) := by
  have pos := Work.modPos_pos_self w p (fun y => { y with ses.causes := y.ses.causes.put .precool false })
  unfold Work.removeCause
  dsimp only
  split
  · next has =>
    obtain ⟨held, precool⟩ := has
    have has : (w.pos p).ses.causes.precool = true := precool
    split
    · next empty =>
      obtain ⟨band, left⟩ :=
        (w.modPos p (fun y => { y with ses.causes := y.ses.causes.put .precool false })).leaveHeld_left p
      rw [pos] at band left
      refine ⟨band, fun no => absurd has (by rw [no]; decide), fun _ _ other => ?_, fun _ only => ?_⟩
      · exfalso
        simp only [Causes.isEmpty, Causes.put, Bool.and_eq_true, Bool.not_eq_true'] at empty
        obtain ⟨⟨⟨noBank, _⟩, vehicle⟩, host⟩ := empty
        rw [noBank, vehicle, host] at other
        simp at other
      · dsimp only at left
        rw [held, only] at left
        exact left
    · next rest =>
      rw [pos]
      refine ⟨rfl, fun no => absurd has (by rw [no]; decide), fun _ _ _ => ⟨held, rfl, rfl⟩, fun _ only => ?_⟩
      exact absurd (by rw [only]; rfl) rest
  · next lacks =>
    exact ⟨rfl, fun _ => rfl, fun held precool => absurd ⟨held, precool⟩ lacks,
      fun held only => absurd ⟨held, by rw [only]; rfl⟩ lacks⟩

/-! ### Step 3: the band -/

/-- The band of `l` computed, and reported to each grant holder (04, R75; 06, R109). -/
def Work.reportBand (l : LoopId) (b : Band) (w : Work) : Work :=
  Work.each (fun p w => w.modPos p (fun y => { y with ses.band := b })) (w.loop l).grants
    (w.modLoop l (fun y => { y with band := b }))

theorem Work.tickBand_same {w : Work} {l : LoopId} (same : (w.loop l).bandNow = (w.loop l).band) :
    w.tickBand l = w := if_pos same

theorem Work.tickBand_reported {w : Work} {l : LoopId} (changed : (w.loop l).bandNow ≠ (w.loop l).band)
    (had : (w.loop l).band ≠ .lost) : w.tickBand l = w.reportBand l (w.loop l).bandNow :=
  (if_neg changed).trans (if_neg had)

theorem Work.tickBand_regained {w : Work} {l : LoopId} (changed : (w.loop l).bandNow ≠ (w.loop l).band)
    (lost : (w.loop l).band = .lost) : w.tickBand l =
      Work.each (fun p w => w.removeCause p .precool) (w.loop l).grants (w.reportBand l (w.loop l).bandNow) :=
  (if_neg changed).trans (if_pos lost)

/-- Loop `l` takes a band, and positions are told. -/
structure Work.Banded (l : LoopId) (b : Band) (w t : Work) : Prop where
  becomes : Work.Becomes l { w.loop l with band := b } w t
  order : t.powerQueue = w.powerQueue
  serve : t.serveDue = w.serveDue

theorem Work.reportBand_banded (w : Work) (l : LoopId) (b : Band) : Work.Banded l b w (w.reportBand l b) := by
  have loop := w.becomes_modLoop l (f := fun y => { y with band := b }) (fun _ => ⟨rfl, rfl, rfl, rfl, rfl⟩)
    fun _ => rfl
  have told := Work.tells_each (fun p v => v.tells_band p b) (w.loop l).grants
    (w.modLoop l (fun y => { y with band := b }))
  exact ⟨loop.tells told, told.spares.order, told.spares.serve⟩

theorem Work.tickBand_banded (w : Work) (l : LoopId) : Work.Banded l (w.loop l).bandNow w (w.tickBand l) := by
  by_cases same : (w.loop l).bandNow = (w.loop l).band
  · rw [Work.tickBand_same same, same]
    exact ⟨w.becomes_refl l, rfl, rfl⟩
  · obtain ⟨becomes, order, serve⟩ := w.reportBand_banded l (w.loop l).bandNow
    by_cases lost : (w.loop l).band = .lost
    · have told := Work.tells_each (fun p v => v.tells_removeCause p .precool) (w.loop l).grants
        (w.reportBand l (w.loop l).bandNow)
      rw [Work.tickBand_regained same lost]
      exact ⟨becomes.tells told, told.spares.order.trans order, told.spares.serve.trans serve⟩
    · rw [Work.tickBand_reported same lost]
      exact ⟨becomes, order, serve⟩

/-- A grant holder is told the band. -/
theorem Work.reportBand_holder {w : Work} {l : LoopId} {p : PosId} (once : (w.loop l).grants.Nodup)
    (holder : p ∈ (w.loop l).grants) (b : Band) :
    (w.reportBand l b).pos p = { w.pos p with ses.band := b } ∧ (w.reportBand l b).waits p = w.waits p := by
  obtain ⟨u, ⟨pos, waits⟩, ⟨pos', waits'⟩⟩ := Work.each_told
    (f := fun p w => w.modPos p (fun y => { y with ses.band := b }))
    (fun p v => v.tellsOnly_modPos p _) once holder (w.modLoop l (fun y => { y with band := b }))
  refine ⟨pos'.trans ?_, waits'.trans waits⟩
  rw [Work.modPos_pos_self, pos]
  rfl

/-- A session that holds no grant is not told. -/
theorem Work.tickBand_unmoved {w : Work} {l : LoopId} {p : PosId} (out : p ∉ (w.loop l).grants) :
    Work.Unmoved p w (w.tickBand l) := by
  have reported : ∀ b, Work.Unmoved p w (w.reportBand l b) := fun b =>
    .trans (b := w.modLoop l (fun y => { y with band := b })) ⟨rfl, rfl⟩
      (Work.each_unmoved (fun p v => v.tellsOnly_modPos p _) _ out _)
  by_cases same : (w.loop l).bandNow = (w.loop l).band
  · rw [Work.tickBand_same same]
    exact .refl p w
  · by_cases lost : (w.loop l).band = .lost
    · rw [Work.tickBand_regained same lost]
      exact (reported _).trans (Work.each_unmoved (fun p v => v.tellsOnly_removeCause p .precool) _ out _)
    · rw [Work.tickBand_reported same lost]
      exact reported _

/-- A grant holder when the band changes from LOST (04, R76). -/
theorem Work.tickBand_relieved {w : Work} {l : LoopId} {p : PosId} (once : (w.loop l).grants.Nodup)
    (holder : p ∈ (w.loop l).grants) (changed : (w.loop l).bandNow ≠ (w.loop l).band) (lost : (w.loop l).band = .lost) :
    Position.Relieved { w.pos p with ses.band := (w.loop l).bandNow } ((w.tickBand l).pos p)
      ((w.tickBand l).waits p) := by
  obtain ⟨told, _⟩ := Work.reportBand_holder once holder (w.loop l).bandNow
  obtain ⟨u, ⟨pos, _⟩, ⟨pos', waits'⟩⟩ := Work.each_told (f := fun p w => w.removeCause p .precool)
    (fun p v => v.tellsOnly_removeCause p .precool) once holder (w.reportBand l (w.loop l).bandNow)
  have relieved := u.removePrecool_relieved p
  rw [Work.tickBand_regained changed lost, pos', waits']
  rw [pos, told] at relieved
  exact relieved

/-! ### The loss count -/

/-- The loss count after a tick at a band, with `n` holders in FUELLING (04, R76). -/
def Loop.lossAfter (n : Nat) (x : Loop) : Nat :=
  if x.band ≠ .lost then 0 else if n = 0 then x.loss else min 10 (x.loss + 1)

/-- HELD with PRECOOL among its causes. -/
def Position.Warm (x : Position) : Prop := x.ses.state = .held ∧ x.ses.causes.precool = true

/-- A position about which no more is told than that its bank is gone, or that PRECOOL is lost. -/
structure Position.Firm (x y : Position) : Prop where
  fuelling : x.ses.state = .fuelling → y.ses.state = .fuelling ∨ y.Warm
  warm : x.Warm → y.Warm
  band : y.ses.band = x.ses.band

theorem Position.Firm.refl (x : Position) : x.Firm x := ⟨.inl, id, rfl⟩

theorem Position.Firm.trans {x y z : Position} (h : x.Firm y) (g : y.Firm z) : x.Firm z :=
  ⟨fun f => (h.fuelling f).elim g.fuelling fun warm => .inr (g.warm warm), fun f => g.warm (h.warm f),
    g.band.trans h.band⟩

/-- A change that touches neither state, causes nor band. -/
theorem Position.firm_of_eq {x y : Position} (state : y.ses.state = x.ses.state)
    (precool : y.ses.causes.precool = x.ses.causes.precool) (band : y.ses.band = x.ses.band) : x.Firm y :=
  ⟨fun f => .inl (state.trans f), fun f => ⟨state.trans f.1, precool.trans f.2⟩, band⟩

/-- Every position is firm from `w` to `t`. -/
def Work.Firm (w t : Work) : Prop := ∀ p, (w.pos p).Firm (t.pos p)

theorem Work.Firm.refl (w : Work) : w.Firm w := fun _ => .refl _

theorem Work.Firm.trans {a b c : Work} (h : a.Firm b) (g : b.Firm c) : a.Firm c := fun p => (h p).trans (g p)

theorem Work.Firm.of_positions {w t : Work} (h : t.positions = w.positions) : w.Firm t := fun p => by
  unfold State.pos
  rw [h]
  exact .refl _

theorem Work.firm_modPos (w : Work) (p : PosId) {f : Position → Position} (h : (w.pos p).Firm (f (w.pos p))) :
    w.Firm (w.modPos p f) := fun q => by
  rw [Work.modPos_pos]
  split
  · next own => rw [own]; exact h
  · exact .refl _

theorem Work.firm_takeOffer (w : Work) (p : PosId) (b : BankId) : w.Firm (w.takeOffer p b).2 := by
  unfold Work.takeOffer
  dsimp only
  split
  · exact w.firm_modPos p (Position.firm_of_eq rfl rfl rfl)
  · split
    · next waiting =>
      obtain ⟨held, only⟩ := waiting
      refine w.firm_modPos p ⟨fun fuelling => ?_, fun warm => ?_, rfl⟩
      · exact absurd (held.symm.trans fuelling) (by decide)
      · exact absurd warm.2 (by rw [only]; decide)
    · split
      · exact w.firm_modPos p (Position.firm_of_eq rfl rfl rfl)
      · exact .refl w

theorem Work.firm_freeBank (w : Work) (b : BankId) : w.Firm (w.freeBank b) := .of_positions (w.freeBank_lists b).1

theorem Work.firm_offer (n : Nat) (b : BankId) (w : Work) : w.Firm (Work.offer n b w) := by
  induction n generalizing w with
  | zero => exact .refl w
  | succ n ih =>
    unfold Work.offer
    split
    · exact .refl w
    · next e _ =>
      have claimed : w.Firm ((w.leaveWaitList e.pos).claimBank (.pos e.pos) b) := .of_positions rfl
      have taken := claimed.trans (Work.firm_takeOffer _ e.pos b)
      dsimp only
      split
      · exact taken
      · exact (taken.trans (Work.firm_freeBank _ b)).trans (ih _)

theorem Work.firm_releaseBank (w : Work) (c : Claimant) (b : BankId) : w.Firm (w.releaseBank c b) := by
  unfold Work.releaseBank
  split
  · unfold Work.offerBank
    split
    · exact (w.firm_freeBank b).trans (Work.firm_offer _ b _)
    · exact w.firm_freeBank b
  · exact .refl w

theorem Work.firm_releaseNamed (w : Work) (p : PosId) : w.Firm (w.releaseNamed p) := by
  have dropped := w.firm_modPos p (f := fun y => { y with ses := { y.ses with current := none, staged := none } })
    (Position.firm_of_eq rfl rfl rfl)
  unfold Work.releaseNamed
  dsimp only
  split <;> split
  · exact (dropped.trans (Work.firm_releaseBank _ _ _)).trans (Work.firm_releaseBank _ _ _)
  · exact dropped.trans (Work.firm_releaseBank _ _ _)
  · exact dropped.trans (Work.firm_releaseBank _ _ _)
  · exact dropped

/-- A holder in FUELLING goes to HELD with PRECOOL; one that is there already stays (05, R97). -/
theorem Work.addPrecool_firm (w : Work) (p : PosId) : w.Firm (w.addCause p .precool) ∧
    ((w.pos p).ses.state = .fuelling ∨ (w.pos p).Warm → ((w.addCause p .precool).pos p).Warm) := by
  unfold Work.addCause
  split
  · next fuelling =>
    have closed := (w.firm_modPos p (f := Position.closeRoute) (Position.firm_of_eq rfl rfl rfl)).trans
      (Work.firm_releaseNamed _ p)
    unfold Work.enterHeld
    dsimp only
    generalize (w.modPos p Position.closeRoute).releaseNamed p = v at closed ⊢
    have warm : (((v.modPos p (fun x => { x with
        ses := { x.ses with state := .held, causes := x.ses.causes.put .precool true },
        tmr := { x.tmr with ramp := none, held := some Config.heldMs } })).pos p)).Warm := by
      rw [Work.modPos_pos_self]
      exact ⟨rfl, rfl⟩
    refine ⟨closed.trans (v.firm_modPos p ⟨fun _ => .inr ⟨rfl, rfl⟩, fun _ => ⟨rfl, rfl⟩, rfl⟩), fun _ => warm⟩
  · next held =>
    refine ⟨w.firm_modPos p ⟨fun f => absurd (held.symm.trans f) (by decide), fun _ => ⟨held, rfl⟩, rfl⟩, fun _ => ?_⟩
    rw [Work.modPos_pos_self]
    exact ⟨held, rfl⟩
  · next fuelling held =>
    exact ⟨.refl w, fun either => either.elim (fun f => absurd f fuelling) fun warm => absurd warm.1 held⟩

/-- Every holder reported to is HELD with PRECOOL (04, R76). -/
theorem Work.each_addPrecool (ps : List PosId) (w : Work) : w.Firm (Work.each (fun p v => v.addCause p .precool) ps w) ∧
    ∀ p ∈ ps, (w.pos p).ses.state = .fuelling ∨ (w.pos p).Warm →
      ((Work.each (fun p v => v.addCause p .precool) ps w).pos p).Warm := by
  induction ps generalizing w with
  | nil => exact ⟨.refl w, fun _ listed => by cases listed⟩
  | cons q qs ih =>
    obtain ⟨firm, told⟩ := w.addPrecool_firm q
    obtain ⟨rest, later⟩ := ih (w.addCause q .precool)
    refine ⟨firm.trans rest, fun p listed either => ?_⟩
    obtain rfl | listed := List.mem_cons.mp listed
    · exact (rest p).warm (told either)
    · exact later p listed (either.elim (firm p).fuelling fun warm => .inr ((firm p).warm warm))

/-- The loss count after step 3, from the holders in FUELLING then. -/
def State.tickedLoss (s : State) (l : LoopId) : Nat := (s.loop l).lossAfter (s.fuellingHolders l).length

theorem Work.tickLoss_eq (w : Work) (l : LoopId) : w.tickLoss l =
    if w.tickedLoss l = 10 ∧ w.fuellingHolders l ≠ [] then
      (Work.each (fun p v => v.addCause p .precool) (w.fuellingHolders l)
        (w.modLoop l (fun y => { y with loss := w.tickedLoss l }))).raise 13
    else w.modLoop l (fun y => { y with loss := w.tickedLoss l }) := by
  have count : (if (w.loop l).band ≠ .lost then 0 else if w.fuellingHolders l = [] then (w.loop l).loss
      else min 10 ((w.loop l).loss + 1)) = w.tickedLoss l := by
    unfold State.tickedLoss Loop.lossAfter
    simp only [List.length_eq_zero_iff]
  unfold Work.tickLoss
  dsimp only
  rw [count]

/-- What the loss count makes of the loop, the waiting order and the holders (04, R76). -/
structure Work.LossTicked (l : LoopId) (w t : Work) : Prop where
  becomes : Work.Becomes l { w.loop l with loss := w.tickedLoss l } w t
  order : t.powerQueue = w.powerQueue
  serve : t.serveDue = w.serveDue
  firm : w.Firm t
  kept : (w.loop l).band ≠ .lost → ∀ p, Work.Unmoved p w t
  held : w.tickedLoss l = 10 → ∀ p ∈ w.fuellingHolders l, (t.pos p).Warm ∧ t.requested 13

theorem State.mem_fuellingHolders {s : State} {l : LoopId} {p : PosId} :
    p ∈ s.fuellingHolders l ↔ p ∈ (s.loop l).grants ∧ (s.pos p).ses.state = .fuelling := by
  unfold State.fuellingHolders
  rw [List.mem_filter, beq_iff_eq]

theorem Work.tickLoss_ticked (w : Work) (l : LoopId) : Work.LossTicked l w (w.tickLoss l) := by
  have counted := w.becomes_modLoop l (f := fun y => { y with loss := w.tickedLoss l })
    (fun _ => ⟨rfl, rfl, rfl, rfl, rfl⟩) fun _ => rfl
  rw [Work.tickLoss_eq]
  split
  · next full =>
    obtain ⟨ten, _⟩ := full
    have told := (Work.tells_each (fun p v => v.tells_addCause p .precool) (w.fuellingHolders l)
      (w.modLoop l (fun y => { y with loss := w.tickedLoss l }))).trans (Work.tells_raise _ 13)
    obtain ⟨firm, warm⟩ := Work.each_addPrecool (w.fuellingHolders l)
      (w.modLoop l (fun y => { y with loss := w.tickedLoss l }))
    refine ⟨counted.tells told, told.spares.order, told.spares.serve, firm, fun band => ?_, fun _ p holder => ?_⟩
    · exact absurd ((if_pos band).symm.trans ten) (by decide)
    · exact ⟨warm p holder (.inl (State.mem_fuellingHolders.mp holder).2), Work.raised_requested _ (by decide)⟩
  · next less =>
    refine ⟨counted, rfl, rfl, .of_positions rfl, fun _ p => ⟨rfl, rfl⟩, fun ten p holder => ?_⟩
    exact absurd ⟨ten, List.ne_nil_of_mem holder⟩ less

end Sys2Proof.Machine
end

section
/-! SUPPORT. The serving of a loop's wait queue (04, R78, R80). -/
open Sys2Proof Sys2Proof.Machine
namespace Sys2Proof.Machine

/-! ### Step 4: the wait queue -/

theorem Work.pulsingSelect_band (w : Work) (p : PosId) :
    ((w.pulsingSelect p).pos p).ses.band = (w.pos p).ses.band := by
  cases found : w.select (w.needOf p) (w.pos p).cfg.cls.tiers with
  | some b =>
    rw [Work.pulsingSelect_found found, Work.modPos_pos_self]
    rfl
  | none => rw [Work.pulsingSelect_none found, Work.modPos_pos_self, (w.joinWaitList_frame p _).2.2.2]

/-- A position told of its grant is COLD, and a COOLING one goes on to PULSING (04, R80; 06, R109). -/
theorem Work.grantGiven_told (w : Work) (p : PosId) : ((w.grantGiven p).pos p).ses.band = .cold ∧
    ((w.pos p).ses.state = .cooling → ((w.grantGiven p).pos p).ses.state = .pulsing) := by
  unfold Work.grantGiven
  dsimp only
  split
  · rw [Work.pulsingSelect_band, (Work.pulsingSelect_selected _ p).state, Work.modPos_pos_self, Work.modPos_pos_self]
    exact ⟨rfl, fun _ => rfl⟩
  · next other =>
    rw [Work.modPos_pos_self]
    exact ⟨rfl, fun cooling => absurd cooling other⟩

/-- Grants that `n` rounds of a serving give, where the queue is long enough (04, R78). -/
def Loop.room (n : Nat) (x : Loop) : Nat :=
  if x.band = .cold ∧ x.floor ≤ x.reserve then min n (2 - x.grants.length) else 0

/-- The first `k` of the wait queue granted. -/
def Loop.granting (k : Nat) (x : Loop) : Loop :=
  { x with grants := x.grants ++ x.queue.take k, queue := x.queue.drop k }

theorem Loop.room_succ {x : Loop} (can : x.canGrant = true) (q : PosId) (rest : List PosId) (n : Nat) :
    x.room (n + 1) = ({ x with grants := x.grants ++ [q], queue := rest } : Loop).room n + 1 := by
  obtain ⟨short, cold, floor⟩ := x.canGrant_iff.mp can
  unfold Loop.room
  rw [if_pos ⟨cold, floor⟩, if_pos ⟨cold, floor⟩, List.length_append, List.length_singleton]
  omega

theorem Loop.room_none {x : Loop} (cannot : ¬ x.canGrant = true) (n : Nat) : x.room n = 0 := by
  unfold Loop.room
  split
  · next cold =>
    have full : ¬ x.grants.length < 2 := fun short => cannot (x.canGrant_iff.mpr ⟨short, cold⟩)
    omega
  · rfl

theorem Loop.granting_zero (x : Loop) : x.granting 0 = x := by
  unfold Loop.granting
  rw [List.take_zero, List.append_nil, List.drop_zero]

theorem Loop.granting_nobody {x : Loop} (nobody : x.queue = []) (k : Nat) : x.granting k = x := by
  unfold Loop.granting
  rw [nobody, List.take_nil, List.append_nil, List.drop_nil, ← nobody]

theorem Loop.granting_succ {x : Loop} {q : PosId} {rest : List PosId} (queue : x.queue = q :: rest) (k : Nat) :
    ({ x with grants := x.grants ++ [q], queue := rest } : Loop).granting k = x.granting (k + 1) := by
  unfold Loop.granting
  rw [queue, List.take_succ_cons, List.drop_succ_cons, List.append_assoc, List.singleton_append]

/-- The first `k` of the wait queue of `l` are granted, from `w` to `t` (04, R78, R80). -/
structure Work.QueueServed (l : LoopId) (k : Nat) (w t : Work) : Prop where
  becomes : Work.Becomes l ((w.loop l).granting k) w t
  order : t.powerQueue = w.powerQueue
  serve : t.serveDue = w.serveDue
  others : ∀ p, p ∉ (w.loop l).queue → Work.Unmoved p w t
  told : (w.loop l).queue.Nodup → ∀ p ∈ (w.loop l).queue.take k, (t.pos p).ses.band = .cold ∧
    ((w.pos p).ses.state = .cooling → (t.pos p).ses.state = .pulsing)

theorem Work.queueServed_none {w : Work} {l : LoopId} {k : Nat} (none : k = 0 ∨ (w.loop l).queue = []) :
    Work.QueueServed l k w w := by
  obtain rfl | nobody := none
  · exact ⟨by rw [Loop.granting_zero]; exact w.becomes_refl l, rfl, rfl, fun p _ => .refl p w,
      fun _ p listed => by rw [List.take_zero] at listed; cases listed⟩
  · exact ⟨by rw [Loop.granting_nobody nobody]; exact w.becomes_refl l, rfl, rfl, fun p _ => .refl p w,
      fun _ p listed => by rw [nobody, List.take_nil] at listed; cases listed⟩

/-- The head `q` of the wait queue of `l` is granted, before it is told. -/
def Work.grantHead (l : LoopId) (q : PosId) (rest : List PosId) (w : Work) : Work :=
  w.modLoop l (fun x => { x with grants := x.grants ++ [q], queue := rest })

theorem Work.grantHead_becomes (w : Work) (l : LoopId) (q : PosId) (rest : List PosId) :
    Work.Becomes l { w.loop l with grants := (w.loop l).grants ++ [q], queue := rest } w (w.grantHead l q rest) :=
  w.becomes_modLoop l (f := fun x => { x with grants := x.grants ++ [q], queue := rest })
    (fun _ => ⟨rfl, rfl, rfl, rfl, rfl⟩) fun _ => rfl

/-- The head of the queue granted, and then more. -/
theorem Work.QueueServed.cons {l : LoopId} {k : Nat} {w t : Work} {q : PosId} {rest : List PosId}
    (queue : (w.loop l).queue = q :: rest)
    (h : Work.QueueServed l k ((w.grantHead l q rest).grantGiven q) t) :
    Work.QueueServed l (k + 1) w t := by
  obtain ⟨band, pulsing⟩ := (w.grantHead l q rest).grantGiven_told q
  have tells := (w.grantHead l q rest).tells_grantGiven q
  have only : Work.TellsOnly q w ((w.grantHead l q rest).grantGiven q) := fun p other =>
    .trans (b := w.grantHead l q rest) ⟨rfl, rfl⟩ (Work.tellsOnly_grantGiven _ q p other)
  have order : ((w.grantHead l q rest).grantGiven q).powerQueue = w.powerQueue := tells.spares.order
  have serve : ((w.grantHead l q rest).grantGiven q).serveDue = w.serveDue := tells.spares.serve
  have granted := (w.grantHead_becomes l q rest).tells tells
  generalize (w.grantHead l q rest).grantGiven q = v
    at h band pulsing only order serve granted
  obtain ⟨becomes, order', serve', others, told⟩ := h
  rw [granted.here] at becomes others told
  refine ⟨?_, order'.trans order, serve'.trans serve, fun p out => ?_, fun once p listed => ?_⟩
  · rw [← Loop.granting_succ queue]
    exact granted.trans becomes
  · rw [queue] at out
    obtain ⟨other, later⟩ := not_or.mp (List.mem_cons.not.mp out)
    exact (only p other).trans (others p later)
  · rw [queue] at once listed
    obtain ⟨out, once⟩ := List.nodup_cons.mp once
    rw [List.take_succ_cons] at listed
    obtain rfl | later := List.mem_cons.mp listed
    · have stands := others p out
      rw [stands.pos]
      exact ⟨band, pulsing⟩
    · have other : p ≠ q := fun e => out (e ▸ List.mem_of_mem_take later)
      have stands := only p other
      rw [← stands.pos]
      exact told once p later

theorem Work.serveQueueN_served (n : Nat) (l : LoopId) (w : Work) :
    Work.QueueServed l ((w.loop l).room n) w (Work.serveQueueN n l w) := by
  induction n generalizing w with
  | zero =>
    refine Work.queueServed_none (.inl ?_)
    unfold Loop.room
    split <;> omega
  | succ n ih =>
    unfold Work.serveQueueN
    split
    · next nobody => exact Work.queueServed_none (.inr nobody)
    · next q rest queue =>
      split
      · next can =>
        have loop : ((w.grantHead l q rest).grantGiven q).loop l =
            { w.loop l with grants := (w.loop l).grants ++ [q], queue := rest } :=
          (congrArg (·.get l) (Work.grantGiven_loops _ q)).trans (w.grantHead_becomes l q rest).here
        have served := ih ((w.grantHead l q rest).grantGiven q)
        rw [loop] at served
        rw [Loop.room_succ can q rest]
        exact served.cons queue
      · next cannot => exact Work.queueServed_none (.inl (Loop.room_none cannot _))

end Sys2Proof.Machine
end

section
/-! A tick of a loop, and O25 (04, R73 to R78, R80). -/
open Sys2Proof Sys2Proof.Machine
namespace Sys2Proof.Machine

/-! ### The statement's terms -/

theorem fuellingHolders_count (s : State) (l : LoopId) : (s.fuellingHolders l).length = FuellingHolders s l := by
  unfold State.fuellingHolders FuellingHolders
  simp only [beq_eq_decide]

theorem tickedReserve_eq (s : State) (l : LoopId) : s.tickedReserve l =
    min ((s.loop l).reserve + (if (s.loop l).chiller = .running then (s.loop l).recharge else 0) -
      (s.loop l).consumption * FuellingHolders s l) (s.loop l).capacity := by
  rw [← fuellingHolders_count]
  rfl

theorem Loop.bandNow_eq (x : Loop) : x.bandNow = BandOf x.outlet x.reserve := by
  unfold Loop.bandNow BandOf
  cases x.outlet with
  | none => rfl
  | some v =>
    dsimp only
    by_cases empty : x.reserve = 0
    · simp [empty]
    · simp [empty, Nat.pos_of_ne_zero empty]

theorem Loop.demand_iff (x : Loop) :
    x.demand = true ↔ x.reserve ≤ x.capacity * 9 / 10 ∨ x.grants ≠ [] ∨ x.queue ≠ [] := by
  unfold Loop.demand
  simp [or_assoc]

/-! ### The first half: reserve and chiller -/

/-- What steps 1 and 2 leave, from the state `s` before the tick to `w`. -/
structure State.Chilled (l : LoopId) (s : State) (w : Work) : Prop where
  becomes : Work.Becomes l { s.loop l with reserve := s.tickedReserve l, chiller := (w.loop l).chiller } s.begin w
  sessions : s.begin.SparesSessions w
  empties : 0 < (s.loop l).reserve → s.tickedReserve l = 0 → w.requested 13
  runs : (s.loop l).chiller = .off →
    (s.tickedReserve l ≤ (s.loop l).capacity * 9 / 10 ∨ (s.loop l).grants ≠ [] ∨ (s.loop l).queue ≠ []) →
    s.granted + (s.loop l).draw ≤ s.station.allowance → (w.loop l).chiller = .running
  waits : (s.loop l).chiller = .off →
    (s.tickedReserve l ≤ (s.loop l).capacity * 9 / 10 ∨ (s.loop l).grants ≠ [] ∨ (s.loop l).queue ≠ []) →
    s.station.allowance < s.granted + (s.loop l).draw →
    (w.loop l).chiller = .waitingPower ∧ w.powerQueue = s.powerQueue ++ [l]
  idle : (s.loop l).chiller = .off → (s.loop l).capacity * 9 / 10 < s.tickedReserve l → (s.loop l).grants = [] →
    (s.loop l).queue = [] → (w.loop l).chiller = .off
  stops : (s.loop l).chiller ≠ .off →
    s.tickedReserve l = (s.loop l).capacity ∧ (s.loop l).grants = [] ∧ (s.loop l).queue = [] →
    (w.loop l).chiller = .off ∧ l ∉ w.powerQueue
  stays : (s.loop l).chiller ≠ .off →
    ¬(s.tickedReserve l = (s.loop l).capacity ∧ (s.loop l).grants = [] ∧ (s.loop l).queue = []) →
    (w.loop l).chiller = (s.loop l).chiller
  owes : w.serveDue = false ∨ l ∉ w.powerQueue

theorem State.chilled {s : State} (order : s.WaitingOrder) (l : LoopId) :
    s.Chilled l ((s.begin.tickReserve l).tickChiller l) := by
  obtain ⟨reserve, sessions, queue, serve, granted⟩ := s.begin.tickReserve_becomes l
  have empties := Work.tickReserve_requested (w := s.begin) (l := l)
  generalize s.begin.tickReserve l = v at reserve sessions queue serve granted empties ⊢
  have ticked := v.tickChiller_ticked l
  generalize v.tickChiller l = w at ticked ⊢
  obtain ⟨becomes, sessions', runs, waits, idle, stops, stays, owes, leaves⟩ := ticked
  have here : v.loop l = { s.loop l with reserve := s.tickedReserve l } := reserve.here
  have station : v.station = s.station := reserve.steady.station
  have listed : v.powerQueue = s.powerQueue := queue
  have power : v.granted = s.granted := granted
  have demand := Loop.demand_iff (v.loop l)
  rw [here] at becomes runs waits idle stops stays owes leaves demand
  rw [station, power] at runs waits
  rw [listed] at waits owes leaves
  dsimp only at becomes runs waits idle stops stays owes leaves demand
  have running : (s.loop l).chiller = .running → l ∉ s.powerQueue := fun runs inside => by
    rw [(order.2 l).mp inside] at runs
    cases runs
  refine ⟨reserve.trans becomes, ⟨sessions'.positions.trans sessions.positions,
    sessions'.waitList.trans sessions.waitList⟩, fun some none => becomes.steady.raised 13 (empties some none),
    fun off asks => runs off (demand.mpr asks), fun off asks => waits off (demand.mpr asks),
    fun off enough noGrant nobody => idle off (Bool.eq_false_iff.mpr fun asks => ?_),
    fun on sated => ⟨stops on sated, leaves on sated running⟩, stays, ?_⟩
  · obtain low | grants | queue := demand.mp asks
    · omega
    · exact grants noGrant
    · exact queue nobody
  · obtain owes | ⟨runs, _, kept⟩ := owes
    · exact .inl (owes.trans serve)
    · exact .inr (by rw [kept]; exact running runs)

/-! ### The second half: band, loss count and wait queue -/

/-- What step 3 makes of the loop and its holders up to the loss count (04, R75, R76). -/
structure Work.BandTicked (l : LoopId) (w t : Work) : Prop where
  banded : Work.Banded l (w.loop l).bandNow w t
  unmoved : ∀ p, p ∉ (w.loop l).grants → Work.Unmoved p w t
  same : (w.loop l).bandNow = (w.loop l).band → t = w
  told : (w.loop l).bandNow ≠ (w.loop l).band → (w.loop l).band ≠ .lost → ∀ p ∈ (w.loop l).grants,
    t.pos p = { w.pos p with ses.band := (w.loop l).bandNow }
  relieved : (w.loop l).bandNow ≠ (w.loop l).band → (w.loop l).band = .lost → ∀ p ∈ (w.loop l).grants,
    Position.Relieved { w.pos p with ses.band := (w.loop l).bandNow } (t.pos p) (t.waits p)

theorem Work.tickBand_ticked {w : Work} {l : LoopId} (once : (w.loop l).grants.Nodup) :
    Work.BandTicked l w (w.tickBand l) where
  banded := w.tickBand_banded l
  unmoved := fun _ => Work.tickBand_unmoved
  same := Work.tickBand_same
  told := fun changed had p holder => by
    rw [Work.tickBand_reported changed had]
    exact (Work.reportBand_holder once holder _).1
  relieved := fun changed lost p holder => Work.tickBand_relieved once holder changed lost

/-- Where the new band is LOST a holder keeps its state. -/
theorem Work.BandTicked.lost_state {l : LoopId} {w t : Work} (h : Work.BandTicked l w t)
    (lost : (w.loop l).bandNow = .lost) {p : PosId} (holder : p ∈ (w.loop l).grants) :
    (t.pos p).ses.state = (w.pos p).ses.state := by
  by_cases same : (w.loop l).bandNow = (w.loop l).band
  · rw [h.same same]
  · rw [h.told same (fun before => same (lost.trans before.symm)) p holder]

/-- A holder knows the new band. -/
theorem Work.BandTicked.holder_band {l : LoopId} {w t : Work} (h : Work.BandTicked l w t)
    (changed : (w.loop l).bandNow ≠ (w.loop l).band) {p : PosId} (holder : p ∈ (w.loop l).grants) :
    (t.pos p).ses.band = (w.loop l).bandNow := by
  by_cases lost : (w.loop l).band = .lost
  · exact (h.relieved changed lost p holder).band
  · rw [h.told changed lost p holder]

/-- A holder in HELD without PRECOOL, or whose loop was not LOST, stays as it is. -/
theorem Work.BandTicked.holder_kept {l : LoopId} {w t : Work} (h : Work.BandTicked l w t) {p : PosId}
    (holder : p ∈ (w.loop l).grants) (free : (w.loop l).band ≠ .lost ∨ (w.pos p).ses.causes.precool = false) :
    (t.pos p).ses.state = (w.pos p).ses.state ∧ (t.pos p).ses.causes = (w.pos p).ses.causes := by
  by_cases same : (w.loop l).bandNow = (w.loop l).band
  · rw [h.same same]
    exact ⟨rfl, rfl⟩
  · by_cases lost : (w.loop l).band = .lost
    · rw [(h.relieved same lost p holder).without (free.resolve_left (not_not_intro lost))]
      exact ⟨rfl, rfl⟩
    · rw [h.told same lost p holder]
      exact ⟨rfl, rfl⟩

/-- The loss count follows the holders in FUELLING before the tick. -/
theorem Work.BandTicked.loss {l : LoopId} {w t : Work} (h : Work.BandTicked l w t) :
    t.tickedLoss l = { w.loop l with band := (w.loop l).bandNow }.lossAfter (FuellingHolders w.toState l) := by
  unfold State.tickedLoss
  rw [h.banded.becomes.here]
  by_cases lost : (w.loop l).bandNow = .lost
  · have holders : t.fuellingHolders l = w.fuellingHolders l := by
      unfold State.fuellingHolders
      rw [h.banded.becomes.here]
      exact List.filter_congr fun p holder => by rw [h.lost_state lost holder]
    rw [holders, fuellingHolders_count]
  · unfold Loop.lossAfter
    rw [if_pos lost, if_pos lost]

/-- Loop `l` after step 3: its band, and its loss count by the holders in FUELLING (04, R75, R76). -/
def State.bandedLoop (s : State) (l : LoopId) : Loop :=
  { s.loop l with
    band := (s.loop l).bandNow,
    loss := { s.loop l with band := (s.loop l).bandNow }.lossAfter (FuellingHolders s l) }

/-- What steps 3 and 4 make of the loop, its holders and its wait queue, from `w` to `t`. -/
structure Work.TickedOn (l : LoopId) (w t : Work) : Prop where
  becomes : Work.Becomes l ((w.bandedLoop l).granting ((w.bandedLoop l).room 2)) w t
  order : t.powerQueue = w.powerQueue
  serve : t.serveDue = w.serveDue
  lost : (w.bandedLoop l).loss = 10 → (w.loop l).bandNow = .lost → ∀ p ∈ (w.loop l).grants,
    (w.pos p).ses.state = .fuelling → (t.pos p).Warm ∧ t.requested 13
  band : (w.loop l).bandNow ≠ (w.loop l).band → ∀ p ∈ (w.loop l).grants, (t.pos p).ses.band = (w.loop l).bandNow
  relieved : (w.loop l).bandNow ≠ .lost → (w.loop l).band = .lost → ∀ p ∈ (w.loop l).grants,
    Position.Relieved { w.pos p with ses.band := (w.loop l).bandNow } (t.pos p) (t.waits p)
  kept : (w.loop l).bandNow ≠ .lost → ∀ p ∈ (w.loop l).grants,
    (w.loop l).band ≠ .lost ∨ (w.pos p).ses.causes.precool = false →
    (t.pos p).ses.state = (w.pos p).ses.state ∧ (t.pos p).ses.causes = (w.pos p).ses.causes
  granted : ∀ p ∈ (w.loop l).queue.take ((w.bandedLoop l).room 2), (t.pos p).ses.band = .cold ∧
    ((w.pos p).ses.state = .cooling → (t.pos p).ses.state = .pulsing)

theorem Work.tickedOn {w : Work} {l : LoopId} (once : ((w.loop l).grants ++ (w.loop l).queue).Nodup) :
    Work.TickedOn l w (((w.tickBand l).tickLoss l).serveQueue l) := by
  obtain ⟨onceGrants, onceQueue, apart⟩ := List.nodup_append.mp once
  have bands := Work.tickBand_ticked onceGrants
  generalize w.tickBand l = v at bands ⊢
  have losses := v.tickLoss_ticked l
  generalize v.tickLoss l = u at losses ⊢
  have serving : Work.QueueServed l ((u.loop l).room 2) u (u.serveQueue l) := u.serveQueueN_served 2 l
  generalize u.serveQueue l = t at serving ⊢
  have vLoop := bands.banded.becomes.here
  have uLoop : u.loop l = w.bandedLoop l := by
    rw [losses.becomes.here, vLoop, bands.loss]
    rfl
  obtain ⟨becomes, order, serve, others, told⟩ := serving
  rw [uLoop] at becomes others told
  have vGrants : (v.loop l).grants = (w.loop l).grants := by rw [vLoop]
  have vBand : (v.loop l).band = (w.loop l).bandNow := by rw [vLoop]
  have holderStands : ∀ p ∈ (w.loop l).grants, Work.Unmoved p u t := fun p holder =>
    others p fun inside => apart p holder p inside rfl
  have stands : (w.loop l).bandNow ≠ .lost → ∀ p ∈ (w.loop l).grants, Work.Unmoved p v t := fun some p holder =>
    (losses.kept (by rw [vBand]; exact some) p).trans (holderStands p holder)
  refine ⟨(bands.banded.becomes.trans losses.becomes).trans becomes,
    order.trans (losses.order.trans bands.banded.order), serve.trans (losses.serve.trans bands.banded.serve),
    fun ten lost p holder fuelling => ?_, fun changed p holder => ?_, fun some lost p holder => ?_,
    fun some p holder free => ?_, fun p head => ?_⟩
  · have told := losses.held (bands.loss.trans ten) p (State.mem_fuellingHolders.mpr
      ⟨by rw [vGrants]; exact holder, (bands.lost_state lost holder).trans fuelling⟩)
    rw [(holderStands p holder).pos]
    exact ⟨told.1, becomes.steady.raised 13 told.2⟩
  · rw [(holderStands p holder).pos, (losses.firm p).band]
    exact bands.holder_band changed holder
  · have same := stands some p holder
    rw [same.pos, same.waits]
    exact bands.relieved (fun same => some (same.trans lost)) lost p holder
  · rw [(stands some p holder).pos]
    exact bands.holder_kept holder free
  · have out : p ∉ (w.loop l).grants := fun holder => apart p holder p (List.mem_of_mem_take head) rfl
    have cold : (w.bandedLoop l).room 2 ≠ 0 → (w.loop l).bandNow = .cold := fun some => by
      unfold Loop.room at some
      split at some
      · next can => exact can.1
      · exact absurd rfl some
    have some : (w.bandedLoop l).room 2 ≠ 0 := fun none => by
      rw [none, List.take_zero] at head
      cases head
    have before := (bands.unmoved p out).trans (losses.kept (by rw [vBand, cold some]; decide) p)
    rw [← before.pos]
    exact told onceQueue p head

end Sys2Proof.Machine
end

section
/-! O25: the tick from the state before it to the rule's end (04, R73 to R78, R80). -/
open Sys2Proof Sys2Proof.Machine
namespace Sys2Proof.Machine

/-! ### A whole tick -/

/-- A tick in its two halves, and the rule's end. -/
theorem State.tick_runs {s : State} {l : LoopId} (order : s.WaitingOrder) (range : s.LoopsInRange) :
    ∃ w u : Work, s.Chilled l w ∧ Work.TickedOn l w u ∧ s.rule (Work.precoolTick l) = u.close s := by
  have chilled := s.chilled order l
  have once : ((((s.begin.tickReserve l).tickChiller l).loop l).grants ++
      (((s.begin.tickReserve l).tickChiller l).loop l).queue).Nodup := by
    obtain ⟨_, _, _, once⟩ := range l
    rw [chilled.becomes.here]
    exact once
  exact ⟨_, _, chilled, Work.tickedOn once, rfl⟩

section
variable {l : LoopId} {s : State} {w : Work} (h : s.Chilled l w)
include h

theorem State.Chilled.pos (p : PosId) : w.pos p = s.pos p := (h.sessions.unmoved p).pos

theorem State.Chilled.grants : (w.loop l).grants = (s.loop l).grants := by rw [h.becomes.here]

theorem State.Chilled.queue : (w.loop l).queue = (s.loop l).queue := by rw [h.becomes.here]

theorem State.Chilled.oldBand : (w.loop l).band = (s.loop l).band := by rw [h.becomes.here]

theorem State.Chilled.holders : FuellingHolders w.toState l = FuellingHolders s l := by
  unfold FuellingHolders
  rw [h.grants]
  simp only [h.pos]

theorem State.Chilled.band : (w.loop l).bandNow = BandOf (s.loop l).outlet (s.tickedReserve l) := by
  rw [Loop.bandNow_eq, h.becomes.here]

/-- Loop `l` after the first three steps, in the terms of the state before the tick. -/
theorem State.Chilled.bandedLoop : w.bandedLoop l = { s.loop l with
    reserve := s.tickedReserve l
    chiller := (w.loop l).chiller
    band := (w.loop l).bandNow
    loss :=
      if (w.loop l).bandNow ≠ .lost then 0
      else if FuellingHolders s l = 0 then (s.loop l).loss
      else min 10 ((s.loop l).loss + 1) } := by
  unfold State.bandedLoop Loop.lossAfter
  rw [h.holders]
  generalize (w.loop l).bandNow = b
  rw [h.becomes.here]

theorem State.Chilled.room : (w.bandedLoop l).room 2 = GrantsAt s l (w.loop l).bandNow (s.tickedReserve l) := by
  unfold Loop.room GrantsAt
  rw [h.bandedLoop]
  dsimp only
  rw [Nat.min_eq_right (Nat.sub_le _ _)]

end

/-- The chiller stands from the second step to the rule's end. -/
theorem State.Chilled.close {l : LoopId} {s : State} {w u : Work} (h : s.Chilled l w) (g : Work.TickedOn l w u) :
    ((u.close s).loop l).chiller = (w.loop l).chiller ∧ (l ∉ w.powerQueue → l ∉ (u.close s).powerQueue) ∧
      (l ∈ w.powerQueue → (u.close s).powerQueue = w.powerQueue) := by
  have chiller : (u.loop l).chiller = (w.loop l).chiller := by rw [g.becomes.here]; rfl
  have off : l ∉ w.powerQueue → l ∉ u.powerQueue := fun out => by rw [g.order]; exact out
  obtain unserved | out := h.owes
  · obtain ⟨loops, order⟩ := Work.close_unserved (g.serve.trans unserved) s
    rw [order]
    exact ⟨(congrArg (fun x => (x.get l).chiller) loops).trans chiller, off, fun _ => g.order⟩
  · obtain ⟨loop, stays⟩ := Work.close_loop_off (off out) s
    exact ⟨(congrArg Loop.chiller loop).trans chiller, fun _ => stays, fun inside => absurd inside out⟩

end Sys2Proof.Machine

/-- Settles O25: the four steps in turn. Steps 1 and 2 leave the sessions (`State.Chilled`), steps 3 and 4 the chiller
(`Work.TickedOn`), and the rule's end both. -/
theorem precoolTickRunsTheLoop : Obligations.PrecoolTickRunsTheLoop := by
  intro l s
  refine ⟨fun stopped => ?_, fun runs order range reserve band n reserveEq bandEq countEq => ?_⟩
  · show Host.Outcome.next (if (s.loop l).tick.isSome then s.rule (Work.precoolTick l) else s) = _
    rw [stopped]
    rfl
  · obtain ⟨w, u, chilled, ticked, rule⟩ := State.tick_runs (l := l) order range
    obtain ⟨chiller, stays, waits⟩ := chilled.close ticked
    rw [← tickedReserve_eq] at reserveEq
    have bandNow : (w.loop l).bandNow = band := by rw [chilled.band, bandEq, reserveEq]
    have room : (w.bandedLoop l).room 2 = n := by rw [chilled.room, countEq, bandNow, reserveEq]
    have loop := chilled.bandedLoop
    have becomes := ticked.becomes
    have settles := (u.settles_close s).steady
    have steady : s.Steady (u.close s) := (chilled.becomes.steady.trans becomes.steady).trans settles
    have closePos := u.close_pos s
    have closeWaits := u.close_waits s
    have closeLoop := u.close_chillers s
    obtain ⟨_, _, _, lostHolders, holderBand, relieved, kept, granted⟩ := ticked
    rw [room] at becomes granted
    rw [bandNow] at loop lostHolders holderBand relieved kept
    rw [chilled.grants] at lostHolders holderBand relieved kept
    rw [chilled.oldBand] at holderBand relieved kept
    rw [chilled.queue] at granted
    simp only [chilled.pos] at lostHolders relieved kept granted
    refine ⟨u.close s, ?_, ?_, ?_, ?_, ?_, ?_, ?_, ?_, ?_, ?_, ?_, ?_, steady.station, steady.holds, steady.port,
      steady.settings⟩
    · show Host.Outcome.next (if (s.loop l).tick.isSome then s.rule (Work.precoolTick l) else s) = _
      rw [if_pos runs, rule]
    · rw [closeLoop l, becomes.here, loop, reserveEq]
      rfl
    · intro some none
      exact settles.raised 13 (becomes.steady.raised 13 (chilled.empties some (reserveEq ▸ none)))
    · intro off asks
      rw [reserveEq] at asks
      refine ⟨fun fits => chiller.trans (chilled.runs off asks fits), fun full => ?_⟩
      obtain ⟨waiting, listed⟩ := chilled.waits off asks full
      exact ⟨chiller.trans waiting, (waits (by rw [listed]; simp)).trans listed⟩
    · intro off enough noGrant nobody
      exact chiller.trans (chilled.idle off (reserveEq ▸ enough) noGrant nobody)
    · intro on
      rw [reserveEq]
      exact ⟨fun sated => ⟨chiller.trans (chilled.stops on sated).1, stays (chilled.stops on sated).2⟩,
        fun busy => chiller.trans (chilled.stays on busy)⟩
    · intro p holder lost nine fuelling
      have some : FuellingHolders s l ≠ 0 := by
        rw [← fuellingHolders_count, Ne, List.length_eq_zero_iff]
        exact List.ne_nil_of_mem (State.mem_fuellingHolders.mpr ⟨holder, fuelling⟩)
      have ten : (w.bandedLoop l).loss = 10 := by
        rw [loop]
        dsimp only
        rw [if_neg (not_not_intro lost), if_neg some]
        omega
      obtain ⟨⟨held, precool⟩, requested⟩ := lostHolders ten lost p holder fuelling
      rw [closePos]
      exact ⟨held, precool, settles.raised 13 requested⟩
    · intro p holder changed
      rw [closePos]
      exact holderBand changed p holder
    · intro p holder some lost held precool
      have relief := relieved some lost p holder
      rw [closePos, closeWaits]
      exact ⟨relief.others held precool, relief.last held⟩
    · intro p holder some free held
      rw [closePos]
      obtain ⟨state, causes⟩ := kept some p holder free
      exact ⟨state.trans held, causes⟩
    · intro p head
      rw [closePos]
      exact granted p head
    · intro m other
      rw [closeLoop m, becomes.there m other, chilled.becomes.there m other]
      rfl
end
